-- ==== Sys2Proof/Word.lean ====
section
/-! DEFINITION. The words of the common area and of the SPI frame. -/

namespace Sys2Proof

/-- Eight bits: the control byte of a frame (R165), and the byte cells memory is kept in. -/
abbrev Byte := BitVec 8

/-- Sixteen bits: one word of the common area or of a link register (10.3, 10.6). -/
abbrev Word := BitVec 16

end Sys2Proof
end

