-- ==== Sys2Proof/Syntax.lean ====
section
/-! DEFINITION. The commands and events the part takes, one constructor of `Instr` for each row of
spec/opcode_table.json, with the operands the rule of the row gives. -/

namespace Sys2Proof

/-- The two cells (1.6: the suffix x stands for A or B). -/
inductive CellId where
  | a | b
  deriving DecidableEq, Repr

/-- The two inputs, wired (VIN_W) and coil (VIN_C), of chapter 8. -/
inductive Input where
  | wired | coil
  deriving DecidableEq, Repr

/-- The conditions a fast comparator finds: OV, OCC and OCD of either cell, and HINGE of cell B (R14). -/
inductive FastCondition where
  | ovA | occA | ocdA | ovB | occB | ocdB | hingeB
  deriving DecidableEq, Repr

/-- What the converter meets at its input at a conversion: a level in the channel's unit, of any size (R28), or, on a
thermistor channel, a thermistor that is open or shorted. -/
inductive Analog where
  | level (v : Int)
  | thermistorOpen
  | thermistorShorted
  deriving DecidableEq, Repr

/-- The bus events of an SPI frame (R165, R168, R174). A word that a rise of CSN cuts short is no `writeWord`. -/
inductive FrameEvent where
  /-- CSN falls. -/
  | csnFall
  /-- The eighth bit of the control byte has been received. -/
  | control (b : Byte)
  /-- The sixteenth bit of the address has been received. -/
  | address (a : Word)
  /-- The sixteenth bit of a data word has been received on SDI. -/
  | writeWord (w : Word)
  /-- The first bit of the next data word falls due on SDO. -/
  | readDue
  /-- CSN rises. -/
  | csnRise
  deriving DecidableEq, Repr

/-- The commands: one constructor for each row of the table. -/
inductive Instr where
  | por
  | startupBegin
  | startupSlotExpiry
  /-- A stretch of a frame, from a single bus event to a whole frame, with no other step between its events. -/
  | linkFrame (stretch : List FrameEvent)
  | linkReadRunCompletion
  | linkWriteRunCompletion
  | nextWrite (value : Word)
  | doneRead
  | noteWrite (value : Word)
  | maskWrite (value : Word)
  /-- A write of a word to a byte address that takes no write: ID, DONE or an unmapped address (R166). -/
  | registerWriteDropped (addr value : Word)
  | softReset
  | skipItem
  | skipList
  | ship
  | releaseA
  | releaseB
  | profileStartA
  | profileStartB
  | profileStopA
  | profileStopB
  | clearWindow
  | presetA
  | presetB
  | qreqRise
  | qreqFall
  | fastComparatorEvent (condition : FastCondition)
  | inputCollapseEvent (input : Input)
  | attachWakeEvent (input : Input)
  | shipSlotExpiry
  | periodExpiry
  | waitExpiry
  /-- `foldHigh` is the level of the FOLD line at the event, which the fold monitor samples when the conversion
  completes the scan (R11). -/
  | scanConversionCompletion (input : Analog) (foldHigh : Bool)
  | probeConversionCompletion (input : Analog)
  | gaugeIntegrate
  | gaugeFull
  | gaugePreset
  | allocationCompletion
  | restExpiry
  | refreshBlockWrite
  | profileFetchCompletion
  | itemFetchCompletion
  | seqWriteCompletion
  deriving DecidableEq, Repr

end Sys2Proof
end

