-- ==== Sys2Proof/Decode.lean ====
section
/-! DEFINITION. The decoder over the rows of spec/opcode_table.json that give bits. No row gives any. -/

namespace Sys2Proof

/-- The command a word of the table spells: none, since every row of the table has an empty list of fields
(log entry 37). -/
def decodeTableWord (_nbits _w : Nat) : Option Instr := none

end Sys2Proof
end

