-- ==== Sys2Proof/Config.lean ====
section
/-! DEFINITION. The free values: choices the manual leaves to the part. Each is a constant without a body,
applied to `State.freeCounter`, so that a claim about it holds whatever the part chooses. -/

namespace Sys2Proof.Config

/-- Which of several causes of a forced REST or OFF that fall at one scan completion is the first taken, and so
the stop cause written (R26 "It sets no order among the blocks' actions", R119, R121). Log entry 11. -/
opaque stopCauseChoice : Nat → Nat

/-- Whether a FOLD trigger is taken before the freezing or thaw of the sequencer that falls at the same scan
completion (R26, R147, R184). Log entry 12. -/
opaque triggerTakenFirst : Nat → Bool

/-- How many of the stages budget, ceilings, charge split and supply split an allocation in flight has worked, and so
read the settings words of, by an event that may change a settings word or abandon it (R86, R87). Log entry 10. -/
opaque stagesWorked : Nat → Nat

/-- Whether an allocation in flight past its counter point has read CAP_x, for the states of charge, before the stage of the
charge split is worked (R40, R46, R86, R99). Log entry 39. -/
opaque capacityTaken : Nat → Bool

/-- Whether a supply set-point that stands at case 5 of R6 is kept, as R8 leaves it, or becomes the 0 that case 5
names. Log entry 13. -/
opaque standingSupplyKept : Nat → Bool

end Sys2Proof.Config
end

