-- ==== Sys2Proof/Machine/State.lean ====
section
/-! DEFINITION. The state of the part as plain data: every register, queue, mark, counter and pin the spec names,
the stops, and the state right after a power-on reset. -/

namespace Sys2Proof.Machine

/-- Two like things, one for each cell (1.6). -/
structure PerCell (α : Type) where
  a : α
  b : α
  deriving DecidableEq, Repr

/-! ### Cell paths (chapter 1) -/

/-- 1.2. -/
inductive ChargeState where
  | absent | idle | precharge | bulk | taper | full | held | tripped
  deriving DecidableEq, Repr

/-- The set of hold reasons of a cell (R4). -/
structure Holds where
  band : Bool
  window : Bool
  quiet : Bool
  heat : Bool
  deriving DecidableEq, Repr

/-- The causes of a trip (R14). -/
inductive TripCause where
  | ov | occ | ocd | ot | hinge
  deriving DecidableEq, Repr

/-- How a trip was found (R18). -/
inductive TripDetection where
  | fast | scan
  deriving DecidableEq, Repr

/-- The first fault since the last release (R18). -/
structure TripRecord where
  cause : TripCause
  detection : TripDetection
  vpin : Int
  current : Int
  temperature : Int
  periodCount : Nat
  deriving DecidableEq, Repr

/-- 1.1: the outcome of the latest RELEASE. -/
inductive ReleaseResult where
  | none | released | refused | notTripped
  deriving DecidableEq, Repr

/-- The levels a cell's trip conditions compare with (R14); `hinge` is used for cell B alone. -/
structure Thresholds where
  ov : Nat
  occ : Nat
  ocd : Nat
  ot : Nat
  hinge : Nat
  deriving DecidableEq, Repr

/-- What a cell path holds (1.1). -/
structure CellPath where
  charge : ChargeState
  holds : Holds
  setPoint : Int
  pathOpen : Bool
  vcell : Nat
  tp : Nat
  renewal : Bool
  termCount : Nat
  emptyLatch : Bool
  trip : Option TripRecord
  tripCount : Nat
  releaseResult : ReleaseResult
  /-- the thresholds the fast comparators follow (R14) -/
  thresholds : Thresholds
  deriving DecidableEq, Repr

/-- The fold monitor (R11), and the level of the FOLD line as it was last sampled. -/
structure FoldMonitor where
  folded : Bool
  count : Nat
  firstScan : Bool
  line : Bool
  deriving DecidableEq, Repr

/-! ### Period timer and converter (chapter 2) -/

/-- R22. -/
inductive PeriodLength where
  | ms4 | ms32
  deriving DecidableEq, Repr

structure PeriodTimer where
  count : Nat
  length : PeriodLength
  running : Bool
  deriving DecidableEq, Repr

/-- One reading for each of the channels 0 to 13, by the names of 2.3. -/
structure Readings where
  vpinA : Int
  vpinB : Int
  iA : Int
  iB : Int
  tA : Int
  tB : Int
  vWired : Int
  vCoil : Int
  iIn : Int
  vSys : Int
  iSys : Int
  tDie : Int
  iXfer : Int
  tHinge : Int
  deriving DecidableEq, Repr

/-- The scan record (2.2); channels not yet converted read 0 in it. -/
structure ScanRecord where
  periodCount : Nat
  length : PeriodLength
  next : Nat
  readings : Readings
  deriving DecidableEq, Repr

/-- The conversion now being made, and for whom (2.4). A probe conversion carries its channel, and whether a reset
has made its reading one to be dropped at the converter (R31). -/
inductive Conversion where
  | none
  | scan
  | probe (channel : Nat) (dropped : Bool)
  deriving DecidableEq, Repr

structure Converter where
  scan : Option ScanRecord
  scanPending : Nat
  probePending : Nat
  probeChannel : Nat
  inFlight : Conversion
  latest : Option ScanRecord
  lateCount : Nat
  deriving DecidableEq, Repr

/-! ### Charge counters (chapter 3) -/

/-- An entry of the gauge list (3.1). Q and F themselves are words of the common area (R35). -/
inductive GaugeEntry where
  | integrate (iA iB : Int) (t : Nat) (emptyA emptyB : Bool)
  | full (c : CellId)
  | preset (c : CellId)
  deriving DecidableEq, Repr

/-! ### Band unit (chapter 4) -/

/-- ALLOW (4.1): charge, supply, transfer in, transfer out. -/
structure Allow where
  c : Bool
  s : Bool
  i : Bool
  o : Bool
  deriving DecidableEq, Repr

/-- R50. -/
structure BandRecord where
  index : Option Nat
  teff : Int
  derate : Nat
  vcapDrop : Nat
  allow : Allow
  deriving DecidableEq, Repr

/-! ### Profile channels (chapter 5) -/

/-- 5.2.1. -/
inductive ChannelState where
  | stopped | starting | running | holding | starved | following
  deriving DecidableEq, Repr

/-- A clamped segment record with its word index (R62); `start` is none for "continue". -/
structure Segment where
  index : Nat
  start : Option Nat
  slope : Int
  stepQ : Nat
  steps : Nat
  vcap : Nat
  last : Bool
  deriving DecidableEq, Repr

/-- What a channel holds (5.2). -/
structure Channel where
  state : ChannelState
  working : Nat
  ceiling : Nat
  slope : Int
  stepQ : Nat
  quantaLeft : Nat
  stepsLeft : Nat
  vcap : Nat
  endMark : Bool
  staged : Segment
  stagedValid : Bool
  fetch : Option Nat
  ignore : Bool
  nextIndex : Nat
  starvedCount : Nat
  overrun : Bool
  deriving DecidableEq, Repr

/-- A channel's output: a ceiling and a voltage cap (R63). -/
structure Output where
  ceiling : Nat
  vcap : Nat
  deriving DecidableEq, Repr

/-! ### Input selector (chapter 8) -/

inductive DetectionState where
  | detached | settling | attached
  deriving DecidableEq, Repr

structure Detection where
  state : DetectionState
  settle : Nat
  deriving DecidableEq, Repr

inductive Source where
  | none | wired | coil
  deriving DecidableEq, Repr

inductive ChangeoverPhase where
  | none | wait | held | done
  deriving DecidableEq, Repr

inductive WiredPair where
  | w0 | w1
  deriving DecidableEq, Repr

/-- The contract in use (8.1). -/
structure Contract where
  source : Source
  pair : WiredPair
  vC : Nat
  iC : Nat
  deriving DecidableEq, Repr

structure Selector where
  wired : Detection
  coil : Detection
  selected : Source
  phase : ChangeoverPhase
  target : Option Input
  lastPair : WiredPair
  contract : Contract
  deriving DecidableEq, Repr

/-! ### State controller (chapter 11) -/

inductive PartState where
  | run | quiet | shipEntry | ship | heat
  deriving DecidableEq, Repr

/-- The slot lengths SHIP_SLOT names: 0, 250 us, 1 ms, 4 ms. -/
inductive SlotLength where
  | zero | us250 | ms1 | ms4
  deriving DecidableEq, Repr

inductive ShipResult where
  | none | accepted | refused
  deriving DecidableEq, Repr

structure Controller where
  state : PartState
  shipStep : Nat
  slot : SlotLength
  inputOpen : Bool
  wakePending : Bool
  wakingSource : Option Input
  shipResult : ShipResult
  startup : Bool
  /-- the start-up sequence follows a POR, not a ship wake: its end reads QREQ (R188) -/
  startupAfterPor : Bool
  dieWarning : Bool
  /-- the cell paths' fast comparators are armed (R187, R188) -/
  fastArmed : Bool
  /-- the wake comparators are armed (R137, R188) -/
  wakeArmed : Bool
  /-- the level of the QREQ line -/
  qreq : Bool
  deriving DecidableEq, Repr

/-! ### Allocator (chapter 6) -/

/-- One cell's part of the snapshot (R85). -/
structure CellSnapshot where
  vpin : Nat
  vcell : Nat
  band : BandRecord
  charge : ChargeState
  holds : Holds
  tp : Nat
  termCount : Nat
  renewal : Bool
  deriving DecidableEq, Repr

/-- The snapshot (R85). `chargeReduced` says that the part state is QUIET and the charge quiet policy reduced. -/
structure Snapshot where
  vSys : Nat
  iSys : Nat
  cells : PerCell CellSnapshot
  source : Source
  pair : WiredPair
  dieWarning : Bool
  part : PartState
  chargeReduced : Bool
  deriving DecidableEq, Repr

/-- The settings words the budget stage reads (R86, R90), clamped. -/
structure BudgetRead where
  vC : Nat
  iC : Nat
  convGain : Nat
  deriving DecidableEq, Repr

/-- The settings words the ceiling stage reads (R86), clamped. -/
structure CeilingRead where
  imaxChg : PerCell Nat
  ipre : PerCell Nat
  vpre : Nat
  vrech : Nat
  iterm : Nat
  termCount : Nat
  taperMin : Nat
  taperHyst : Nat
  deriving DecidableEq, Repr

/-- The settings words the charge split reads (R86), clamped. -/
structure ChargeSplitRead where
  balGain : Nat
  iHingeMax : Nat
  deriving DecidableEq, Repr

/-- The settings words the supply split reads (R86), clamped. -/
structure SupplySplitRead where
  imaxDis : PerCell Nat
  deriving DecidableEq, Repr

/-- What an allocation takes at its counter point (R87): Q of both cells and the profile outputs. -/
structure CounterPoint where
  q : PerCell Nat
  output : PerCell Output
  deriving DecidableEq, Repr

/-- The allocation in flight. -/
structure Allocation where
  snap : Snapshot
  /-- INTEGRATE transactions still to complete up to and with its own (R87) -/
  integratesAhead : Nat
  budget : Option BudgetRead
  /-- Cap_q of both cells by the CAP_x it has read (R40, R46; log entry 39) -/
  capacity : Option (PerCell Nat)
  ceilings : Option CeilingRead
  chargeSplit : Option ChargeSplitRead
  supplySplit : Option SupplySplitRead
  counter : Option CounterPoint
  /-- the cell became ABSENT after the allocation began (case 1 of R6) -/
  becameAbsent : PerCell Bool
  /-- the cell was released after the allocation began (case 2 of R6) -/
  released : PerCell Bool
  /-- the selected source was lost after the allocation began (case 5 of R6, R133) -/
  sourceLost : Bool
  deriving DecidableEq, Repr

/-- One cell's published results (R110). -/
structure CellResult where
  e : Nat
  vlim : Nat
  g : Nat
  demand : Nat
  granted : Nat
  setPoint : Int
  s : Nat
  /-- the profile output the allocation took (R83); none after a reset (log entry 23) -/
  output : Option Output
  deriving DecidableEq, Repr

/-- The published results of the latest completed allocation (R110). -/
structure Published where
  pIn : Nat
  pLoad : Nat
  pAvail : Int
  pPre : Nat
  r : Nat
  d : Int
  source : Source
  cells : PerCell CellResult
  deriving DecidableEq, Repr

structure Allocator where
  inFlight : Option Allocation
  skipped : Nat
  shortfall : Bool
  /-- charge weights w_A, w_B -/
  w : PerCell Nat
  /-- supply weights v_A, v_B -/
  v : PerCell Nat
  published : Published
  deriving DecidableEq, Repr

/-! ### Transfer converter (chapter 7) -/

inductive TransferState where
  | off | runAB | runBA | rest
  deriving DecidableEq, Repr

inductive StopCause where
  | none | ineligible | balanced | reversed | lowCurrent | receiverLimit | cell | source | window | heat | ship
  deriving DecidableEq, Repr

structure Transfer where
  state : TransferState
  current : Nat
  rest : Nat
  windowStop : Bool
  stopCause : StopCause
  deriving DecidableEq, Repr

/-! ### Probe sequencer (chapter 9) -/

/-- 9.1.1. -/
inductive SeqState where
  | idle | fetch | triggerWait | convert | pause | write | frozen
  deriving DecidableEq, Repr

/-- The triggers of a SAMPLE (9.1.2). -/
inductive Trigger where
  | now | period | fold | swapA | swapB
  deriving DecidableEq, Repr

/-- The actions of a COMPARE (9.1.2). -/
inductive CompareAction where
  | note | holdA | holdB | stopXfer
  deriving DecidableEq, Repr

/-- What a MARK writes (9.1.2). -/
inductive MarkWhat where
  | periodCount | foldState | chargeA | chargeB | transfer | last | bands | source
  deriving DecidableEq, Repr

/-- The conditions of a BRANCH (9.1.2). -/
inductive BranchCondition where
  | lastBelow | lastAtOrAbove | folded | unfolded | flagSet | flagClear | sourceNone | sourceNotNone
  deriving DecidableEq, Repr

/-- The fields of an item (9.1.2). -/
inductive Item where
  | endItem
  | sample (channel count : Nat) (trigger : Trigger) (target : Nat)
  | compare (flag : Nat) (action : CompareAction) (low high : Int)
  | wait (periods : Nat)
  | mark (what : MarkWhat) (target : Nat)
  | branch (condition : BranchCondition) (a : Int) (target : Nat)
  | jump (target : Nat)
  | setw (value : Word) (target : Nat)
  | bad (kind : Nat)
  deriving DecidableEq, Repr

inductive SeqTransaction where
  | none
  | fetch (index : Nat)
  | write (index : Nat)
  deriving DecidableEq, Repr

/-- The step held to the thaw (R161): carry out the item fetched, go on to the item at an index, or form the result
of the sample whose readings are all in. -/
inductive HeldStep where
  | carryOut
  | goOn (index : Nat)
  | formResult
  deriving DecidableEq, Repr

/-- The end codes of a done entry (R156). -/
inductive EndCode where
  | ended | pass | bad | budget
  deriving DecidableEq, Repr

structure DoneEntry where
  index : Nat
  code : EndCode
  deriving DecidableEq, Repr

/-- What the sequencer holds (9.1). -/
structure Sequencer where
  state : SeqState
  kept : SeqState
  current : Option Nat
  itemIndex : Nat
  item : Option Item
  last : Int
  sum : Int
  taken : Nat
  waitCount : Nat
  budget : Nat
  discard : Bool
  inFlight : SeqTransaction
  held : Option HeldStep
  slot : Option Nat
  done : List DoneEntry
  flags : BitVec 8
  writeFaults : Nat
  doneOverrun : Nat
  deriving DecidableEq, Repr

/-! ### Common area, arbiter, refresh, port, notices (chapter 10) -/

inductive Direction where
  | read | write
  deriving DecidableEq, Repr

/-- The transaction under way (R170). Reads carry the words as they stood at the grant. -/
inductive Transaction where
  | gauge (e : GaugeEntry)
  | fetch (c : CellId) (index : Nat) (words : List Word)
  | link (dir : Direction)
  | seqFetch (index : Nat) (words : List Word)
  | seqWrite (index : Nat) (value : Word)
  | refresh (block : Nat)
  deriving DecidableEq, Repr

/-- One waiting request for each requester at most (10.4), and the transaction under way. -/
structure Arbiter where
  gauge : Bool
  fetch : PerCell (Option Nat)
  link : Bool
  seqFetch : Option Nat
  seqWrite : Option (Nat × Word)
  refresh : Bool
  underWay : Option Transaction
  /-- the counters or the sequencer still await the transaction of theirs that is under way (R48, R171) -/
  awaited : Bool
  deriving DecidableEq, Repr

/-- The status refresh (10.5): image, pending marks of the four blocks, refresh count. -/
structure Refresh where
  image : List Word
  marks : List Bool
  count : Nat
  deriving DecidableEq, Repr

/-- The life of a run at the port (R167): being received, waiting for its grant, holding it, completed and being
shifted out. -/
inductive RunPhase where
  | receiving | waiting | granted | done
  deriving DecidableEq, Repr

/-- A run: the words of a write as received, or of a read as they stood at the grant. `stale` marks a read run none
of whose words is still to be shifted out. -/
structure Run where
  dir : Direction
  start : Nat
  length : Nat
  words : List Word
  phase : RunPhase
  stale : Bool
  deriving DecidableEq, Repr

/-- The link registers (10.6). -/
inductive LinkRegister where
  | id | next | done | note | mask | cmd
  deriving DecidableEq, Repr

/-- What the port holds, oldest first: runs, and a register write held until every earlier run has completed. -/
inductive PortOp where
  | run (r : Run)
  | write (reg : LinkRegister) (value : Word)
  deriving DecidableEq, Repr

/-- Where a frame in progress stands (R165): no frame, control byte awaited, address awaited, the rest ignored, or
data words at a byte address. -/
inductive FramePhase where
  | idle
  | control
  | address (dir : Direction)
  | ignored
  | data (dir : Direction) (addr : Word)
  deriving DecidableEq, Repr

structure Port where
  serving : Bool
  frame : FramePhase
  ops : List PortOp
  /-- the words shifted out on SDO since the last fall of CSN, oldest first (log entry 26) -/
  shifted : List Word
  deriving DecidableEq, Repr

/-- The sticky notice causes (10.7). -/
structure Sticky where
  tripA : Bool
  tripB : Bool
  heat : Bool
  shortfall : Bool
  source : Bool
  starveA : Bool
  starveB : Bool
  window : Bool
  writeFault : Bool
  listBad : Bool
  fullA : Bool
  fullB : Bool
  band : Bool
  fold : Bool
  deriving DecidableEq, Repr

structure NoticeUnit where
  sticky : Sticky
  mask : Word
  deriving DecidableEq, Repr

/-- Memory: (byte address, byte) pairs in one canonical form (`Memory.wf`, Machine/Ops.lean). -/
abbrev Memory := List Host.Cell

/-! ### The whole part -/

/-- The state of the part, the queue of commands waiting, and the counter of the free values. -/
structure State where
  cells : PerCell CellPath
  fold : FoldMonitor
  timer : PeriodTimer
  converter : Converter
  gauge : List GaugeEntry
  bands : PerCell BandRecord
  channels : PerCell Channel
  allocator : Allocator
  transfer : Transfer
  selector : Selector
  seq : Sequencer
  mem : Memory
  arbiter : Arbiter
  refresh : Refresh
  port : Port
  notices : NoticeUnit
  control : Controller
  /-- the commands waiting, first in first out -/
  pending : List Instr
  /-- the model's own: what the free values of Config are applied to (log entry 38) -/
  freeCounter : Nat
  deriving DecidableEq, Repr

/-- No command of the part ends in a fault: the manual describes no event at which the part stops, and an event that
cannot arrive changes nothing (log entry 3, safe). -/
inductive Fault where
  deriving DecidableEq, Repr

/-- Why a command has no meaning. -/
inductive Refusal where
  /-- Raised by an arm of `exec` whose command has no meaning yet, with its mnemonic; safe. No arm is left so. -/
  | notModelled (mnemonic : String)
  deriving DecidableEq, Repr

/-! ### The state right after POR (the POR columns of R20, R34, R48, R61, R84, R111, R125, R140, R164, R180, R189) -/

namespace Reset

def holds : Holds := { band := false, window := false, quiet := false, heat := false }

/-- The thresholds of the settings defaults (R14). -/
def thresholdsA : Thresholds := { ov := 4550, occ := 5000, ocd := 7500, ot := 65, hinge := 6250 }

def thresholdsB : Thresholds := { ov := 4550, occ := 3750, ocd := 5000, ot := 65, hinge := 6250 }

def cellPath (t : Thresholds) : CellPath :=
  { charge := .absent, holds := holds, setPoint := 0, pathOpen := true, vcell := 0, tp := 0, renewal := false,
    termCount := 0, emptyLatch := false, trip := none, tripCount := 0, releaseResult := .none, thresholds := t }

def converter : Converter :=
  { scan := none, scanPending := 0, probePending := 0, probeChannel := 0, inFlight := .none, latest := none,
    lateCount := 0 }

def bandRecord : BandRecord :=
  { index := none, teff := 0, derate := 0, vcapDrop := 0, allow := { c := false, s := false, i := false, o := false } }

def segment : Segment :=
  { index := 0, start := some 0, slope := 0, stepQ := 0, steps := 0, vcap := 0, last := false }

def channel (next : Nat) : Channel :=
  { state := .stopped, working := 0, ceiling := 0, slope := 0, stepQ := 1, quantaLeft := 0, stepsLeft := 0,
    vcap := 3600, endMark := false, staged := segment, stagedValid := false, fetch := none, ignore := false,
    nextIndex := next, starvedCount := 0, overrun := false }

def cellResult : CellResult :=
  { e := 0, vlim := 0, g := 0, demand := 0, granted := 0, setPoint := 0, s := 0, output := none }

def published : Published :=
  { pIn := 0, pLoad := 0, pAvail := 0, pPre := 0, r := 0, d := 0, source := .none,
    cells := { a := cellResult, b := cellResult } }

def allocator : Allocator :=
  { inFlight := none, skipped := 0, shortfall := false, w := { a := 512, b := 512 }, v := { a := 512, b := 512 },
    published := published }

def transfer : Transfer := { state := .off, current := 0, rest := 0, windowStop := false, stopCause := .none }

def contract : Contract := { source := .none, pair := .w0, vC := 0, iC := 0 }

def selector : Selector :=
  { wired := { state := .detached, settle := 0 }, coil := { state := .detached, settle := 0 }, selected := .none,
    phase := .none, target := none, lastPair := .w0, contract := contract }

def sequencer : Sequencer :=
  { state := .idle, kept := .idle, current := none, itemIndex := 0x100, item := none, last := 0, sum := 0, taken := 0,
    waitCount := 0, budget := 0, discard := false, inFlight := .none, held := none, slot := none, done := [],
    flags := 0, writeFaults := 0, doneOverrun := 0 }

def arbiter : Arbiter :=
  { gauge := false, fetch := { a := none, b := none }, link := false, seqFetch := none, seqWrite := none,
    refresh := false, underWay := none, awaited := false }

/-- The status words that are not 0 at reset: no band and path switch open in each cell's block, VCAP and next index
of each channel, the weights, and the item index (10.9.2 with the POR columns). -/
def statusWord : Nat → Word
  | 0x023 => 0xFF00
  | 0x037 => 0x0010
  | 0x039 => 3600
  | 0x03E => 0x100
  | 0x043 => 0xFF00
  | 0x057 => 0x0010
  | 0x059 => 3600
  | 0x05E => 0x200
  | 0x065 => 512
  | 0x066 => 512
  | 0x067 => 512
  | 0x068 => 512
  | 0x06E => 0x100
  | _ => 0

def refresh : Refresh :=
  { image := (List.range 0x80).map statusWord, marks := [false, false, false, false], count := 0 }

def port : Port := { serving := false, frame := .idle, ops := [], shifted := [] }

def sticky : Sticky :=
  { tripA := false, tripB := false, heat := false, shortfall := false, source := false, starveA := false,
    starveB := false, window := false, writeFault := false, listBad := false, fullA := false, fullB := false,
    band := false, fold := false }

def controller : Controller :=
  { state := .run, shipStep := 0, slot := .us250, inputOpen := true, wakePending := false, wakingSource := none,
    shipResult := .none, startup := true, startupAfterPor := true, dieWarning := false, fastArmed := false,
    wakeArmed := false, qreq := false }

end Reset

/-- The part right after a power-on reset, before its start-up sequence begins (R180, R188). -/
def State.reset : State :=
  { cells := { a := Reset.cellPath Reset.thresholdsA, b := Reset.cellPath Reset.thresholdsB }
    fold := { folded := false, count := 0, firstScan := true, line := false }
    timer := { count := 0, length := .ms4, running := false }
    converter := Reset.converter
    gauge := []
    bands := { a := Reset.bandRecord, b := Reset.bandRecord }
    channels := { a := Reset.channel 0x100, b := Reset.channel 0x200 }
    allocator := Reset.allocator
    transfer := Reset.transfer
    selector := Reset.selector
    seq := Reset.sequencer
    mem := []
    arbiter := Reset.arbiter
    refresh := Reset.refresh
    port := Reset.port
    notices := { sticky := Reset.sticky, mask := 0 }
    control := Reset.controller
    pending := []
    freeCounter := 0 }

end Sys2Proof.Machine
end

