-- ==== Sys2Proof/Machine/Ops.lean ====
section
/-! DEFINITION. The shared operations: the two copies of a cell's things, the common area and its canonical form,
the settings words as blocks read them, clamping and two's complement, and the requests at the arbiter. -/

namespace Sys2Proof.Machine

/-! ### The two cells -/

/-- "The other cell" is the cell that x does not name (1.6). -/
def otherCell : CellId → CellId
  | .a => .b
  | .b => .a

def PerCell.get {α : Type} (p : PerCell α) : CellId → α
  | .a => p.a
  | .b => p.b

def PerCell.set {α : Type} (p : PerCell α) : CellId → α → PerCell α
  | .a, x => { p with a := x }
  | .b, x => { p with b := x }

def State.cell (s : State) (c : CellId) : CellPath := s.cells.get c

def State.setCell (s : State) (c : CellId) (x : CellPath) : State := { s with cells := s.cells.set c x }

def State.setBand (s : State) (c : CellId) (x : BandRecord) : State := { s with bands := s.bands.set c x }

def State.setChannel (s : State) (c : CellId) (x : Channel) : State := { s with channels := s.channels.set c x }

/-! ### Arithmetic (1.5) -/

/-- The nearer end of the range for a value outside it (1.5). -/
def clampNat (lo hi x : Nat) : Nat := min hi (max lo x)

def clampInt (lo hi x : Int) : Int := min hi (max lo x)

/-- A count that rises by one and saturates (1.5). -/
def saturatingSucc (top n : Nat) : Nat := if n < top then n + 1 else top

/-- A word read as a signed value, two's complement (10.9). -/
def signedOf (w : Word) : Int := w.toInt

/-- A value as a word, a negative one in two's complement (R149, 10.9). -/
def wordOf (v : Int) : Word := BitVec.ofInt 16 v

/-! ### The common area (R166, 10.3) -/

/-- The defaults of the settings page (10.9.3, 4.1), by word index. -/
def settingsDefault : Nat → Nat
  | 0x080 => 5000 | 0x081 => 500 | 0x082 => 5000 | 0x083 => 500
  | 0x084 => 0 | 0x085 => 5000 | 0x086 => 0 | 0x087 => 0
  | 0x088 => 236 | 0x089 => 2 | 0x08A => 2200 | 0x08B => 2000
  | 0x08C => 4000 | 0x08D => 3000 | 0x08E => 6000 | 0x08F => 4000
  | 0x090 => 5000 | 0x091 => 12 | 0x092 => 38 | 0x093 => 44
  | 0x094 => 8 | 0x095 => 3 | 0x096 => 3000 | 0x097 => 150
  | 0x098 => 150 | 0x099 => 100 | 0x09A => 80 | 0x09B => 64
  | 0x09C => 10 | 0x09D => 20 | 0x09E => 3100 | 0x09F => 8
  | 0x0A0 => 1000 | 0x0A1 => 1000 | 0x0A2 => 4400 | 0x0A3 => 0x100
  | 0x0A4 => 0x200 | 0x0A5 => 0 | 0x0A6 => 256 | 0x0A7 => 0
  | 0x0A8 => 40 | 0x0A9 => 12 | 0x0AA => 64 | 0x0AB => 1500
  | 0x0AC => 100 | 0x0AD => 4 | 0x0AE => 4550 | 0x0AF => 65
  | 0x0B0 => 2 | 0x0B1 => 1 | 0x0B2 => 0 | 0x0B3 => 0
  | 0x0B4 => 0 | 0x0B5 => 1 | 0x0B6 => 0x100 | 0x0B7 => 0x1000
  | 0x0C0 => 0 | 0x0C1 => 0 | 0x0C2 => 0 | 0x0C3 => 2
  | 0x0C4 => 10 | 0x0C5 => 128 | 0x0C6 => 0 | 0x0C7 => 3
  | 0x0C8 => 20 | 0x0C9 => 200 | 0x0CA => 0 | 0x0CB => 15
  | 0x0CC => 38 | 0x0CD => 256 | 0x0CE => 0 | 0x0CF => 15
  | 0x0D0 => 45 | 0x0D1 => 192 | 0x0D2 => 0 | 0x0D3 => 15
  | 0x0D4 => 50 | 0x0D5 => 128 | 0x0D6 => 100 | 0x0D7 => 11
  | 0x0D8 => 58 | 0x0D9 => 0 | 0x0DA => 150 | 0x0DB => 2
  | 0x0DC => 125 | 0x0DD => 0 | 0x0DE => 0 | 0x0DF => 2
  | _ => 0

/-- What a word of the common area holds after POR (R180): the status words of their owners' reset values, the
settings defaults, and 0. -/
def Memory.resetWord (i : Nat) : Word :=
  if i < 0x80 then Reset.statusWord i else BitVec.ofNat 16 (settingsDefault i)

/-- The byte at an even address is the more significant one of its word (log entry 25). -/
def byteOfWord (w : Word) (a : Nat) : Byte :=
  if a % 2 = 0 then w.extractLsb' 8 8 else w.extractLsb' 0 8

/-- What an address reads as that memory does not list: the reset contents. -/
def Memory.unlisted (a : Nat) : Byte := byteOfWord (Memory.resetWord (a / 2)) a

/-- The common area covers byte addresses 0x0000 to 0x1FFF (R166). -/
def areaBytes : Nat := 0x2000

/-- The common area covers word indices 0x000 to 0xFFF (1.6). -/
def areaWords : Nat := 0x1000

/-- The canonical form from a lowest address on: addresses strictly rising and within the area, and no entry equal
to what an unlisted address reads as. -/
def Memory.wfFrom : Nat → Memory → Bool
  | _, [] => true
  | lo, (a, v) :: rest =>
    decide (lo ≤ a) && decide (a < areaBytes) && (v != Memory.unlisted a) && Memory.wfFrom (a + 1) rest

/-- The canonical form: equal contents are equal lists. -/
def Memory.wf (m : Memory) : Bool := Memory.wfFrom 0 m

/-- One byte. -/
def Memory.read : Memory → Nat → Byte
  | [], a => Memory.unlisted a
  | (b, v) :: rest, a => if a = b then v else Memory.read rest a

/-- The list with a byte entered at its place. -/
def Memory.insert : Memory → Nat → Byte → Memory
  | [], a, v => [(a, v)]
  | (b, w) :: rest, a, v =>
    if a < b then (a, v) :: (b, w) :: rest
    else if a = b then (a, v) :: rest
    else (b, w) :: Memory.insert rest a v

/-- The list without an address. -/
def Memory.erase : Memory → Nat → Memory
  | [], _ => []
  | (b, w) :: rest, a => if a = b then rest else (b, w) :: Memory.erase rest a

/-- A byte written within the area, in canonical form. No requester writes outside the area. -/
def Memory.write (m : Memory) (a : Nat) (v : Byte) : Memory :=
  if a < areaBytes then
    (if v = Memory.unlisted a then Memory.erase m a else Memory.insert m a v)
  else m

/-- One word of the common area. -/
def Memory.readWord (m : Memory) (i : Nat) : Word := Memory.read m (2 * i) ++ Memory.read m (2 * i + 1)

def Memory.writeWord (m : Memory) (i : Nat) (w : Word) : Memory :=
  Memory.write (Memory.write m (2 * i) (byteOfWord w 0)) (2 * i + 1) (byteOfWord w 1)

/-- Words from an index on, as one transaction reads them. -/
def Memory.readWords (m : Memory) (i n : Nat) : List Word := (List.range n).map fun k => Memory.readWord m (i + k)

def State.readWord (s : State) (i : Nat) : Word := Memory.readWord s.mem i

def State.writeWord (s : State) (i : Nat) (w : Word) : State := { s with mem := Memory.writeWord s.mem i w }

/-! ### Settings words, read on use and clamped (R169, 10.9.3) -/

/-- A settings word as its reader uses it: unsigned, clamped to its range (R169). -/
def State.setting (s : State) (i lo hi : Nat) : Nat := clampNat lo hi (s.readWord i).toNat

def State.pairVoltage (s : State) : WiredPair → Nat
  | .w0 => s.setting 0x080 4500 12000
  | .w1 => s.setting 0x082 4500 12000

def State.pairCurrent (s : State) : WiredPair → Nat
  | .w0 => s.setting 0x081 0 5000
  | .w1 => s.setting 0x083 0 5000

def State.wsel (s : State) : WiredPair := if s.setting 0x084 0 1 = 0 then .w0 else .w1
def State.coilV (s : State) : Nat := s.setting 0x085 4500 12000
def State.coilI (s : State) : Nat := s.setting 0x086 0 1500
def State.srcPrio (s : State) : Nat := s.setting 0x087 0 1
def State.convGain (s : State) : Nat := s.setting 0x088 128 256
def State.hotSel (s : State) : Nat := s.setting 0x089 0 3

def State.cap (s : State) : CellId → Nat
  | .a => s.setting 0x08A 100 8000
  | .b => s.setting 0x08B 100 8000

def State.imaxChg (s : State) : CellId → Nat
  | .a => s.setting 0x08C 0 8000
  | .b => s.setting 0x08D 0 8000

def State.imaxDis (s : State) : CellId → Nat
  | .a => s.setting 0x08E 0 8000
  | .b => s.setting 0x08F 0 8000

def State.iHingeMax (s : State) : Nat := s.setting 0x090 0 8000
def State.rA (s : State) : Nat := s.setting 0x091 0 255
def State.rBOpen (s : State) : Nat := s.setting 0x092 0 255
def State.rBFold (s : State) : Nat := s.setting 0x093 0 255
def State.foldDeb (s : State) : Nat := s.setting 0x094 1 15
def State.foldTOff (s : State) : Nat := s.setting 0x095 0 15
def State.vpre (s : State) : Nat := s.setting 0x096 2500 3400

def State.ipre (s : State) : CellId → Nat
  | .a => s.setting 0x097 0 500
  | .b => s.setting 0x098 0 500

def State.vrech (s : State) : Nat := s.setting 0x099 50 300
def State.iterm (s : State) : Nat := s.setting 0x09A 20 500
def State.termCountSetting (s : State) : Nat := s.setting 0x09B 1 1024
def State.taperMin (s : State) : Nat := s.setting 0x09C 1 100
def State.taperHyst (s : State) : Nat := s.setting 0x09D 5 100
def State.vempty (s : State) : Nat := s.setting 0x09E 2800 3500
def State.balGain (s : State) : Nat := s.setting 0x09F 0 16

def State.flatCeil (s : State) : CellId → Nat
  | .a => s.setting 0x0A0 0 8000
  | .b => s.setting 0x0A1 0 8000

def State.flatVcap (s : State) : Nat := s.setting 0x0A2 3600 4600

def State.ptBase (s : State) : CellId → Nat
  | .a => s.setting 0x0A3 0x100 0xFFA
  | .b => s.setting 0x0A4 0x100 0xFFA

def State.bMode (s : State) : Nat := s.setting 0x0A5 0 1
def State.followRatio (s : State) : Nat := s.setting 0x0A6 0 512
def State.xferEn (s : State) : Nat := s.setting 0x0A7 0 1
def State.xstart (s : State) : Nat := s.setting 0x0A8 1 512

/-- XSTOP: a value not below XSTART is taken as XSTART - 1 (R123). -/
def State.xstop (s : State) : Nat :=
  let x := s.setting 0x0A9 0 511
  if x < s.xstart then x else s.xstart - 1

def State.xk (s : State) : Nat := s.setting 0x0AA 1 255
def State.xmax (s : State) : Nat := s.setting 0x0AB 0 3000
def State.xmin (s : State) : Nat := s.setting 0x0AC 50 500
def State.xrest (s : State) : Nat := s.setting 0x0AD 1 255
def State.vov (s : State) : Nat := s.setting 0x0AE 4200 4700
def State.ttrip (s : State) : Nat := s.setting 0x0AF 40 80

/-- A quiet policy of two bits (11.2): KEEP decides when it is set; STOP acts only when KEEP is clear; with neither
the policy is reduced. -/
inductive QuietPolicy where
  | keep | stopEffective | reduced
  deriving DecidableEq, Repr

def quietPolicyOf (bits : Nat) : QuietPolicy :=
  if 2 ≤ bits then .keep else if bits = 1 then .stopEffective else .reduced

def State.qpolCharge (s : State) : QuietPolicy := quietPolicyOf (s.setting 0x0B0 0 3)
def State.qpolXfer (s : State) : QuietPolicy := quietPolicyOf (s.setting 0x0B1 0 3)
def State.qpolProbe (s : State) : QuietPolicy := quietPolicyOf (s.setting 0x0B2 0 3)
def State.qpolRefresh (s : State) : QuietPolicy := quietPolicyOf (s.setting 0x0B3 0 3)
def State.wakeFresh (s : State) : Nat := s.setting 0x0B4 0 1

def State.shipSlot (s : State) : SlotLength :=
  match s.setting 0x0B5 0 3 with
  | 0 => .zero
  | 1 => .us250
  | 2 => .ms1
  | _ => .ms4

def State.winLo (s : State) : Nat := s.setting 0x0B6 0x100 0x1000
def State.winHi (s : State) : Nat := s.setting 0x0B7 0x100 0x1000

/-- The two PRESET_x words as one unsigned value, high word first (R44). -/
def State.preset (s : State) : CellId → Nat
  | .a => (s.readWord 0x0B8).toNat * 65536 + (s.readWord 0x0B9).toNat
  | .b => (s.readWord 0x0BA).toNat * 65536 + (s.readWord 0x0BB).toNat

/-- Cap_q: CAP_x in quanta (3.1). -/
def State.capQ (s : State) (c : CellId) : Nat := s.cap c * 100

/-! ### Q and F, kept in the cell's block of the status page (R35, 10.9.2) -/

/-- The first word of a cell's block. -/
def cellBlock : CellId → Nat
  | .a => 0x020
  | .b => 0x040

def State.q (s : State) (c : CellId) : Nat :=
  (s.readWord (cellBlock c)).toNat * 65536 + (s.readWord (cellBlock c + 1)).toNat

def State.f (s : State) (c : CellId) : Nat := (s.readWord (cellBlock c + 2)).toNat

/-- The write of a GAUGE transaction: Q high word first, then F. -/
def State.setQF (s : State) (c : CellId) (q f : Nat) : State :=
  ((s.writeWord (cellBlock c) (BitVec.ofNat 16 (q / 65536))).writeWord (cellBlock c + 1) (BitVec.ofNat 16 q)).writeWord
    (cellBlock c + 2) (BitVec.ofNat 16 f)

/-! ### The latest completed scan (R27) -/

/-- Every reading is 0 while there is no completed scan (R27). -/
def Readings.zero : Readings :=
  { vpinA := 0, vpinB := 0, iA := 0, iB := 0, tA := 0, tB := 0, vWired := 0, vCoil := 0, iIn := 0, vSys := 0, iSys := 0,
    tDie := 0, iXfer := 0, tHinge := 0 }

def State.latestReadings (s : State) : Readings :=
  match s.converter.latest with
  | some r => r.readings
  | none => Readings.zero

def Readings.vpin (r : Readings) : CellId → Int
  | .a => r.vpinA
  | .b => r.vpinB

def Readings.current (r : Readings) : CellId → Int
  | .a => r.iA
  | .b => r.iB

def Readings.temperature (r : Readings) : CellId → Int
  | .a => r.tA
  | .b => r.tB

/-! ### Requests at the arbiter (R170, R171) -/

/-- The transaction under way is one of the sequencer's. -/
def Arbiter.seqUnderWay (ar : Arbiter) : Bool :=
  match ar.underWay with
  | some (.seqFetch _ _) => true
  | some (.seqWrite _ _) => true
  | _ => false

/-- The transaction under way is one of the counters'. -/
def Arbiter.gaugeUnderWay (ar : Arbiter) : Bool :=
  match ar.underWay with
  | some (.gauge _) => true
  | _ => false

/-- The transaction under way is a fetch of this channel. -/
def Arbiter.fetchUnderWay (ar : Arbiter) (c : CellId) : Bool :=
  match ar.underWay with
  | some (.fetch d _ _) => c == d
  | _ => false

/-- The transaction under way is one of the port's. -/
def Arbiter.linkUnderWay (ar : Arbiter) : Bool :=
  match ar.underWay with
  | some (.link _) => true
  | _ => false

def State.setArbiter (s : State) (ar : Arbiter) : State := { s with arbiter := ar }

/-- While the gauge list is not empty, GAUGE waits at the arbiter, unless the entry it awaits is under way (R36). -/
def State.requestGauge (s : State) : State :=
  s.setArbiter { s.arbiter with
    gauge := !s.gauge.isEmpty && !(s.arbiter.gaugeUnderWay && s.arbiter.awaited) }

/-- The transaction under way has ended (R170). -/
def State.endTransaction (s : State) : State := s.setArbiter { s.arbiter with underWay := none, awaited := false }

/-- The sequencer withdraws what waits for its grant, and no longer awaits what is under way (R144, R159, R171). -/
def State.withdrawSeq (s : State) : State :=
  { s with
    arbiter := { s.arbiter with
      seqFetch := none
      seqWrite := none
      awaited := s.arbiter.awaited && !s.arbiter.seqUnderWay }
    seq := { s.seq with inFlight := .none } }

end Sys2Proof.Machine
end

