-- ==== Sys2Proof/Machine/Flags.lean ====
section
/-! DEFINITION. The notice unit: sticky and condition causes, the mask, the answer of NOTE and INTN (10.7). -/

namespace Sys2Proof.Machine

/-- The sticky causes (10.7). -/
inductive StickyCause where
  | tripA | tripB | heat | shortfall | source | starveA | starveB | window | writeFault | listBad
  | fullA | fullB | band | fold
  deriving DecidableEq, Repr

/-- The number of a cause in NOTE and MASK (10.7). -/
def StickyCause.number : StickyCause → Nat
  | .tripA => 0
  | .tripB => 1
  | .heat => 2
  | .shortfall => 3
  | .source => 4
  | .starveA => 5
  | .starveB => 6
  | .window => 7
  | .writeFault => 8
  | .listBad => 9
  | .fullA => 12
  | .fullB => 13
  | .band => 14
  | .fold => 15

/-- The sticky cause of a number; the condition causes 10 and 11 and the numbers above 15 are none. -/
def StickyCause.ofNumber : Nat → Option StickyCause
  | 0 => some .tripA
  | 1 => some .tripB
  | 2 => some .heat
  | 3 => some .shortfall
  | 4 => some .source
  | 5 => some .starveA
  | 6 => some .starveB
  | 7 => some .window
  | 8 => some .writeFault
  | 9 => some .listBad
  | 12 => some .fullA
  | 13 => some .fullB
  | 14 => some .band
  | 15 => some .fold
  | _ => none

def Sticky.get (k : Sticky) : StickyCause → Bool
  | .tripA => k.tripA
  | .tripB => k.tripB
  | .heat => k.heat
  | .shortfall => k.shortfall
  | .source => k.source
  | .starveA => k.starveA
  | .starveB => k.starveB
  | .window => k.window
  | .writeFault => k.writeFault
  | .listBad => k.listBad
  | .fullA => k.fullA
  | .fullB => k.fullB
  | .band => k.band
  | .fold => k.fold

def Sticky.set (k : Sticky) (c : StickyCause) (v : Bool) : Sticky :=
  match c with
  | .tripA => { k with tripA := v }
  | .tripB => { k with tripB := v }
  | .heat => { k with heat := v }
  | .shortfall => { k with shortfall := v }
  | .source => { k with source := v }
  | .starveA => { k with starveA := v }
  | .starveB => { k with starveB := v }
  | .window => { k with window := v }
  | .writeFault => { k with writeFault := v }
  | .listBad => { k with listBad := v }
  | .fullA => { k with fullA := v }
  | .fullB => { k with fullB := v }
  | .band => { k with band := v }
  | .fold => { k with fold := v }

def State.setSticky (s : State) (c : StickyCause) (v : Bool) : State :=
  { s with notices := { s.notices with sticky := s.notices.sticky.set c v } }

/-- A sticky cause becomes pending, and stays so (R176). -/
def State.raise (s : State) (c : StickyCause) : State := s.setSticky c true

/-- DONE_READY is pending while the done queue holds an entry (R156). -/
def State.doneReady (s : State) : Bool := !s.seq.done.isEmpty

/-- NEXT_FREE is pending while the next slot is empty (R141). -/
def State.nextFree (s : State) : Bool := s.seq.slot.isNone

/-- Whether the cause of a number is pending, whatever the mask (R176). -/
def State.causePending (s : State) (n : Nat) : Bool :=
  match StickyCause.ofNumber n with
  | some c => s.notices.sticky.get c
  | none => (n == 10 && s.doneReady) || (n == 11 && s.nextFree)

/-- What a read of NOTE returns: the lowest-numbered cause that is pending and enabled, or 16 (R177). -/
def State.note (s : State) : Nat :=
  match (List.range 16).find? fun n => s.causePending n && s.notices.mask.getLsbD n with
  | some n => n
  | none => 16

/-- INTN is driven low while a read of NOTE would return less than 16 (R178), and released in SHIP (R179). -/
def State.intnLow (s : State) : Bool := decide (s.note < 16) && s.control.state != .ship

/-- A write of n to NOTE clears cause n when it is sticky and pending, and changes nothing otherwise (R177). -/
def State.clearCause (s : State) (n : Nat) : State :=
  match StickyCause.ofNumber n with
  | some c => s.setSticky c false
  | none => s

def tripCauseOf : CellId → StickyCause
  | .a => .tripA
  | .b => .tripB

def starveCauseOf : CellId → StickyCause
  | .a => .starveA
  | .b => .starveB

def fullCauseOf : CellId → StickyCause
  | .a => .fullA
  | .b => .fullB

end Sys2Proof.Machine
end

