-- ==== Sys2Proof/Machine/Operands.lean ====
section
/-! DEFINITION. The forms in which values reach the part: converted readings, the map of byte addresses, segment
records, list items, command codes, and the codes the host reads. -/

namespace Sys2Proof.Machine

/-! ### Converted readings (2.3, R28) -/

/-- The range of a channel's reading (2.3). -/
def channelRange (ch : Nat) : Int × Int :=
  match ch with
  | 0 => (0, 5000)
  | 1 => (0, 5000)
  | 2 => (-8000, 8000)
  | 3 => (-8000, 8000)
  | 4 => (-40, 125)
  | 5 => (-40, 125)
  | 6 => (0, 22000)
  | 7 => (0, 22000)
  | 8 => (0, 6000)
  | 9 => (0, 5000)
  | 10 => (0, 10000)
  | 11 => (-40, 150)
  | 12 => (0, 3000)
  | _ => (-40, 125)

/-- The thermistor channels (R28). -/
def isThermistor (ch : Nat) : Bool := ch == 4 || ch == 5 || ch == 13

/-- What a conversion of a channel reads: a level saturates to the nearer end of the range, an open thermistor reads
-40 and a shorted one 125 (R28). On a channel without a thermistor there is none to be open or shorted: no such
conversion completes (log entry 29). -/
def reading (ch : Nat) : Analog → Option Int
  | .level v => some (clampInt (channelRange ch).1 (channelRange ch).2 v)
  | .thermistorOpen => if isThermistor ch then some (-40) else none
  | .thermistorShorted => if isThermistor ch then some 125 else none

/-- The reading of a channel stored in a record. -/
def Readings.store (r : Readings) (ch : Nat) (v : Int) : Readings :=
  match ch with
  | 0 => { r with vpinA := v }
  | 1 => { r with vpinB := v }
  | 2 => { r with iA := v }
  | 3 => { r with iB := v }
  | 4 => { r with tA := v }
  | 5 => { r with tB := v }
  | 6 => { r with vWired := v }
  | 7 => { r with vCoil := v }
  | 8 => { r with iIn := v }
  | 9 => { r with vSys := v }
  | 10 => { r with iSys := v }
  | 11 => { r with tDie := v }
  | 12 => { r with iXfer := v }
  | _ => { r with tHinge := v }

/-- The length of a period in ms (R22). -/
def PeriodLength.ms : PeriodLength → Nat
  | .ms4 => 4
  | .ms32 => 32

/-! ### The map of byte addresses (R166) -/

inductive Place where
  | area (index : Nat)
  | register (r : LinkRegister)
  | unmapped
  deriving DecidableEq, Repr

/-- The place of an even byte address (R166). -/
def placeOf (addr : Word) : Place :=
  let n := addr.toNat
  if n < areaBytes then .area (n / 2)
  else match n with
    | 0x2000 => .register .id
    | 0x2002 => .register .next
    | 0x2004 => .register .done
    | 0x2006 => .register .note
    | 0x2008 => .register .mask
    | 0x200A => .register .cmd
    | _ => .unmapped

/-- An odd address is taken as the even address below it (R165). -/
def evenAddress (addr : Word) : Word := BitVec.ofNat 16 (addr.toNat / 2 * 2)

/-- The commands of CMD (10.9.1). -/
inductive Command where
  | softReset | skipItem | skipList | ship | release (c : CellId) | profileStart (c : CellId)
  | profileStop (c : CellId) | clearWindow | preset (c : CellId)
  deriving DecidableEq, Repr

/-- The command of a code, taken as a whole 16-bit value; every other value is none (R175). -/
def commandOf (w : Word) : Option Command :=
  match w.toNat with
  | 1 => some .softReset
  | 2 => some .skipItem
  | 3 => some .skipList
  | 4 => some .ship
  | 5 => some (.release .a)
  | 6 => some (.release .b)
  | 7 => some (.profileStart .a)
  | 8 => some (.profileStart .b)
  | 9 => some (.profileStop .a)
  | 10 => some (.profileStop .b)
  | 11 => some .clearWindow
  | 12 => some (.preset .a)
  | 13 => some (.preset .b)
  | _ => none

/-! ### Segment records (R62, 10.9.4) -/

def wordAt (ws : List Word) (i : Nat) : Word := ws.getD i 0

/-- The clamped record of six words read at an index. -/
def segmentOf (index : Nat) (ws : List Word) : Segment :=
  { index := index
    start := if wordAt ws 0 = 0xFFFF then none else some (min 8000 (wordAt ws 0).toNat)
    slope := clampInt (-512) 511 (signedOf (wordAt ws 1))
    stepQ := clampNat 1 4096 (wordAt ws 2).toNat
    steps := min 4095 (wordAt ws 3).toNat
    vcap := clampNat 3600 4600 (wordAt ws 4).toNat
    last := (wordAt ws 5).getLsbD 0 }

/-- A record ends the table when its LAST flag is set or its STEPS is 0 (R65). -/
def Segment.endsTable (g : Segment) : Bool := g.last || g.steps == 0

/-! ### List items (9.1.2, 10.9.5) -/

/-- The bits of a word from a lowest bit on, as a number. -/
def field (w : Word) (lowest width : Nat) : Nat := w.toNat / 2 ^ lowest % 2 ^ width

/-- Codes 5, 6 and 7 are taken as NOW (R146). -/
def triggerOf : Nat → Trigger
  | 1 => .period
  | 2 => .fold
  | 3 => .swapA
  | 4 => .swapB
  | _ => .now

/-- 0 is taken as 1 and values above 16 as 16 (R146). -/
def sampleCount (n : Nat) : Nat := clampNat 1 16 n

def actionOf : Nat → CompareAction
  | 1 => .holdA
  | 2 => .holdB
  | 3 => .stopXfer
  | _ => .note

def markOf : Nat → MarkWhat
  | 0 => .periodCount
  | 1 => .foldState
  | 2 => .chargeA
  | 3 => .chargeB
  | 4 => .transfer
  | 5 => .last
  | 6 => .bands
  | _ => .source

def conditionOf : Nat → BranchCondition
  | 0 => .lastBelow
  | 1 => .lastAtOrAbove
  | 2 => .folded
  | 3 => .unfolded
  | 4 => .flagSet
  | 5 => .flagClear
  | 6 => .sourceNone
  | _ => .sourceNotNone

/-- The item of four words (10.9.5). -/
def itemOf (ws : List Word) : Item :=
  let w0 := wordAt ws 0
  let a := wordAt ws 1
  let b := wordAt ws 2
  let target := (wordAt ws 3).toNat
  match field w0 0 4 with
  | 0 => .endItem
  | 1 => .sample (field w0 4 4) (sampleCount (field w0 8 5)) (triggerOf (field w0 13 3)) target
  | 2 => .compare (field w0 4 3) (actionOf (field w0 8 2)) (signedOf a) (signedOf b)
  | 3 => .wait a.toNat
  | 4 => .mark (markOf (field w0 4 3)) target
  | 5 => .branch (conditionOf (field w0 4 3)) (signedOf a) target
  | 6 => .jump target
  | 7 => .setw a target
  | k => .bad k

/-- A list or item index the sequencer takes (R141, R144). -/
def isItemIndex (i : Nat) : Bool := decide (0x100 ≤ i) && decide (i ≤ 0xFFC)

/-! ### Codes the host reads (10.9.1, 10.9.2) -/

def ChargeState.code : ChargeState → Nat
  | .absent => 0
  | .idle => 1
  | .precharge => 2
  | .bulk => 3
  | .taper => 4
  | .full => 5
  | .held => 6
  | .tripped => 7

def PartState.code : PartState → Nat
  | .run => 0
  | .quiet => 1
  | .shipEntry => 2
  | .ship => 3
  | .heat => 4

def Source.code : Source → Nat
  | .none => 0
  | .wired => 1
  | .coil => 2

def sourceOf : Input → Source
  | .wired => .wired
  | .coil => .coil

def DetectionState.code : DetectionState → Nat
  | .detached => 0
  | .settling => 1
  | .attached => 2

def TransferState.code : TransferState → Nat
  | .off => 0
  | .runAB => 1
  | .runBA => 2
  | .rest => 3

def ChannelState.code : ChannelState → Nat
  | .stopped => 0
  | .starting => 1
  | .running => 2
  | .holding => 3
  | .starved => 4
  | .following => 5

def SeqState.code : SeqState → Nat
  | .idle => 0
  | .fetch => 1
  | .triggerWait => 2
  | .convert => 3
  | .pause => 4
  | .write => 5
  | .frozen => 6

def ChangeoverPhase.code : ChangeoverPhase → Nat
  | .none => 0
  | .wait => 1
  | .held => 2
  | .done => 3

def ShipResult.code : ShipResult → Nat
  | .none => 0
  | .accepted => 1
  | .refused => 2

def ReleaseResult.code : ReleaseResult → Nat
  | .none => 0
  | .released => 1
  | .refused => 2
  | .notTripped => 3

def StopCause.code : StopCause → Nat
  | .none => 0
  | .ineligible => 1
  | .balanced => 2
  | .reversed => 3
  | .lowCurrent => 4
  | .receiverLimit => 5
  | .cell => 6
  | .source => 7
  | .window => 8
  | .heat => 9
  | .ship => 10

def TripCause.code : TripCause → Nat
  | .ov => 1
  | .occ => 2
  | .ocd => 3
  | .ot => 4
  | .hinge => 5

def EndCode.code : EndCode → Nat
  | .ended => 0
  | .pass => 1
  | .bad => 2
  | .budget => 3

def bit (b : Bool) (n : Nat) : Nat := if b then 2 ^ n else 0

/-- The word of a done entry: end code in bits 15..14, start index in bits 11..0 (10.9.1). -/
def DoneEntry.word (e : DoneEntry) : Word := BitVec.ofNat 16 (e.code.code * 2 ^ 14 + e.index)

/-- What a read of NEXT returns: the full flag in bit 15 with the index, or 0 (R141, 10.9.1). -/
def State.nextWord (s : State) : Word :=
  match s.seq.slot with
  | some i => BitVec.ofNat 16 (0x8000 + i)
  | none => 0

/-- A band index of none is shown, and written by MARK, as 255 (R50). -/
def bandCode (i : Option Nat) : Nat := i.getD 255

end Sys2Proof.Machine
end

