-- ==== Sys2Proof/Machine/Share.lean ====
section
/-! DEFINITION. The share computation (chapter 6) as one function of an allocation's snapshot, the settings it reads
and what it takes at its counter point. It touches no state. -/

namespace Sys2Proof.Machine

/-! ### Budget (6.2) -/

/-- P_in (R90). -/
def budgetPower (snap : Snapshot) (b : BudgetRead) : Nat :=
  match snap.source with
  | .none => 0
  | _ =>
    let iC := if snap.dieWarning then b.iC / 2 else b.iC
    b.vC * iC / 1000 * b.convGain / 256

/-- P_load (R91). -/
def loadPower (snap : Snapshot) : Nat := snap.vSys * snap.iSys / 1000

/-- P_avail (R91). -/
def availablePower (snap : Snapshot) (b : BudgetRead) : Int := (budgetPower snap b : Int) - (loadPower snap : Int)

/-! ### States of charge (3.7) -/

/-- s of a cell (R46): 1024 where Q stands above a Cap_q lowered since (R40). -/
def stateOfCharge (q capQ : Nat) : Nat := min 1024 (q * 1024 / capQ)

/-! ### Ceilings, voltage limits and the taper value (6.3) -/

/-- E (R92). -/
def effectiveCeiling (ceiling derate imaxChg : Nat) (reduced : Bool) : Nat :=
  let e := min (ceiling * derate / 256) imaxChg
  if reduced then e / 2 else e

/-- The taper step (R94). -/
def taperStep (tp e vcell vlim taperMin taperHyst : Nat) : Nat :=
  let tp := min tp e
  let step := max taperMin (tp / 16)
  if vlim ≤ vcell then tp - step
  else if vcell < vlim - taperHyst then min e (tp + step)
  else tp

def Holds.nonempty (h : Holds) : Bool := h.band || h.window || h.quiet || h.heat

/-- Tests 1 to 6 of R1, the first that holds; none when the cell is charging (test 7). -/
def chargeTest (x : CellSnapshot) (vlim pIn : Nat) (pAvail : Int) (rd : CeilingRead) : Option ChargeState :=
  if x.charge = .tripped then some .tripped
  else if x.vpin < 1500 then some .absent
  else if x.holds.nonempty then some .held
  else if x.charge = .full ∧ vlim - rd.vrech ≤ x.vcell then some .full
  else if pIn = 0 ∨ pAvail ≤ 0 then some .idle
  else if x.vcell < rd.vpre then some .precharge
  else none

/-- A cell entering charging from any state but BULK, TAPER and IDLE takes its Tp afresh (R2). -/
def ChargeState.keepsTaper : ChargeState → Bool
  | .bulk => true
  | .taper => true
  | .idle => true
  | _ => false

/-- What the ceiling stage gives for a cell. -/
structure CeilingStage where
  e : Nat
  vlim : Nat
  tp : Nat
  termCount : Nat
  /-- the termination count reached TERM_COUNT: the cell is FULL for the rest of the allocation (R2) -/
  terminated : Bool
  found : ChargeState
  g : Nat
  deriving DecidableEq, Repr

/-- The ceiling stage of one cell (R1, R2, R92 to R95). -/
def ceilingStage (x : CellSnapshot) (out : Output) (c : CellId) (reduced : Bool) (pIn : Nat) (pAvail : Int)
    (rd : CeilingRead) : CeilingStage :=
  let e := effectiveCeiling out.ceiling x.band.derate (rd.imaxChg.get c) reduced
  let vlim := out.vcap - x.band.vcapDrop
  let tp0 := if x.renewal then e else x.tp
  match chargeTest x vlim pIn pAvail rd with
  | some st =>
    { e := e, vlim := vlim, tp := tp0, termCount := 0, terminated := false, found := st,
      g := if st = .precharge then min (rd.ipre.get c) (rd.imaxChg.get c) else 0 }
  | none =>
    let tp := taperStep (if x.charge.keepsTaper then tp0 else e) e x.vcell vlim rd.taperMin rd.taperHyst
    let st : ChargeState := if tp < e then .taper else .bulk
    let count := if st = .taper ∧ tp ≤ rd.iterm then x.termCount + 1 else 0
    let terminated := decide (st = .taper ∧ tp ≤ rd.iterm ∧ rd.termCount ≤ count)
    { e := e, vlim := vlim, tp := tp, termCount := if terminated then 0 else count, terminated := terminated,
      found := if terminated then .full else st, g := if terminated then 0 else min e tp }

/-! ### The splits (6.4, 6.5) -/

/-- The voltage a charge cell's power and set-point are worked out on (R97, R101). -/
def chargeVoltage (found : ChargeState) (vcell : Nat) : Nat :=
  if found = .precharge then max vcell 2000 else vcell

/-- Pd (R97); 0 for a cell that is no charge cell, whose G is 0. -/
def demandPower (st : CeilingStage) (vcell : Nat) : Nat := chargeVoltage st.found vcell * st.g / 1000

/-- BULK or TAPER. -/
def ChargeState.sharesRemainder : ChargeState → Bool
  | .bulk => true
  | .taper => true
  | _ => false

/-- The powers granted when a power is shared by a weight of 1024 between those of two that may take one, each up to
its most (R100, R106). -/
def splitPower (power weightA : Nat) : Option Nat → Option Nat → Nat × Nat
  | none, none => (0, 0)
  | some mostA, none => (min mostA power, 0)
  | none, some mostB => (0, min mostB power)
  | some mostA, some mostB =>
    let a := min mostA (power * weightA / 1024)
    let b := min mostB (power - a)
    (min mostA (power - b), b)

/-- The weight of cell A for a signed correction (R99). -/
def weightA (correction : Int) : Nat := (clampInt 64 960 (512 + correction)).toNat

/-- trunc(d x BAL_GAIN / 16) (R99). -/
def balanceCorrection (d : Int) (balGain : Nat) : Int := (d * balGain).tdiv 16

/-- One cell's part of the result. -/
structure CellShare where
  stage : CeilingStage
  demand : Nat
  granted : Nat
  setPoint : Int
  /-- Lim (R105) -/
  lim : Nat
  deriving DecidableEq, Repr

/-- What an allocation completion hands on (R109). -/
structure ShareResult where
  pIn : Nat
  pLoad : Nat
  pAvail : Int
  pPre : Nat
  r : Nat
  s : PerCell Nat
  d : Int
  w : PerCell Nat
  v : PerCell Nat
  shortfall : Bool
  cells : PerCell CellShare
  deriving DecidableEq, Repr

/-- The power a PRECHARGE cell is granted (R98). -/
def prechargeGrant (pAvail pPre pd : Nat) : Nat := if pPre ≤ pAvail then pd else pAvail * pd / pPre

/-- A charge set-point (R101). -/
def chargeSetPoint (granted voltage demand : Nat) : Nat := min (granted * 1000 / voltage) demand

/-- What the charge split gives a cell: its granted power and set-point. -/
structure Grant where
  granted : Nat
  setPoint : Int
  deriving DecidableEq, Repr

/-- P_pre (R98). -/
def prechargePower (sa sb : CeilingStage) (pdA pdB : Nat) : Nat :=
  (if sa.found = .precharge then pdA else 0) + (if sb.found = .precharge then pdB else 0)

/-- R (R98). -/
def chargeRemainder (pAvail pPre : Nat) : Nat := if pPre ≤ pAvail then pAvail - pPre else 0

/-- The power a charge cell is granted: its precharge share, or its share of the remainder. -/
def chargeGrant (found : ChargeState) (pAvail pPre pd fromRemainder : Nat) : Nat :=
  if found = .precharge then prechargeGrant pAvail pPre pd
  else if found.sharesRemainder then fromRemainder
  else 0

/-- The charge split (R97 to R103), for a P_avail above 0. -/
def chargeSplit (sa sb : CeilingStage) (vcellA vcellB pAvail wA iHingeMax : Nat) : PerCell Grant :=
  let pdA := demandPower sa vcellA
  let pdB := demandPower sb vcellB
  let pPre := prechargePower sa sb pdA pdB
  let shared := splitPower (chargeRemainder pAvail pPre) wA
    (if sa.found.sharesRemainder then some pdA else none) (if sb.found.sharesRemainder then some pdB else none)
  let gA := chargeGrant sa.found pAvail pPre pdA shared.1
  let gB := chargeGrant sb.found pAvail pPre pdB shared.2
  { a := { granted := gA, setPoint := (chargeSetPoint gA (chargeVoltage sa.found vcellA) sa.g : Nat) }
    b := { granted := gB
           setPoint := (min (chargeSetPoint gB (chargeVoltage sb.found vcellB) sb.g) iHingeMax : Nat) } }

/-- Supply-eligible (R104). -/
def supplyEligible (found : ChargeState) (x : CellSnapshot) (vpre : Nat) : Bool :=
  found != .absent && found != .tripped && x.band.allow.s && decide (vpre < x.vcell)

/-- Lim (R105). -/
def supplyLimit (rd : SupplySplitRead) (iHingeMax : Nat) : CellId → Nat
  | .a => rd.imaxDis.a
  | .b => min rd.imaxDis.b iHingeMax

/-- A supply set-point (R106). -/
def supplySetPoint (granted vcell : Nat) : Int := -((granted * 1000 / vcell : Nat) : Int)

/-- The supply split (R104 to R106), for a need N. The second part is the shortfall test (R107). -/
def supplySplit (mostA mostB : Option Nat) (vcellA vcellB need vA : Nat) : PerCell Grant × Bool :=
  let p := splitPower need vA mostA mostB
  ({ a := { granted := p.1, setPoint := supplySetPoint p.1 vcellA }
     b := { granted := p.2, setPoint := supplySetPoint p.2 vcellB } },
   decide (mostA.getD 0 + mostB.getD 0 < need) || (mostA.isNone && mostB.isNone))

/-- No power granted and set-points of 0 (R103, R108). -/
def noGrant : PerCell Grant := { a := { granted := 0, setPoint := 0 }, b := { granted := 0, setPoint := 0 } }

/-- Ps_max of a cell that is supply-eligible (R105). -/
def supplyMost (x : CellSnapshot) (st : CeilingStage) (vpre lim : Nat) : Option Nat :=
  if supplyEligible st.found x vpre then some (x.vcell * lim / 1000) else none

/-- The whole share computation; `capQ` is Cap_q of both cells. -/
def share (snap : Snapshot) (cp : CounterPoint) (capQ : PerCell Nat) (b : BudgetRead) (ce : CeilingRead)
    (sp : ChargeSplitRead) (su : SupplySplitRead) : ShareResult :=
  let pIn := budgetPower snap b
  let pAvail := availablePower snap b
  let xa := snap.cells.a
  let xb := snap.cells.b
  let sa := ceilingStage xa cp.output.a .a snap.chargeReduced pIn pAvail ce
  let sb := ceilingStage xb cp.output.b .b snap.chargeReduced pIn pAvail ce
  let s : PerCell Nat := { a := stateOfCharge cp.q.a capQ.a, b := stateOfCharge cp.q.b capQ.b }
  let d : Int := (s.a : Int) - (s.b : Int)
  let corr := balanceCorrection d sp.balGain
  let wA := weightA (-corr)
  let vA := weightA corr
  let need := (-pAvail).toNat
  let limA := supplyLimit su sp.iHingeMax .a
  let limB := supplyLimit su sp.iHingeMax .b
  let mostA := supplyMost xa sa ce.vpre limA
  let mostB := supplyMost xb sb ce.vpre limB
  let supply := supplySplit mostA mostB xa.vcell xb.vcell need vA
  let grants :=
    if 0 < pAvail then chargeSplit sa sb xa.vcell xb.vcell pAvail.toNat wA sp.iHingeMax
    else if pAvail < 0 then supply.1
    else noGrant
  let pPre := if 0 < pAvail then prechargePower sa sb (demandPower sa xa.vcell) (demandPower sb xb.vcell) else 0
  { pIn := pIn, pLoad := loadPower snap, pAvail := pAvail, pPre := pPre
    r := if 0 < pAvail then chargeRemainder pAvail.toNat pPre else 0
    s := s, d := d, w := { a := wA, b := 1024 - wA }, v := { a := vA, b := 1024 - vA }
    shortfall := decide (pAvail < 0) && supply.2
    cells :=
      { a := { stage := sa, demand := sa.g, granted := grants.a.granted, setPoint := grants.a.setPoint,
               lim := limA }
        b := { stage := sb, demand := sb.g, granted := grants.b.granted, setPoint := grants.b.setPoint,
               lim := limB } } }

end Sys2Proof.Machine
end

