-- ==== Sys2Proof/Machine/Transfer.lean ====
section
/-! DEFINITION. The transfer converter: the events that stop a run at once, and the update at an allocation
completion (chapter 7). -/

namespace Sys2Proof.Machine

def State.setTransfer (s : State) (t : Transfer) : State := { s with transfer := t }

/-- In RUN_AB or RUN_BA. -/
def TransferState.running : TransferState → Bool
  | .runAB => true
  | .runBA => true
  | _ => false

/-- An event of R119: a run goes to REST with its cause, a REST begins anew, OFF is not changed. -/
def State.forceRest (s : State) (cause : StopCause) : State :=
  match s.transfer.state with
  | .off => s
  | .rest => s.setTransfer { s.transfer with rest := s.xrest }
  | _ => s.setTransfer { s.transfer with state := .rest, current := 0, rest := s.xrest, stopCause := cause }

/-- The entries to HEAT and SHIP_ENTRY (R121). -/
def State.forceOff (s : State) (cause : StopCause) : State :=
  s.setTransfer { s.transfer with
    state := .off
    current := 0
    rest := 0
    stopCause := if s.transfer.state.running then cause else s.transfer.stopCause }

/-- The exit from HEAT (R121). -/
def State.restAfterHeat (s : State) : State :=
  s.setTransfer { s.transfer with state := .rest, current := 0, rest := s.xrest }

/-- A firing COMPARE with STOP_XFER (R119, R120). -/
def State.stopTransferByWindow (s : State) : State :=
  let s1 := s.forceRest .window
  s1.setTransfer { s1.transfer with windowStop := true }

/-! ### The update at an allocation completion (R113 to R118) -/

/-- The source cell of the direction d gives (R113). -/
def transferSource (d : Int) : Option CellId :=
  if 0 < d then some .a else if d < 0 then some .b else none

/-- XMAX', halved in QUIET under a reduced policy (R114, R122). -/
def State.xmaxNow (s : State) : Nat :=
  if s.control.state = .quiet ∧ s.qpolXfer = .reduced then s.xmax / 2 else s.xmax

/-- The transfer current of a direction (R114). -/
def State.transferCurrent (s : State) (res : ShareResult) (iHingeMax : Nat) (src : CellId) : Nat :=
  let raw : Int := (min s.xmaxNow (res.d.natAbs * s.xk / 16) : Nat)
  let giver := res.cells.get src
  let taker := res.cells.get (otherCell src)
  let headroom : Int := (giver.lim : Int) - (if giver.setPoint < 0 then -giver.setPoint else 0)
  let ceiling : Int := (taker.stage.e : Int)
  let hinge : Int :=
    match src with
    | .b => (iHingeMax : Int) - (if giver.setPoint < 0 then -giver.setPoint else 0)
    | .a => (iHingeMax : Int)
  (min raw (min headroom (min ceiling hinge))).toNat

/-- A cell the allocation found, and the path now holds, able to take part (R115). -/
def State.cellMayTransfer (s : State) (al : Allocation) (res : ShareResult) (c : CellId) : Bool :=
  let found := (res.cells.get c).stage.found
  let now := s.cell c
  found != .absent && found != .tripped && now.charge != .tripped && !al.becameAbsent.get c &&
    !now.holds.window && !now.holds.quiet

/-- The eligibility test for a direction (R115). -/
def State.transferEligible (s : State) (al : Allocation) (res : ShareResult) (src : CellId) : Bool :=
  s.xferEn == 1 && al.snap.source == .none && s.selector.selected == .none &&
    (s.control.state == .run || s.control.state == .quiet) &&
    !(s.control.state == .quiet && s.qpolXfer == .stopEffective) &&
    !s.transfer.windowStop && s.cellMayTransfer al res .a && s.cellMayTransfer al res .b &&
    (al.snap.cells.get src).band.allow.o && (al.snap.cells.get (otherCell src)).band.allow.i

/-- The receiver's Vcell in the snapshot is below its Vlim (R116, R117). -/
def receiverBelowLimit (al : Allocation) (res : ShareResult) (src : CellId) : Bool :=
  decide ((al.snap.cells.get (otherCell src)).vcell < (res.cells.get (otherCell src)).stage.vlim)

/-- The RUN state of a direction. -/
def runState : CellId → TransferState
  | .a => .runAB
  | .b => .runBA

/-- The start test, made in OFF (R116). -/
def State.transferStart (s : State) (al : Allocation) (res : ShareResult) (iHingeMax : Nat) : Transfer :=
  match transferSource res.d with
  | none => { s.transfer with current := 0 }
  | some src =>
    let i := s.transferCurrent res iHingeMax src
    if s.transferEligible al res src ∧ s.xstart ≤ res.d.natAbs ∧ s.xmin ≤ i ∧ receiverBelowLimit al res src then
      { s.transfer with state := runState src, current := i }
    else { s.transfer with current := 0 }

/-- The stop conditions of the continue test, the first that holds (R117). -/
def State.transferStop (s : State) (al : Allocation) (res : ShareResult) (iHingeMax : Nat) (src : CellId) :
    Option StopCause :=
  if transferSource res.d ≠ some src then some .reversed
  else if ¬ s.transferEligible al res src then some .ineligible
  else if res.d.natAbs ≤ s.xstop then some .balanced
  else if s.transferCurrent res iHingeMax src < s.xmin then some .lowCurrent
  else if ¬ receiverBelowLimit al res src then some .receiverLimit
  else none

/-- The continue test, made in RUN (R117). -/
def State.transferContinue (s : State) (al : Allocation) (res : ShareResult) (iHingeMax : Nat) (src : CellId) :
    Transfer :=
  match s.transferStop al res iHingeMax src with
  | some cause => { s.transfer with state := .rest, current := 0, rest := s.xrest, stopCause := cause }
  | none => { s.transfer with current := s.transferCurrent res iHingeMax src }

/-- A completion in REST: the rest count falls by one, and at 0 the state becomes OFF (R118). -/
def restCountDown (t : Transfer) : Transfer :=
  { t with rest := t.rest - 1, current := 0, state := if t.rest - 1 = 0 then .off else .rest }

/-- The update at an allocation completion (R116 to R118). -/
def State.transferUpdate (s : State) (al : Allocation) (res : ShareResult) (iHingeMax : Nat) : Transfer :=
  match s.transfer.state with
  | .off => s.transferStart al res iHingeMax
  | .rest => restCountDown s.transfer
  | .runAB => s.transferContinue al res iHingeMax .a
  | .runBA => s.transferContinue al res iHingeMax .b

end Sys2Proof.Machine
end

