-- ==== Sys2Proof/Machine/CellPaths.lean ====
section
/-! DEFINITION. The cell paths and the fold monitor: compensation, trips, absence, release, opening and closing, hold
reasons (chapter 1). Applying an allocation (R6) is in Machine/Allocation.lean. -/

namespace Sys2Proof.Machine

/-! ### Hold reasons (R4) -/

/-- The hold reasons (R4). -/
inductive HoldReason where
  | band | window | quiet | heat
  deriving DecidableEq, Repr

def Holds.put (h : Holds) (r : HoldReason) (v : Bool) : Holds :=
  match r with
  | .band => { h with band := v }
  | .window => { h with window := v }
  | .quiet => { h with quiet := v }
  | .heat => { h with heat := v }

def State.putHold (s : State) (c : CellId) (r : HoldReason) (v : Bool) : State :=
  s.setCell c { s.cell c with holds := (s.cell c).holds.put r v }

/-- A hold reason set or cleared on both cells. -/
def State.putHoldBoth (s : State) (r : HoldReason) (v : Bool) : State := (s.putHold .a r v).putHold .b r v

/-- A hold reason is in the first set and not in the second (case 3 of R6). -/
def Holds.hasBeyond (now then_ : Holds) : Bool :=
  (now.band && !then_.band) || (now.window && !then_.window) || (now.quiet && !then_.quiet) ||
    (now.heat && !then_.heat)

/-! ### The path switch (R7) -/

/-- An opening makes the applied set-point 0 at once (R7). -/
def State.openPath (s : State) (c : CellId) : State :=
  s.setCell c { s.cell c with pathOpen := true, setPoint := 0 }

/-- The step of the start-up sequence that closes a cell's path (R188). -/
def closingStep : CellId → Nat
  | .a => 6
  | .b => 7

/-- The step of the ship entry that opens a cell's path (R186). -/
def openingStep : CellId → Nat
  | .a => 3
  | .b => 2

/-- A cause of opening still stands: a trip, HEAT, the cell's slot in SHIP_ENTRY, SHIP, or a start-up sequence that has
not reached the cell's slot (R7, R19; log entry 31). -/
def State.openingStands (s : State) (c : CellId) : Bool :=
  (s.cell c).charge == .tripped || s.control.state == .heat || s.control.state == .ship ||
    (s.control.state == .shipEntry && decide (openingStep c ≤ s.control.shipStep)) ||
    (s.control.startup && decide (s.control.shipStep < closingStep c))

/-- A closing takes place unless a cause of opening stands (R7); it changes the applied set-point to no other value. -/
def State.closePath (s : State) (c : CellId) : State :=
  if s.openingStands c then s else s.setCell c { s.cell c with pathOpen := false }

/-! ### Compensation (R9) -/

/-- Vpin less the drop of the current over the resistance, truncated, clamped to 0..5000 mV (R9). -/
def compensate (vpin current : Int) (resistance : Nat) : Nat :=
  (clampInt 0 5000 (vpin - (current * resistance).tdiv 1000)).toNat

/-- R_A, or R_B_FOLD or R_B_OPEN by the debounced fold state (R9). -/
def State.pathResistance (s : State) : CellId → Nat
  | .a => s.rA
  | .b => if s.fold.folded then s.rBFold else s.rBOpen

def State.computeVcell (s : State) (r : Readings) (c : CellId) : State :=
  s.setCell c { s.cell c with vcell := compensate (r.vpin c) (r.current c) (s.pathResistance c) }

/-! ### Trips (R14 to R18) -/

/-- The thresholds as worked out from the settings page (R14). -/
def State.thresholdsNow (s : State) (c : CellId) : Thresholds :=
  { ov := s.vov
    occ := s.imaxChg c + s.imaxChg c / 4
    ocd := s.imaxDis c + s.imaxDis c / 4
    ot := s.ttrip
    hinge := s.iHingeMax + s.iHingeMax / 4 }

/-- The comparators follow the thresholds worked out at a scan completion (R14; log entry 16). -/
def State.followThresholds (s : State) (c : CellId) : State :=
  s.setCell c { s.cell c with thresholds := s.thresholdsNow c }

/-- The first trip condition of R14 that holds, in the order of R16. -/
def tripCondition (t : Thresholds) (c : CellId) (vpin current temperature : Int) : Option TripCause :=
  if (t.ov : Int) < vpin then some .ov
  else if (t.occ : Int) < current then some .occ
  else if (t.ocd : Int) < -current then some .ocd
  else if (t.ot : Int) ≤ temperature then some .ot
  else if c = .b ∧ t.hinge < current.natAbs then some .hinge
  else none

/-- The trip condition that readings meet for a cell, by the settings as they stand. -/
def State.tripConditionOf (s : State) (r : Readings) (c : CellId) : Option TripCause :=
  tripCondition (s.thresholdsNow c) c (r.vpin c) (r.current c) (r.temperature c)

/-- A trip of a cell, at the event that finds it (R17). A record that is held is kept. -/
def State.tripCell (s : State) (c : CellId) (record : TripRecord) : State :=
  let x := s.cell c
  let s1 := s.setCell c { x with
    pathOpen := true
    setPoint := 0
    charge := .tripped
    termCount := 0
    trip := some (x.trip.getD record)
    tripCount := saturatingSucc 255 x.tripCount }
  (s1.raise (tripCauseOf c)).forceRest .cell

/-- The record a trip would write, from a scan's readings (R18). -/
def tripRecordOf (r : Readings) (c : CellId) (cause : TripCause) (how : TripDetection) (periodCount : Nat) :
    TripRecord :=
  { cause := cause, detection := how, vpin := r.vpin c, current := r.current c, temperature := r.temperature c,
    periodCount := periodCount }

/-- A fast comparator event (R15): on a TRIPPED cell it counts and changes nothing else. -/
def State.fastEvent (s : State) (c : CellId) (cause : TripCause) : State :=
  let x := s.cell c
  if x.charge = .tripped then s.setCell c { x with tripCount := saturatingSucc 255 x.tripCount }
  else s.tripCell c (tripRecordOf s.latestReadings c cause .fast s.timer.count)

def comparatorCell : FastCondition → CellId
  | .ovA => .a
  | .occA => .a
  | .ocdA => .a
  | .ovB => .b
  | .occB => .b
  | .ocdB => .b
  | .hingeB => .b

def comparatorCause : FastCondition → TripCause
  | .ovA => .ov
  | .occA => .occ
  | .ocdA => .ocd
  | .ovB => .ov
  | .occB => .occ
  | .ocdB => .ocd
  | .hingeB => .hinge

/-- An in-flight allocation changed; nothing when none is in flight. -/
def State.modAllocation (s : State) (f : Allocation → Allocation) : State :=
  { s with allocator := { s.allocator with inFlight := s.allocator.inFlight.map f } }

/-- A cell becomes ABSENT (R3). An allocation in flight leaves it so (case 1 of R6). -/
def State.becomeAbsent (s : State) (c : CellId) : State :=
  let s1 := s.setCell c { s.cell c with charge := .absent, setPoint := 0, termCount := 0 }
  (s1.modAllocation fun al => { al with becameAbsent := al.becameAbsent.set c true }).forceRest .cell

/-- The tests of a cell at a scan completion: the trip test (R16), and the absence test of a cell that is not TRIPPED
and not tripped by the same scan (R3). A cell that is ABSENT already does not become so again (R6, R119; log
entry 41). -/
def State.testCellAtScan (s : State) (rec_ : ScanRecord) (c : CellId) : State :=
  if (s.cell c).charge = .tripped then s
  else match s.tripConditionOf rec_.readings c with
    | some cause => s.tripCell c (tripRecordOf rec_.readings c cause .scan rec_.periodCount)
    | none =>
      if rec_.readings.vpin c < 1500 ∧ (s.cell c).charge ≠ .absent then s.becomeAbsent c else s

/-! ### Release (R19) -/

def State.setReleaseResult (s : State) (c : CellId) (r : ReleaseResult) : State :=
  s.setCell c { s.cell c with releaseResult := r }

/-- RELEASE_x at its receipt (R19). -/
def State.release (s : State) (c : CellId) : State :=
  if (s.cell c).charge ≠ .tripped then s.setReleaseResult c .notTripped
  else if (s.tripConditionOf s.latestReadings c).isSome then s.setReleaseResult c .refused
  else
    let s1 := s.setCell c { s.cell c with charge := .idle, trip := none, releaseResult := .released }
    (s1.modAllocation fun al => { al with released := al.released.set c true }).closePath c

/-! ### The loss of the selected source at the cell paths (R8, R133) -/

/-- A positive applied set-point becomes 0; a supply set-point stands (R8). -/
def State.zeroCharge (s : State) (c : CellId) : State :=
  s.setCell c { s.cell c with setPoint := if 0 < (s.cell c).setPoint then 0 else (s.cell c).setPoint }

/-! ### The fold monitor (R11, R12) -/

/-- Whether a sample makes a fold change, and the monitor after it (R11). -/
def foldSample (m : FoldMonitor) (sample : Bool) (deb : Nat) : FoldMonitor × Bool :=
  let m1 := { m with line := sample }
  if m.firstScan then ({ m1 with folded := sample, count := 0, firstScan := false }, false)
  else if sample = m.folded then ({ m1 with count := 0 }, false)
  else if deb ≤ m.count + 1 then ({ m1 with folded := sample, count := 0 }, true)
  else ({ m1 with count := m.count + 1 }, false)

/-- The sample at a scan completion, with the FOLD notice at a fold change (R11, R12). -/
def State.sampleFold (s : State) (sample : Bool) : State :=
  let p := foldSample s.fold sample s.foldDeb
  let s1 := { s with fold := p.1 }
  if p.2 then s1.raise .fold else s1

end Sys2Proof.Machine
end

