-- ==== Sys2Proof/Machine/Sources.lean ====
section
/-! DEFINITION. The input selector: detection, selection, changeover, and the contract in use (chapter 8). -/

namespace Sys2Proof.Machine

def State.setSelector (s : State) (x : Selector) : State := { s with selector := x }

def Selector.detection (x : Selector) : Input → Detection
  | .wired => x.wired
  | .coil => x.coil

def State.setDetection (s : State) (i : Input) (d : Detection) : State :=
  match i with
  | .wired => s.setSelector { s.selector with wired := d }
  | .coil => s.setSelector { s.selector with coil := d }

/-! ### Detection (R126, R127) -/

/-- The attach level of either input, in mV (8.1). -/
def attachLevel : Int := 4300

/-- A detection record after a scan's reading (R126). The second part says that the source attaches. -/
def detect (d : Detection) (v : Int) : Detection × Bool :=
  let good := attachLevel ≤ v
  match d.state with
  | .detached => (if good then { state := .settling, settle := 1 } else d, false)
  | .settling =>
    if good then
      if d.settle < 2 then ({ d with settle := d.settle + 1 }, false) else ({ state := .attached, settle := 0 }, true)
    else ({ state := .detached, settle := 0 }, false)
  | .attached => (d, false)

/-- The update of one input's record at a scan completion (R126). -/
def State.detectAtScan (s : State) (i : Input) (v : Int) : State :=
  let p := detect (s.selector.detection i) v
  let s1 := s.setDetection i p.1
  if p.2 then s1.raise .source else s1

/-- The detection record of an input whose pin collapses (R127). -/
def State.collapse (s : State) (i : Input) : State :=
  let gone : Detection := { state := .detached, settle := 0 }
  match (s.selector.detection i).state with
  | .attached => (s.setDetection i gone).raise .source
  | .settling => s.setDetection i gone
  | .detached => s

/-- A source is present when either input is SETTLING or ATTACHED (R137). -/
def State.sourcePresent (s : State) : Bool :=
  s.selector.wired.state != .detached || s.selector.coil.state != .detached

/-! ### Selection and changeover (R128 to R134) -/

/-- The wanted source (R128). -/
def State.wantedSource (s : State) : Option Input :=
  match decide (s.selector.wired.state = .attached), decide (s.selector.coil.state = .attached) with
  | true, true => if s.srcPrio = 0 then some .wired else some .coil
  | true, false => some .wired
  | false, true => some .coil
  | false, false => none

/-- A selection of the wired or the coil source (R134). -/
def State.selectSource (s : State) (i : Input) : State :=
  ((s.setSelector { s.selector with selected := sourceOf i }).raise .source).forceRest .source

/-- A loss of the selected source (R133): the cell paths act as on its detach (R8), and an allocation in flight has its
charge set-points kept from being applied (case 5 of R6). -/
def State.loseSource (s : State) : State :=
  let s1 := (s.zeroCharge .a).zeroCharge .b
  let s2 := s1.modAllocation fun al => { al with sourceLost := true }
  s2.setSelector { s2.selector with selected := .none }

/-- A changeover begins (R130); `held` when an allocation begins at the event. -/
def State.beginChangeover (s : State) (target : Input) (held : Bool) : State :=
  let s1 := s.loseSource
  (s1.setSelector { s1.selector with
    target := some target
    phase := if held then .held else .wait }).raise .source

/-- A selection made while a changeover is in progress (R132), and the test of the phase at a scan completion (R131). -/
def State.selectInChangeover (s : State) (scanBegins : Option Bool) : State :=
  match s.wantedSource with
  | none => s.setSelector { s.selector with phase := .none, target := none }
  | some w =>
    let s1 := s.setSelector { s.selector with target := some w }
    match scanBegins, s.selector.phase with
    | some true, .wait => s1.setSelector { s1.selector with phase := .held }
    | some true, .done => (s1.setSelector { s1.selector with phase := .none, target := none }).selectSource w
    | _, _ => s1

/-- A selection made with no changeover in progress (R129). -/
def State.selectPlain (s : State) (scanBegins : Option Bool) : State :=
  match s.selector.selected, s.wantedSource with
  | .none, none => s
  | .none, some w => s.selectSource w
  | _, none => s.loseSource.raise .source
  | x, some w => if sourceOf w = x then s else s.beginChangeover w (scanBegins == some true)

/-- A selection (R128): at a scan completion `scanBegins` says whether an allocation begins there; at a collapse event
it is none. -/
def State.makeSelection (s : State) (scanBegins : Option Bool) : State :=
  match s.selector.phase with
  | .none => s.selectPlain scanBegins
  | _ => s.selectInChangeover scanBegins

/-- An input-collapse event (R127, R128). -/
def State.collapseEvent (s : State) (i : Input) : State := (s.collapse i).makeSelection none

/-- The selector's action at a scan completion (R126, R128). -/
def State.selectorAtScan (s : State) (r : Readings) (begins : Bool) : State :=
  ((s.detectAtScan .wired r.vWired).detectAtScan .coil r.vCoil).makeSelection (some begins)

/-- The abandonment of the NONE allocation (R131). -/
def State.changeoverAbandoned (s : State) : State :=
  match s.selector.phase with
  | .held => s.setSelector { s.selector with phase := .wait }
  | _ => s

/-- The completion of the NONE allocation (R131). -/
def State.changeoverCompleted (s : State) : State :=
  match s.selector.phase with
  | .held => s.setSelector { s.selector with phase := .done }
  | _ => s

/-! ### Contracts (R135, R136) -/

/-- The contract in use of an allocation that begins (R135), with SOURCE at the first use of a new wired contract
(R136). V_c and I_c follow when the budget stage reads them (log entry 35). The pair of a contract that is not wired is
W0 (log entry 47). -/
def State.formContract (s : State) : State :=
  match s.selector.selected with
  | .none => s.setSelector { s.selector with contract := { source := .none, pair := .w0, vC := 0, iC := 0 } }
  | .coil =>
    s.setSelector { s.selector with contract := { s.selector.contract with source := .coil, pair := .w0 } }
  | .wired =>
    let s1 := s.setSelector { s.selector with
      contract := { s.selector.contract with source := .wired, pair := s.wsel }
      lastPair := s.wsel }
    if s.wsel = s.selector.lastPair then s1 else s1.raise .source

end Sys2Proof.Machine
end

