-- ==== Sys2Proof/Machine/Sequencer.lean ====
section
/-! DEFINITION. The probe sequencer: lists, items, triggers, readings, writes, skips, freezing and thaw (chapter 9). -/

namespace Sys2Proof.Machine

def State.setSeq (s : State) (q : Sequencer) : State := { s with seq := q }

/-- The state the sequencer has, or keeps while FROZEN (R158, R159, R161). -/
def Sequencer.effective (q : Sequencer) : SeqState :=
  match q.state with
  | .frozen => q.kept
  | st => st

def State.seqFrozen (s : State) : Bool := s.seq.state == .frozen

/-! ### Posts, list starts and list ends (R142, R143, R156) -/

/-- A post, lost and counted when the queue holds 4 entries (R156). -/
def State.post (s : State) (code : EndCode) : State :=
  match s.seq.current with
  | none => s
  | some i =>
    if s.seq.done.length < 4 then s.setSeq { s.seq with done := s.seq.done ++ [{ index := i, code := code }] }
    else s.setSeq { s.seq with doneOverrun := saturatingSucc 255 s.seq.doneOverrun }

/-- The fetch of the item at an index within range (R144). -/
def State.requestItem (s : State) (i : Nat) : State :=
  let s1 := s.setSeq { s.seq with state := .fetch, itemIndex := i, inFlight := .fetch i }
  s1.setArbiter { s1.arbiter with seqFetch := some i }

/-- The slot's list starts (R142); with an empty slot the sequencer becomes IDLE (R143). An index in the slot is within
range, since R141 accepts no other. -/
def State.startList (s : State) : State :=
  match s.seq.slot with
  | none => s.setSeq { s.seq with state := .idle }
  | some i => (s.setSeq { s.seq with current := some i, slot := none, budget := 0 }).requestItem i

/-- A list ends: the current list becomes none, and the slot's list starts, or the sequencer becomes IDLE (R143). -/
def State.endList (s : State) : State := (s.setSeq { s.seq with current := none }).startList

/-- An end with its post, and LIST_BAD for BAD and BUDGET (R143). -/
def State.endListWith (s : State) (code : EndCode) : State :=
  let s1 := s.post code
  (match code with
    | .bad => s1.raise .listBad
    | .budget => s1.raise .listBad
    | .ended => s1
    | .pass => s1).endList

/-- The sequencer goes on to the item at an index, which it tests (R144). -/
def State.goOn (s : State) (i : Nat) : State := if isItemIndex i then s.requestItem i else s.endListWith .bad

/-- An item finishes and the same list would go on at an index: at a budget count of 64 the list ends with BUDGET in
place of going on (R145; log entry 21). -/
def State.finishItem (s : State) (next : Nat) : State :=
  if 64 ≤ s.seq.budget then s.endListWith .budget else s.goOn next

/-- The index of the item after the current one (R144). -/
def State.nextItem (s : State) : Nat := s.seq.itemIndex + 4

/-! ### Writes (R149, R155) -/

def State.writeFault (s : State) : State :=
  (s.setSeq { s.seq with writeFaults := saturatingSucc 255 s.seq.writeFaults }).raise .writeFault

/-- A one-word write is requested and awaited. -/
def State.requestWrite (s : State) (target : Nat) (v : Word) : State :=
  let s1 := s.setSeq { s.seq with state := .write, inFlight := .write target }
  s1.setArbiter { s1.arbiter with seqWrite := some (target, v) }

/-- The write window (R149). -/
def State.inWindow (s : State) (target : Nat) : Bool :=
  decide (s.winLo ≤ target) && decide (target < s.winHi) && decide (0x100 ≤ target)

/-- A SAMPLE result or a MARK value that is ready (R149). -/
def State.writeResult (s : State) (target : Nat) (v : Word) : State :=
  if s.inWindow target then s.requestWrite target v else s.writeFault.finishItem s.nextItem

/-- A SETW (R155). -/
def State.writeSetting (s : State) (target : Nat) (v : Word) : State :=
  if 0x080 ≤ target ∧ target ≤ 0x0FF then s.requestWrite target v else s.writeFault.finishItem s.nextItem

/-! ### SAMPLE (R146 to R148) -/

/-- The result of the sample in progress is formed: LAST becomes trunc(sum / count), and it is written (R148). -/
def State.formResult (s : State) : State :=
  match s.seq.item with
  | some (.sample _ count _ target) =>
    let result := s.seq.sum.tdiv count
    (s.setSeq { s.seq with last := result }).writeResult target (wordOf result)
  | _ => s

/-- The value of a computed channel, 14 or 15 (R29). -/
def State.computedChannel (s : State) (ch : Nat) : Int := if ch = 14 then s.cells.a.vcell else s.cells.b.vcell

/-- The sample of the current item begins converting (R146). -/
def State.beginConverting (s : State) : State :=
  match s.seq.item with
  | some (.sample ch count _ _) =>
    if ch < 14 then
      let s1 := s.setSeq { s.seq with state := .convert }
      { s1 with converter := { s1.converter with probePending := count, probeChannel := ch } }
    else (s.setSeq { s.seq with sum := s.computedChannel ch * count, taken := count }).formResult
  | _ => s

/-- A trigger arrives (R147): it counts in TRIGGER_WAIT when it is the one the SAMPLE names, and is lost otherwise. None
reaches the sequencer in SHIP (R162). -/
def State.takeTrigger (s : State) (t : Trigger) : State :=
  match s.seq.state, s.seq.item with
  | .triggerWait, some (.sample _ _ t' _) =>
    if t' = t ∧ s.control.state ≠ .ship then s.beginConverting else s
  | _, _ => s

/-- A probe reading is handed over (R148): discarded by the discard mark, or summed; the last one forms the result, or
makes forming it the held step while FROZEN (R161). -/
def State.takeReading (s : State) (v : Int) : State :=
  if s.seq.discard then s.setSeq { s.seq with discard := false }
  else match s.seq.effective, s.seq.item with
    | .convert, some (.sample _ count _ _) =>
      let s1 := s.setSeq { s.seq with sum := s.seq.sum + v, taken := s.seq.taken + 1 }
      if s.seq.taken + 1 < count then s1
      else if s.seqFrozen then s1.setSeq { s1.seq with held := some .formResult }
      else s1.formResult
    | _, _ => s

/-! ### The other items (R150 to R155) -/

def State.flag (s : State) (n : Nat) : Bool := s.seq.flags.getLsbD n

/-- A compare that fires (R150). -/
def State.compareFires (s : State) (flag : Nat) (action : CompareAction) : State :=
  let s1 := (s.setSeq { s.seq with flags := s.seq.flags ||| (1#8 <<< flag) }).raise .window
  match action with
  | .note => s1
  | .holdA => s1.putHold .a .window true
  | .holdB => s1.putHold .b .window true
  | .stopXfer => s1.stopTransferByWindow

/-- The value a MARK takes (R152). -/
def State.markValue (s : State) : MarkWhat → Word
  | .periodCount => BitVec.ofNat 16 s.timer.count
  | .foldState => BitVec.ofNat 16 (bit s.fold.folded 0)
  | .chargeA => BitVec.ofNat 16 s.cells.a.charge.code
  | .chargeB => BitVec.ofNat 16 s.cells.b.charge.code
  | .transfer => BitVec.ofNat 16 s.transfer.state.code
  | .last => wordOf s.seq.last
  | .bands => BitVec.ofNat 16 (bandCode s.bands.a.index * 256 + bandCode s.bands.b.index)
  | .source => BitVec.ofNat 16 s.selector.selected.code

/-- Whether the condition of a BRANCH holds (R153). For the flag conditions a is clamped to 0..7. -/
def State.branchHolds (s : State) (c : BranchCondition) (a : Int) : Bool :=
  match c with
  | .lastBelow => decide (s.seq.last < a)
  | .lastAtOrAbove => decide (a ≤ s.seq.last)
  | .folded => s.fold.folded
  | .unfolded => !s.fold.folded
  | .flagSet => s.flag (clampInt 0 7 a).toNat
  | .flagClear => !s.flag (clampInt 0 7 a).toNat
  | .sourceNone => s.selector.selected == .none
  | .sourceNotNone => s.selector.selected != .none

/-- A JUMP: it posts PASS; the slot's list starts, or the list goes on at the target (R154). -/
def State.jump (s : State) (target : Nat) : State :=
  let s1 := s.post .pass
  match s1.seq.slot with
  | some _ => s1.endList
  | none => s1.finishItem target

/-- The budget count at an item's fetch completion (R145). -/
def Item.budgetAfter (n : Nat) : Item → Nat
  | .sample _ _ _ _ => 0
  | .wait _ => 0
  | .endItem => n + 1
  | .compare _ _ _ _ => n + 1
  | .mark _ _ => n + 1
  | .branch _ _ _ => n + 1
  | .jump _ => n + 1
  | .setw _ _ => n + 1
  | .bad _ => n + 1

/-- An item is carried out by its kind (R144 to R155). -/
def State.carryOut (s0 : State) (item : Item) : State :=
  let s := s0.setSeq { s0.seq with budget := item.budgetAfter s0.seq.budget }
  match item with
  | .endItem => s.endListWith .ended
  | .bad _ => s.endListWith .bad
  | .sample _ _ trigger _ =>
    let s1 := s.setSeq { s.seq with sum := 0, taken := 0 }
    match trigger with
    | .now => s1.beginConverting
    | _ => s1.setSeq { s1.seq with state := .triggerWait }
  | .compare flag action low high =>
    (if s.seq.last < low ∨ high < s.seq.last then s.compareFires flag action else s).finishItem s.nextItem
  | .wait periods => s.setSeq { s.seq with state := .pause, waitCount := max 1 periods }
  | .mark what target => s.writeResult target (s.markValue what)
  | .branch c a target => s.finishItem (if s.branchHolds c a then target else s.nextItem)
  | .jump target => s.jump target
  | .setw v target => s.writeSetting target v

/-! ### Period expiries, and the completions of the sequencer's transactions (R144, R149, R151, R161) -/

/-- A period expiry in PAUSE: the count falls by one, and at 0 the sequencer goes on (R151). -/
def State.countWait (s : State) : State :=
  match s.seq.state with
  | .pause =>
    let s1 := s.setSeq { s.seq with waitCount := s.seq.waitCount - 1 }
    if s1.seq.waitCount = 0 then s1.finishItem s1.nextItem else s1
  | _ => s

/-- The item fetched is carried out, or becomes the held step while FROZEN (R144, R161). -/
def State.itemFetched (s : State) (item : Item) : State :=
  let s1 := s.setSeq { s.seq with item := some item, inFlight := .none }
  if s.seqFrozen then s1.setSeq { s1.seq with held := some .carryOut } else s1.carryOut item

/-- The sequencer's write has completed (R149, R155, R161). -/
def State.itemWritten (s : State) : State :=
  let s1 := s.setSeq { s.seq with inFlight := .none }
  if s.seqFrozen then s1.setSeq { s1.seq with held := some (.goOn s.nextItem) } else s1.finishItem s.nextItem

/-! ### NEXT, and the host's commands (R141, R157 to R160) -/

/-- An accepting write to NEXT finds the sequencer IDLE, and the list starts (R141, R142). -/
def State.nextStarts (s : State) (v : Word) : Bool :=
  s.seq.slot.isNone && isItemIndex v.toNat && s.seq.state == .idle

/-- A write to NEXT (R141). -/
def State.writeNext (s : State) (v : Word) : State :=
  match s.seq.slot with
  | some _ => s
  | none =>
    if isItemIndex v.toNat then
      let s1 := s.setSeq { s.seq with slot := some v.toNat }
      if s.seq.state = .idle then s1.startList else s1
    else s

/-- A read of DONE: the oldest entry, removed, or 0xFFFF (R157). -/
def State.readDone (s : State) : Word × State :=
  match s.seq.done with
  | [] => (0xFFFF, s)
  | e :: rest => (e.word, s.setSeq { s.seq with done := rest })

/-- A conversion of the sequencer's is in flight whose reading will be handed over (R31). -/
def Converter.probeWillReport (c : Converter) : Bool :=
  match c.inFlight with
  | .probe _ dropped => !dropped
  | _ => false

/-- Probe pending becomes 0, and the discard mark is set when a probe conversion is in flight (R31, R158, R159;
log entry 20). -/
def State.cancelSample (s : State) : State :=
  let s1 := { s with converter := { s.converter with probePending := 0 } }
  s1.setSeq { s1.seq with discard := s1.seq.discard || s1.converter.probeWillReport }

/-- The item in progress ends and the sequencer goes on to the next, at once or, while FROZEN, at the thaw (R158). -/
def State.skipToNext (s : State) : State :=
  if s.seqFrozen then s.setSeq { s.seq with kept := .fetch, held := some (.goOn s.nextItem) }
  else s.finishItem s.nextItem

/-- SKIP_ITEM (R158). -/
def State.skipItem (s : State) : State :=
  match s.seq.effective with
  | .triggerWait => s.skipToNext
  | .convert =>
    let s1 := s.cancelSample
    (s1.setSeq { s1.seq with sum := 0, taken := 0 }).skipToNext
  | .pause => s.skipToNext
  | .idle => s
  | .fetch => s
  | .write => s
  | .frozen => s

/-- SKIP_ITEM makes the sequencer go on at once (R158). -/
def State.skipItemGoesOn (s : State) : Bool :=
  match s.seq.state with
  | .triggerWait => true
  | .convert => true
  | .pause => true
  | .idle => false
  | .fetch => false
  | .write => false
  | .frozen => false

/-- SKIP_LIST makes the slot's list start at once, if there is one (R159). -/
def State.skipListGoesOn (s : State) : Bool := s.seq.state != .idle && s.seq.state != .frozen

/-- SKIP_LIST (R159). -/
def State.skipList (s : State) : State :=
  match s.seq.effective with
  | .idle => s
  | _ =>
    let s1 := s.withdrawSeq.cancelSample
    if s.seqFrozen then s1.setSeq { s1.seq with current := none, kept := .idle, held := none }
    else s1.endList

/-- CLEAR_WINDOW (R160). -/
def State.clearWindow (s : State) : State :=
  let s1 := (s.setSeq { s.seq with flags := 0 }).putHoldBoth .window false
  s1.setTransfer { s1.transfer with windowStop := false }

/-! ### Freezing and thaw (R161) -/

/-- The freezing; a sequencer already FROZEN is not changed. -/
def State.freeze (s : State) : State :=
  match s.seq.state with
  | .frozen => s
  | st => s.setSeq { s.seq with state := .frozen, kept := st, held := none }

/-- The thaw: the kept state, and the held step at once. The kept state stands after it (log entry 48). -/
def State.thaw (s : State) : State :=
  match s.seq.state with
  | .frozen =>
    let s1 := s.setSeq { s.seq with state := s.seq.kept, held := none }
    match s.seq.held, s.seq.kept with
    | some .carryOut, _ =>
      match s.seq.item with
      | some item => s1.carryOut item
      | none => s1
    | some (.goOn i), _ => s1.finishItem i
    | some .formResult, _ => s1.formResult
    | none, .idle => s1.startList
    | none, _ => s1
  | _ => s

/-! ### Resets and SHIP (R162, R164) -/

/-- A conversion of the sequencer's in flight completes and is dropped at the converter (R31). The channel of probe
conversions, which R34 gives no value at SOFT_RESET and at the ship wake, is kept (log entry 2). -/
def State.dropProbes (s : State) : State :=
  { s with converter := { s.converter with
      probePending := 0
      inFlight :=
        match s.converter.inFlight with
        | .probe ch _ => .probe ch true
        | x => x } }

/-- The sequencer's values after a reset (R164). R164 gives the kept state of a sequencer that was FROZEN at a SOFT_RESET
alone; that the others make it IDLE, as a POR does, is the model's choice (log entry 50). -/
def State.resetSeq (s : State) (st kept : SeqState) : State :=
  let s1 := s.withdrawSeq.dropProbes
  s1.setSeq { Reset.sequencer with state := st, kept := kept, item := s1.seq.item }

/-- The sequencer at entry to SHIP stops where it stands (R162; log entry 19). -/
def State.stopSeqForShip (s : State) : State := s.withdrawSeq.dropProbes

end Sys2Proof.Machine
end

