-- ==== Sys2Proof/Machine/Profiles.lean ====
section
/-! DEFINITION. The profile channels: fetches, starts, batches, swaps, starvation, follow mode, and the output the share
computation takes (chapter 5). -/

namespace Sys2Proof.Machine

def State.channel (s : State) (c : CellId) : Channel := s.channels.get c

def swapTrigger : CellId → Trigger
  | .a => .swapA
  | .b => .swapB

/-! ### Output (R63, R80) -/

/-- The flat pair (R63). -/
def State.flatOutput (s : State) (c : CellId) : Output := { ceiling := s.flatCeil c, vcap := s.flatVcap }

/-- A channel gives its working ceiling and VCAP in RUNNING, HOLDING and STARVED (R63). -/
def ChannelState.givesWorking : ChannelState → Bool
  | .running => true
  | .holding => true
  | .starved => true
  | _ => false

/-- A channel's output (R63); for a FOLLOWING channel B the fraction of channel A's ceiling and channel A's cap, or the
flat pair (R80). -/
def State.output (s : State) (c : CellId) : Output :=
  let x := s.channel c
  if x.state.givesWorking then { ceiling := x.ceiling, vcap := x.vcap }
  else match x.state with
    | .following =>
      let a := s.channel .a
      if a.state.givesWorking then { ceiling := min 8000 (a.ceiling * s.followRatio / 256), vcap := a.vcap }
      else s.flatOutput c
    | _ => s.flatOutput c

/-! ### Fetches (R65, R66, R73) -/

/-- The request of the next record (R65), or the overrun when it would pass word index 0xFFF (R73). -/
def State.requestFetch (s : State) (c : CellId) : State :=
  let x := s.channel c
  if 0xFFA < x.nextIndex then s.setChannel c { x with overrun := true, endMark := true }
  else
    let s1 := s.setChannel c { x with fetch := some x.nextIndex, nextIndex := x.nextIndex + 6 }
    s1.setArbiter { s1.arbiter with fetch := s1.arbiter.fetch.set c (some x.nextIndex) }

/-- A fetch in flight is discarded (R66): withdrawn when it waits, or marked to be ignored when it is under way. -/
def State.discardFetch (s : State) (c : CellId) : State :=
  let x := s.channel c
  match x.fetch with
  | none => s
  | some _ =>
    let waiting := (s.arbiter.fetch.get c).isSome
    let s1 := s.setChannel c { x with fetch := none, ignore := x.ignore || !waiting }
    s1.setArbiter { s1.arbiter with fetch := s1.arbiter.fetch.set c none }

/-! ### Start and stop (R67, R78, R79) -/

/-- What a start and a stop have in common: the fetch discarded, the staged record invalid, the end mark clear. -/
def State.dropTable (s : State) (c : CellId) : State :=
  let s1 := s.discardFetch c
  s1.setChannel c { s1.channel c with stagedValid := false, endMark := false }

/-- A start of a channel on its own table (R67). -/
def State.startOwn (s : State) (c : CellId) : State :=
  let s1 := s.dropTable c
  (s1.setChannel c { s1.channel c with
    starvedCount := 0
    overrun := false
    nextIndex := s1.ptBase c
    state := .starting }).requestFetch c

/-- A start of channel B in follow mode (R79). -/
def State.startFollowing (s : State) : State :=
  let s1 := s.dropTable .b
  s1.setChannel .b { s1.channel .b with starvedCount := 0, overrun := false, state := .following }

/-- PROFILE_START_x (R67, R79): channel B reads B_MODE. -/
def State.profileStart (s : State) : CellId → State
  | .a => s.startOwn .a
  | .b => if s.bMode = 0 then s.startOwn .b else s.startFollowing

/-- PROFILE_STOP_x (R78); a stop of a channel already STOPPED changes nothing. -/
def State.profileStop (s : State) (c : CellId) : State :=
  if (s.channel c).state = .stopped then s
  else
    let s1 := s.dropTable c
    s1.setChannel c { s1.channel c with state := .stopped }

/-! ### Installation and swap (R68, R72, R76) -/

/-- The working fields set from a record; `ceiling` is what "continue" stands for. -/
def Channel.work (x : Channel) (g : Segment) (ceiling : Nat) : Channel :=
  { x with
    working := g.index
    ceiling := g.start.getD ceiling
    slope := g.slope
    stepQ := g.stepQ
    vcap := g.vcap
    quantaLeft := g.stepQ
    stepsLeft := g.steps
    endMark := g.last
    state := if g.steps = 0 then .holding else .running }

/-- The fetch that follows an installation or a swap, unless the record ends the table (R65). -/
def State.fetchAfter (s : State) (c : CellId) (g : Segment) : State := if g.endsTable then s else s.requestFetch c

/-- Segment 0 is installed: no trigger, and "continue" means 0 (R68). -/
def State.install (s : State) (c : CellId) (g : Segment) : State :=
  (s.setChannel c ((s.channel c).work g 0)).fetchAfter c g

/-- A swap (R72): "continue" keeps the ceiling, the SWAP trigger is sent, and the next fetch is requested. -/
def State.swap (s : State) (c : CellId) (g : Segment) : State :=
  let x := s.channel c
  ((s.setChannel c { x.work g x.ceiling with stagedValid := false }).takeTrigger (swapTrigger c)).fetchAfter c g

/-- The end of a segment, the first case that fits (R72). -/
def State.segmentEnd (s : State) (c : CellId) : State :=
  let x := s.channel c
  if x.endMark then s.setChannel c { x with state := .holding }
  else if x.stagedValid then s.swap c x.staged
  else (s.setChannel c { x with state := .starved }).raise (starveCauseOf c)

/-! ### Batches (R69, R71, R75) -/

/-- The ceiling after a step end (R69). -/
def stepCeiling (ceiling : Nat) (slope : Int) : Nat := (clampInt 0 8000 (ceiling + slope)).toNat

/-- One quantum in RUNNING (R69). -/
def State.stepQuantum (s : State) (c : CellId) : State :=
  let x := s.channel c
  if 1 < x.quantaLeft then s.setChannel c { x with quantaLeft := x.quantaLeft - 1 }
  else
    let s1 := s.setChannel c { x with
      ceiling := stepCeiling x.ceiling x.slope
      stepsLeft := x.stepsLeft - 1
      quantaLeft := x.stepQ }
    if x.stepsLeft - 1 = 0 then s1.segmentEnd c else s1

/-- One quantum of a batch by the state the channel has reached (R69, R71, R75). -/
def State.takeQuantum (s : State) (c : CellId) : State :=
  let x := s.channel c
  match x.state with
  | .running => s.stepQuantum c
  | .starved => s.setChannel c { x with starvedCount := saturatingSucc 65535 x.starvedCount }
  | .stopped => s
  | .starting => s
  | .holding => s
  | .following => s

/-- A batch is taken whole at one event, quantum by quantum (R69). -/
def State.takeBatch (s : State) (c : CellId) : Nat → State
  | 0 => s
  | k + 1 => State.takeBatch (s.takeQuantum c) c k

/-! ### Fetch completions (R66, R70, R76) -/

/-- A fetch completion at a channel: ignored when the mark is set (R66), and taken by the channel's state otherwise. -/
def State.fetchCompleted (s : State) (c : CellId) (index : Nat) (words : List Word) : State :=
  let x := s.channel c
  if x.ignore then s.setChannel c { x with ignore := false }
  else
    let g := segmentOf index words
    let s1 := s.setChannel c { x with fetch := none }
    match x.state with
    | .starting => s1.install c g
    | .running => s1.setChannel c { s1.channel c with staged := g, stagedValid := true }
    | .starved => s1.swap c g
    | .stopped => s1
    | .holding => s1
    | .following => s1

/-! ### Resets (R84) -/

/-- A channel's values after SOFT_RESET and ship wake: the kept fields stay, and a discarded fetch that is under way
is marked to be ignored (R84). R84 gives the staged record's valid mark alone, which is cleared; that the record itself is
kept is the model's choice (DESIGN CHOICE, unsafe: log entry 2). -/
def State.resetChannel (s : State) (c : CellId) : State :=
  let s1 := s.dropTable c
  s1.setChannel c { s1.channel c with state := .stopped, ignore := s1.arbiter.fetchUnderWay c }

end Sys2Proof.Machine
end

