-- ==== Sys2Proof/Machine/Counters.lean ====
section
/-! DEFINITION. The charge counters: the gauge list, integration, calibration and presets (chapter 3). -/

namespace Sys2Proof.Machine

/-- Whether an entry is for a cell, INTEGRATE included (R36). -/
def GaugeEntry.concerns (c : CellId) : GaugeEntry → Bool
  | .integrate _ _ _ _ _ => true
  | .full d => c == d
  | .preset d => c == d

/-- The last entry of the list that concerns a cell is this one: a further request of its name is merged (R36). -/
def mergesInto (l : List GaugeEntry) (c : CellId) (e : GaugeEntry) : Bool :=
  (l.filter (GaugeEntry.concerns c)).getLast? == some e

def State.setGauge (s : State) (l : List GaugeEntry) : State := { s with gauge := l }

/-- An INTEGRATE entry is appended (R36, R37). -/
def State.appendEntry (s : State) (e : GaugeEntry) : State := (s.setGauge (s.gauge ++ [e])).requestGauge

/-- A FULL_x entry, merged where R36 allows. -/
def State.appendFull (s : State) (c : CellId) : State :=
  if mergesInto s.gauge c (.full c) then s else s.appendEntry (.full c)

/-- A PRESET_x entry, merged where R36 allows (R44). -/
def State.appendPreset (s : State) (c : CellId) : State :=
  if mergesInto s.gauge c (.preset c) then s else s.appendEntry (.preset c)

/-! ### The empty test (R42, R43) -/

/-- The empty test at a scan completion: it holds for a cell whose latch is clear (R42). -/
def State.emptyTest (s : State) (r : Readings) (c : CellId) : Bool :=
  !(s.cell c).emptyLatch && decide (r.current c < 0) && decide ((s.cell c).vcell ≤ s.vempty)

/-- The latch after a scan completion: set by the test, cleared by a recovery of more than 100 mV (R42, R43). -/
def State.updateLatch (s : State) (r : Readings) (c : CellId) : State :=
  let x := s.cell c
  let latch := if x.emptyLatch then !decide (s.vempty + 100 < x.vcell) else s.emptyTest r c
  s.setCell c { x with emptyLatch := latch }

/-- The counters' action at a scan completion (R37, R42, R43). -/
def State.countersAtScan (s : State) (rec_ : ScanRecord) : State :=
  let r := rec_.readings
  let e : GaugeEntry := .integrate r.iA r.iB rec_.length.ms (s.emptyTest r .a) (s.emptyTest r .b)
  ((s.updateLatch r .a).updateLatch r .b).appendEntry e

/-! ### The transactions (R38, R41, R44) -/

/-- k of a cell (R38). -/
def quantaOf (f : Nat) (current : Int) (t : Nat) : Int := ((f : Int) + current * t).fdiv 36000

/-- F after integration (R38). -/
def remainderOf (f : Nat) (current : Int) (t : Nat) : Nat :=
  ((f : Int) + current * t - 36000 * quantaOf f current t).toNat

/-- Q after integration, clamped to 0..Cap_q (R38). -/
def chargeAfter (q : Nat) (k : Int) (capQ : Nat) : Nat := (clampInt 0 capQ ((q : Int) + k)).toNat

/-- One cell's part of an INTEGRATE transaction (R38, R42). -/
def State.integrateCell (s : State) (c : CellId) (current : Int) (t : Nat) (empty : Bool) : State :=
  if empty then s.setQF c 0 0
  else s.setQF c (chargeAfter (s.q c) (quantaOf (s.f c) current t) (s.capQ c)) (remainderOf (s.f c) current t)

/-- The batch a cell's integration counts: none for an empty mark or a k that is not positive (R39). -/
def State.batchOf (s : State) (c : CellId) (current : Int) (t : Nat) (empty : Bool) : Nat :=
  if empty then 0 else (quantaOf (s.f c) current t).toNat

/-- The count of a cell that an entry gives no new one: the transaction leaves its Q within 0..Cap_q and its F within
0..35999 all the same (R36, R40). -/
def State.clampQF (s : State) (c : CellId) : State := s.setQF c (min (s.q c) (s.capQ c)) (min (s.f c) 35999)

/-- The words a GAUGE transaction writes (R36, R38, R40, R41, R44; log entry 24). -/
def State.gaugeWrite (s : State) : GaugeEntry → State
  | .integrate iA iB t eA eB => (s.integrateCell .a iA t eA).integrateCell .b iB t eB
  | .full c => (s.setQF c (s.capQ c) 0).clampQF (otherCell c)
  | .preset c => (s.setQF c (min (s.preset c) (s.capQ c)) 0).clampQF (otherCell c)

end Sys2Proof.Machine
end

