-- ==== Sys2Proof/Machine/Bands.lean ====
section
/-! DEFINITION. The band unit: the table, the lookup with its window, and the BAND hold (chapter 4). -/

namespace Sys2Proof.Machine

/-- An entry of the band table as read and clamped (R49). -/
structure BandEntry where
  upper : Int
  derate : Nat
  vcapDrop : Nat
  allow : Allow
  deriving DecidableEq, Repr

/-- Entry i of the table, at 0x0C0 + 4 i (R49, 10.9.3). -/
def State.bandEntry (s : State) (i : Nat) : BandEntry :=
  let base := 0x0C0 + 4 * i
  let allow := s.readWord (base + 3)
  { upper := clampInt (-40) 150 (signedOf (s.readWord base))
    derate := s.setting (base + 1) 0 256
    vcapDrop := s.setting (base + 2) 0 400
    allow := { c := allow.getLsbD 0, s := allow.getLsbD 1, i := allow.getLsbD 2, o := allow.getLsbD 3 } }

/-- The eight UPPER values in index order. -/
def State.uppers (s : State) : List Int := (List.range 8).map fun i => (s.bandEntry i).upper

/-- The plain lookup: the lowest index whose UPPER is at or above T_eff, or 7 (R52). -/
def plainLookup (uppers : List Int) (teff : Int) : Nat :=
  match (List.range 8).find? fun i => decide (teff ≤ uppers.getD i 0) with
  | some i => i
  | none => 7

/-- T_eff lies in the window of band i (R53). -/
def inBandWindow (uppers : List Int) (i : Nat) (teff : Int) : Bool :=
  (i == 0 || decide (uppers.getD (i - 1) 0 - 2 < teff)) && (i == 7 || decide (teff ≤ uppers.getD i 0 + 2))

/-- The band index at a scan completion (R53). -/
def nextBand (uppers : List Int) (held : Option Nat) (teff : Int) : Nat :=
  match held with
  | none => plainLookup uppers teff
  | some i => if inBandWindow uppers i teff then i else plainLookup uppers teff

/-- T_eff (R51). -/
def State.effectiveTemperature (s : State) (t : Int) : Int := if s.fold.folded then t + s.foldTOff else t

/-- A band change is from one band to another; the first assignment from none is none (4.4). -/
def isBandChange (held : Option Nat) (now : Nat) : Bool :=
  match held with
  | none => false
  | some i => i != now

/-- The band unit's action for a cell at a scan completion (R50 to R56). -/
def State.lookupBand (s : State) (r : Readings) (c : CellId) : State :=
  let old := s.bands.get c
  let teff := s.effectiveTemperature (r.temperature c)
  let i := nextBand s.uppers old.index teff
  let entry := s.bandEntry i
  let s1 := s.setBand c
    { index := some i, teff := teff, derate := entry.derate, vcapDrop := entry.vcapDrop, allow := entry.allow }
  let s2 := if isBandChange old.index i then s1.raise .band else s1
  s2.putHold c .band (!entry.allow.c)

/-- Both band indices return to none (R61). -/
def State.clearBandIndices (s : State) : State :=
  let s1 := s.setBand .a { s.bands.get .a with index := none }
  s1.setBand .b { s1.bands.get .b with index := none }

end Sys2Proof.Machine
end

