-- ==== Sys2Proof/Machine/Refresh.lean ====
section
/-! DEFINITION. The status refresh: the words of the status page (10.9.2), the image, and the requests (10.5). -/

namespace Sys2Proof.Machine

def natWord (n : Nat) : Word := BitVec.ofNat 16 n

/-- The words of the general block that are in use (10.9.2). -/
def State.generalWord (s : State) (i : Nat) : Word :=
  let r := s.latestReadings
  let x := s.selector
  let p := s.allocator.published
  match i with
  | 0x00 => natWord s.timer.count
  | 0x01 => natWord s.control.state.code
  | 0x02 => natWord s.control.shipResult.code
  | 0x03 => natWord (bit s.fold.folded 0 + bit s.control.dieWarning 1 + bit s.allocator.shortfall 2)
  | 0x04 => wordOf r.tDie
  | 0x05 => wordOf r.tHinge
  | 0x06 => wordOf r.vWired
  | 0x07 => wordOf r.vCoil
  | 0x08 => wordOf r.iIn
  | 0x09 => wordOf r.vSys
  | 0x0A => wordOf r.iSys
  | 0x0B => natWord (x.wired.state.code + x.wired.settle * 256)
  | 0x0C => natWord (x.coil.state.code + x.coil.settle * 256)
  | 0x0D => natWord x.selected.code
  | 0x0E => natWord p.source.code
  | 0x0F => natWord (x.phase.code + (match x.target with
      | none => 0
      | some i => (sourceOf i).code * 256))
  | 0x10 => natWord (x.contract.source.code + bit (x.contract.pair == .w1) 8 + bit (x.lastPair == .w1) 9)
  | 0x11 => natWord x.contract.vC
  | 0x12 => natWord x.contract.iC
  | 0x13 => natWord p.pIn
  | 0x14 => natWord p.pLoad
  | 0x15 => wordOf (p.pAvail.fdiv 65536)
  | 0x16 => wordOf p.pAvail
  | 0x17 => natWord s.control.shipStep
  | 0x1F => natWord s.converter.lateCount
  | _ => 0

/-- The bits of the hold reasons in the order of +0x17. -/
def Holds.code (h : Holds) : Nat := bit h.band 0 + bit h.window 1 + bit h.quiet 2 + bit h.heat 3

/-- Word +0x12 of a cell's block. -/
def CellPath.tripWord (x : CellPath) : Nat :=
  (match x.trip with
    | none => 0
    | some t => t.cause.code + bit (t.detection == .scan) 3) + x.releaseResult.code * 16 + x.tripCount * 256

/-- A field of the trip record; 0 when it is empty. -/
def CellPath.tripField (x : CellPath) (f : TripRecord → Int) : Word :=
  match x.trip with
  | none => 0
  | some t => wordOf (f t)

/-- The output shown for a channel: the one the allocation behind the refresh took (R83), of a STOPPED channel too (log
entry 43), or, after a reset, the channel's own ceiling and VCAP (R84; log entry 23). -/
def State.shownOutput (s : State) (c : CellId) : Output :=
  match (s.allocator.published.cells.get c).output with
  | some o => o
  | none => { ceiling := (s.channel c).ceiling, vcap := (s.channel c).vcap }

/-- The words of a cell's block by offset, other than Q and F (10.9.2). -/
def State.cellWord (s : State) (c : CellId) (off : Nat) : Word :=
  let r := s.latestReadings
  let x := s.cell c
  let b := s.bands.get c
  let p := s.allocator.published.cells.get c
  let ch := s.channel c
  match off with
  | 0x03 => natWord (x.charge.code + bandCode b.index * 256)
  | 0x04 => wordOf x.setPoint
  | 0x05 => wordOf (r.vpin c)
  | 0x06 => wordOf (r.current c)
  | 0x07 => wordOf (r.temperature c)
  | 0x08 => natWord x.vcell
  | 0x09 => wordOf b.teff
  | 0x0A => natWord p.e
  | 0x0B => natWord p.vlim
  | 0x0C => natWord p.g
  | 0x0D => natWord x.tp
  | 0x0E => natWord x.termCount
  | 0x0F => natWord p.demand
  | 0x10 => natWord p.granted
  | 0x11 => natWord p.s
  | 0x12 => natWord x.tripWord
  | 0x13 => x.tripField (fun t => t.vpin)
  | 0x14 => x.tripField (fun t => t.current)
  | 0x15 => x.tripField (fun t => t.temperature)
  | 0x16 => x.tripField (fun t => (t.periodCount : Int))
  | 0x17 => natWord (x.holds.code + bit x.pathOpen 4 + bit x.emptyLatch 5 + ch.state.code * 256 +
      bit ch.stagedValid 11 + bit ch.overrun 12 + bit ch.endMark 13 + bit x.renewal 14)
  | 0x18 => natWord (s.shownOutput c).ceiling
  | 0x19 => natWord (s.shownOutput c).vcap
  | 0x1A => natWord ch.working
  | 0x1B => natWord ch.stepsLeft
  | 0x1C => natWord ch.quantaLeft
  | 0x1D => natWord (ch.fetch.getD 0)
  | 0x1E => natWord ch.nextIndex
  | 0x1F => natWord ch.starvedCount
  | _ => 0

/-- The words of the transfer, sequencer and allocation block by offset (10.9.2). -/
def State.lastBlockWord (s : State) (off : Nat) : Word :=
  let t := s.transfer
  let q := s.seq
  let al := s.allocator
  match off with
  | 0x00 => natWord (t.state.code + t.stopCause.code * 256 + bit t.windowStop 15)
  | 0x01 => natWord t.current
  | 0x02 => natWord t.rest
  | 0x03 => wordOf s.latestReadings.iXfer
  | 0x04 => wordOf al.published.d
  | 0x05 => natWord al.w.a
  | 0x06 => natWord al.w.b
  | 0x07 => natWord al.v.a
  | 0x08 => natWord al.v.b
  | 0x09 => natWord al.published.pPre
  | 0x0A => natWord al.published.r
  | 0x0B => natWord al.skipped
  | 0x0C => natWord (q.state.code + q.kept.code * 16 + q.done.length * 256 + bit q.slot.isSome 15)
  | 0x0D => natWord (q.current.getD 0)
  | 0x0E => natWord q.itemIndex
  | 0x0F => wordOf q.last
  | 0x10 => natWord (q.slot.getD 0)
  | 0x11 => natWord (q.flags.toNat + q.budget * 256)
  | 0x12 => natWord (q.writeFaults + q.doneOverrun * 256)
  | 0x13 => natWord s.refresh.count
  | _ => 0

/-- A status word as its owner holds it (R172). -/
def State.statusWord (s : State) (i : Nat) : Word :=
  match i / 32 with
  | 0 => s.generalWord (i % 32)
  | 1 => s.cellWord .a (i % 32)
  | 2 => s.cellWord .b (i % 32)
  | _ => s.lastBlockWord (i % 32)

def State.statusImage (s : State) : List Word := (List.range 0x80).map s.statusWord

/-- The words of the status page that the refresh does not write: Q and F of both cells (R169). -/
def isChargeWord (i : Nat) : Bool :=
  (decide (0x020 ≤ i) && decide (i ≤ 0x022)) || (decide (0x040 ≤ i) && decide (i ≤ 0x042))

def State.setRefresh (s : State) (r : Refresh) : State := { s with refresh := r }

/-- REFRESH waits at the arbiter while a mark remains (R172). -/
def State.waitRefresh (s : State) : State :=
  s.setArbiter { s.arbiter with refresh := s.refresh.marks.any id }

/-- A refresh is requested: the refresh count becomes 0, the image is taken, all four marks are set, and REFRESH waits
(R172, R173). -/
def State.requestRefresh (s : State) : State :=
  let s1 := s.setRefresh { s.refresh with count := 0 }
  (s1.setRefresh { s1.refresh with image := s1.statusImage, marks := [true, true, true, true] }).waitRefresh

/-- The refresh at an allocation completion, by the part state and QPOL_REFRESH (R173). -/
def State.refreshAtCompletion (s : State) : State :=
  if s.control.state ≠ .quiet then s.requestRefresh
  else match s.qpolRefresh with
    | .keep => s.requestRefresh
    | .stopEffective => s
    | .reduced =>
      let s1 := s.setRefresh { s.refresh with count := s.refresh.count + 1 }
      if 8 ≤ s1.refresh.count then s1.requestRefresh else s1

/-- The lowest-numbered block whose mark is set. -/
def lowestMark : List Bool → Option Nat
  | [] => none
  | true :: _ => some 0
  | false :: rest => (lowestMark rest).map (· + 1)

/-- One word of a block written from the image, unless it is a Q or F word. -/
def writeImageWord (image : List Word) (m : Memory) (i : Nat) : Memory :=
  if isChargeWord i then m else Memory.writeWord m i (wordAt image i)

/-- A block written from the image (R172). -/
def writeBlock (image : List Word) (block : Nat) (m : Memory) : Memory :=
  ((List.range 32).map (32 * block + ·)).foldl (writeImageWord image) m

/-- A waiting refresh is withdrawn at entry to SHIP (R171, R187; log entry 32). -/
def State.withdrawRefresh (s : State) : State :=
  (s.setRefresh { s.refresh with marks := [false, false, false, false] }).waitRefresh

end Sys2Proof.Machine
end

