-- ==== Sys2Proof/Machine/Stages.lean ====
section
/-! DEFINITION. The stages of the allocation in flight: what each reads of the settings page, and the reading, once in
an allocation, at a point the manual leaves open (R86, R87). -/

namespace Sys2Proof.Machine

/-- The words the budget stage reads: the contract of the selected source, and CONV_GAIN (R90, R135). -/
def State.budgetRead (s : State) (snap : Snapshot) : BudgetRead :=
  match snap.source with
  | .none => { vC := 0, iC := 0, convGain := s.convGain }
  | .wired => { vC := s.pairVoltage snap.pair, iC := s.pairCurrent snap.pair, convGain := s.convGain }
  | .coil => { vC := s.coilV, iC := s.coilI, convGain := s.convGain }

/-- Cap_q of both cells by CAP_x as it stands (R46). -/
def State.capacityRead (s : State) : PerCell Nat := { a := s.capQ .a, b := s.capQ .b }

/-- The words the ceiling stage reads, for the tests of R1 and R2 and for R92 to R95. -/
def State.ceilingRead (s : State) : CeilingRead :=
  { imaxChg := { a := s.imaxChg .a, b := s.imaxChg .b }
    ipre := { a := s.ipre .a, b := s.ipre .b }
    vpre := s.vpre
    vrech := s.vrech
    iterm := s.iterm
    termCount := s.termCountSetting
    taperMin := s.taperMin
    taperHyst := s.taperHyst }

/-- The words the charge split reads first (R99, R102). -/
def State.chargeSplitRead (s : State) : ChargeSplitRead := { balGain := s.balGain, iHingeMax := s.iHingeMax }

/-- The words the supply split reads first (R105). -/
def State.supplySplitRead (s : State) : SupplySplitRead := { imaxDis := { a := s.imaxDis .a, b := s.imaxDis .b } }

/-- A stage's reading is made when the stage is worked, and stands if it was made before (R86). -/
def readOnce {α : Type} (worked : Bool) (held : Option α) (now : α) : Option α :=
  if worked then some (held.getD now) else held

/-- The first n stages are worked. All but the budget wait for the counter point (R87). All words of a stage are read at
one moment, each with the first stage of these four that may use it (log entry 44), but for CAP_x, which is read with the
charge split or before it, as `early` has it (log entry 39). -/
def Allocation.work (al : Allocation) (s : State) (n : Nat) (early : Bool) : Allocation :=
  { al with
    budget := readOnce (decide (1 ≤ n)) al.budget (s.budgetRead al.snap)
    capacity := readOnce (al.counter.isSome && (early || decide (3 ≤ n))) al.capacity s.capacityRead
    ceilings := readOnce (al.counter.isSome && decide (2 ≤ n)) al.ceilings s.ceilingRead
    chargeSplit := readOnce (al.counter.isSome && decide (3 ≤ n)) al.chargeSplit s.chargeSplitRead
    supplySplit := readOnce (al.counter.isSome && decide (4 ≤ n)) al.supplySplit s.supplySplitRead }

/-- V_c and I_c of the contract in use are recorded as the budget stage reads them (R135; log entry 35). -/
def State.recordContract (s : State) (b : Option BudgetRead) : State :=
  match b with
  | none => s
  | some b => { s with selector := { s.selector with contract := { s.selector.contract with vC := b.vC, iC := b.iC } } }

/-- The first n stages of the allocation in flight are worked, and CAP_x is read where `early` says so. -/
def State.workStages (s : State) (n : Nat) (early : Bool) : State :=
  match s.allocator.inFlight with
  | none => s
  | some al =>
    let al1 := al.work s n early
    { s.recordContract al1.budget with allocator := { s.allocator with inFlight := some al1 } }

/-- The model's own counter moves on, so that the next free value is another one (log entry 38). -/
def State.tick (s : State) : State := { s with freeCounter := s.freeCounter + 1 }

/-- Before an event that may change a settings word, or abandons the allocation, the allocation in flight has worked as
many of its stages as the part has come to (log entries 10 and 39). -/
def State.workFreely (s : State) : State :=
  match s.allocator.inFlight with
  | none => s
  | some _ => (s.workStages (Config.stagesWorked s.freeCounter) (Config.capacityTaken s.freeCounter)).tick

end Sys2Proof.Machine
end

