-- ==== Sys2Proof/Machine/Grants.lean ====
section
/-! DEFINITION. The two grants: of the common area to one requester (R170), and of the converter to one conversion
(R30). Reads are made and words written at the grant (R66, R168, R172; log entry 18). -/

namespace Sys2Proof.Machine

/-! ### The arbiter (R170) -/

/-- A transaction begins. -/
def State.beginTransaction (s : State) (ar : Arbiter) (t : Transaction) : State :=
  s.setArbiter { ar with underWay := some t, awaited := true }

def State.grantGauge (s : State) : State :=
  match s.gauge with
  | [] => s.setArbiter { s.arbiter with gauge := false }
  | e :: _ => s.beginTransaction { s.arbiter with gauge := false } (.gauge e)

/-- Six words read at the grant (R66). -/
def State.grantFetch (s : State) (c : CellId) (i : Nat) : State :=
  s.beginTransaction { s.arbiter with fetch := s.arbiter.fetch.set c none }
    (.fetch c i (Memory.readWords s.mem i 6))

/-- Where the link may write: the settings page and the free area (R169). -/
def linkMayWrite (i : Nat) : Bool := decide (0x080 ≤ i) && decide (i < areaWords)

/-- The words of a write run, from an index on; status page words are dropped (R168). -/
def writeRun (m : Memory) (i : Nat) : List Word → Memory
  | [] => m
  | w :: rest => writeRun (if linkMayWrite i then Memory.writeWord m i w else m) (i + 1) rest

/-- The first run that waits, taken to its grant: the operations after the grant, and the run. -/
def takeWaiting (m : Memory) : List PortOp → Option (List PortOp × Run)
  | [] => none
  | .run r :: rest =>
    if r.phase = .waiting then
      let granted : Run :=
        { r with
          phase := .granted
          words := match r.dir with
            | .read => Memory.readWords m r.start r.length
            | .write => r.words }
      some (.run granted :: rest, granted)
    else (takeWaiting m rest).map fun p => (.run r :: p.1, p.2)
  | op :: rest => (takeWaiting m rest).map fun p => (op :: p.1, p.2)

def State.setPort (s : State) (p : Port) : State := { s with port := p }

def State.grantLink (s : State) : State :=
  match takeWaiting s.mem s.port.ops with
  | none => s.setArbiter { s.arbiter with link := false }
  | some (ops, r) =>
    let s1 := (s.setPort { s.port with ops := ops }).beginTransaction { s.arbiter with link := false } (.link r.dir)
    match r.dir with
    | .read => s1
    | .write =>
      let s2 := s1.workFreely
      { s2 with mem := writeRun s2.mem r.start r.words }

/-- Four words read at the grant (R144). -/
def State.grantSeqFetch (s : State) (i : Nat) : State :=
  s.beginTransaction { s.arbiter with seqFetch := none } (.seqFetch i (Memory.readWords s.mem i 4))

/-- Where the sequencer may write: one word of the free area or the settings page (R169). -/
def seqMayWrite (i : Nat) : Bool := decide (0x080 ≤ i) && decide (i < areaWords)

def State.grantSeqWrite (s : State) (i : Nat) (v : Word) : State :=
  let s1 := (s.beginTransaction { s.arbiter with seqWrite := none } (.seqWrite i v)).workFreely
  if seqMayWrite i then s1.writeWord i v else s1

/-- The lowest-numbered marked block is written from the image, and its mark cleared (R172). -/
def State.grantRefresh (s : State) : State :=
  match lowestMark s.refresh.marks with
  | none => s.setArbiter { s.arbiter with refresh := false }
  | some b =>
    let s1 := s.beginTransaction { s.arbiter with refresh := false } (.refresh b)
    { s1 with
      refresh := { s1.refresh with marks := s1.refresh.marks.set b false }
      mem := writeBlock s1.refresh.image b s1.mem }

/-- A grant among the waiting requests, the first in the order GAUGE, FETCH_A, FETCH_B, LINK, SEQ_FETCH, SEQ_WRITE,
REFRESH (R170). -/
def State.grantFirst (s : State) : State :=
  let ar := s.arbiter
  if ar.gauge then s.grantGauge
  else match ar.fetch.a, ar.fetch.b with
    | some i, _ => s.grantFetch .a i
    | none, some i => s.grantFetch .b i
    | none, none =>
      if ar.link then s.grantLink
      else match ar.seqFetch, ar.seqWrite with
        | some i, _ => s.grantSeqFetch i
        | none, some (i, v) => s.grantSeqWrite i v
        | none, none => if ar.refresh then s.grantRefresh else s

/-- The arbiter grants when no transaction is under way (R170). -/
def State.arbitrate (s : State) : State := if s.arbiter.underWay.isSome then s else s.grantFirst

/-! ### The converter (R30) -/

/-- A grant when no conversion is in flight: the scan's next channel first, or else a pending probe conversion when the
sequencer is not FROZEN (R30). -/
def State.convert (s : State) : State :=
  let cv := s.converter
  if cv.inFlight ≠ .none then s
  else if 0 < cv.scanPending then
    { s with converter := { cv with inFlight := .scan, scanPending := cv.scanPending - 1 } }
  else if 0 < cv.probePending ∧ s.seqFrozen = false then
    { s with converter := { cv with inFlight := .probe cv.probeChannel false, probePending := cv.probePending - 1 } }
  else s

/-- Both grants, after an event that may have made a request or ended a transaction (log entry 34). -/
def State.settle (s : State) : State := s.convert.arbitrate

/-- Both grants after a command that has made a request; a command without effect grants nothing. -/
def State.settleIf (s : State) (requested : Bool) : State := if requested then s.settle else s

end Sys2Proof.Machine
end

