-- ==== Sys2Proof/Machine/Allocation.lean ====
section
/-! DEFINITION. The life of an allocation: its begin, its counter point, its completion with the application of its
results to the cell paths, and its abandonment (R6, R85 to R89, R96, R109). -/

namespace Sys2Proof.Machine

def State.setAllocator (s : State) (x : Allocator) : State := { s with allocator := x }

/-! ### Begin and abandonment (R85, R88, R89) -/

def State.cellSnapshot (s : State) (c : CellId) : CellSnapshot :=
  let x := s.cell c
  { vpin := (s.latestReadings.vpin c).toNat, vcell := x.vcell, band := s.bands.get c, charge := x.charge,
    holds := x.holds, tp := x.tp, termCount := x.termCount, renewal := x.renewal }

/-- The snapshot (R85), once the contract in use has been formed. -/
def State.snapshot (s : State) : Snapshot :=
  { vSys := s.latestReadings.vSys.toNat
    iSys := s.latestReadings.iSys.toNat
    cells := { a := s.cellSnapshot .a, b := s.cellSnapshot .b }
    source := s.selector.selected
    pair := s.selector.contract.pair
    dieWarning := s.control.dieWarning
    part := s.control.state
    chargeReduced := s.control.state == .quiet && s.qpolCharge == .reduced }

def GaugeEntry.isIntegrate : GaugeEntry → Bool
  | .integrate _ _ _ _ _ => true
  | .full _ => false
  | .preset _ => false

/-- An allocation begins: its own INTEGRATE is the last one in the gauge list (R85, R87). -/
def State.beginAllocation (s : State) : State :=
  let s1 := s.formContract
  let al : Allocation :=
    { snap := s1.snapshot
      integratesAhead := (s1.gauge.filter GaugeEntry.isIntegrate).length
      budget := none
      capacity := none
      ceilings := none
      chargeSplit := none
      supplySplit := none
      counter := none
      becameAbsent := { a := false, b := false }
      released := { a := false, b := false }
      sourceLost := false }
  s1.setAllocator { s1.allocator with inFlight := some al }

/-- The allocator's action at a scan completion: a begin, or a skipped scan (R85, R88). -/
def State.allocationAtScan (s : State) : State :=
  match s.allocator.inFlight with
  | none => s.beginAllocation
  | some _ => s.setAllocator { s.allocator with skipped := saturatingSucc 255 s.allocator.skipped }

/-- The allocation in flight is abandoned (R89); a HELD changeover goes back to WAIT (R131). -/
def State.abandonAllocation (s : State) : State :=
  match s.allocator.inFlight with
  | none => s
  | some _ => (s.setAllocator { s.allocator with inFlight := none }).changeoverAbandoned

/-! ### The counter point (R46, R64, R87) -/

/-- What an allocation takes at its counter point (R64, R87). -/
def State.counterPointNow (s : State) : CounterPoint :=
  { q := { a := s.q .a, b := s.q .b }
    output := { a := s.output .a, b := s.output .b } }

/-- The completion of an INTEGRATE: the counter point of the allocation whose own it is. -/
def State.countIntegrate (s : State) : State :=
  match s.allocator.inFlight with
  | none => s
  | some al =>
    if al.counter.isSome then s
    else if al.integratesAhead ≤ 1 then
      s.modAllocation fun al => { al with integratesAhead := 0, counter := some s.counterPointNow }
    else s.modAllocation fun al => { al with integratesAhead := al.integratesAhead - 1 }

/-! ### Application to a cell path (R6, R96) -/

/-- The cases of R6. -/
inductive ApplyCase where
  | kept | released | newHold | pathOpen | sourceLost | applied
  deriving DecidableEq, Repr

/-- An ABSENT cell whose scan found it below 1500 mV again: it leaves ABSENT at no such completion, and a hold set since
takes effect when the cell is found again (R3, R5; log entry 14). -/
def stillAbsent (x : CellPath) (sh : CellShare) : Bool := x.charge == .absent && sh.stage.found == .absent

/-- The first case of R6 that fits. -/
def applyCase (x : CellPath) (al : Allocation) (sh : CellShare) (c : CellId) : ApplyCase :=
  if x.charge = .tripped ∨ (x.charge = .absent ∧ al.becameAbsent.get c) then .kept
  else if x.charge = .idle ∧ al.released.get c then .released
  else if x.holds.hasBeyond (al.snap.cells.get c).holds && !stillAbsent x sh then .newHold
  else if x.pathOpen then .pathOpen
  else if 0 < sh.setPoint ∧ al.sourceLost then .sourceLost
  else .applied

/-- Tp as the allocation left it, and the renewal mark cleared if the allocation used it (R96). -/
def CellPath.takeTaper (x : CellPath) (al : Allocation) (sh : CellShare) (c : CellId) : CellPath :=
  { x with tp := sh.stage.tp, renewal := x.renewal && !(al.snap.cells.get c).renewal }

/-- Cases 4 to 6 of R6: the state found, the set-point applied, and what R96 writes. -/
def CellPath.takeFound (x : CellPath) (al : Allocation) (sh : CellShare) (c : CellId) (setPoint : Int) : CellPath :=
  { x.takeTaper al sh c with charge := sh.stage.found, setPoint := setPoint, termCount := sh.stage.termCount }

/-- The set-point that stands in case 5: a detach leaves 0, or a supply set-point that stood at it (R6, R8;
log entry 13). `kept` is the free choice. -/
def standingSupply (kept : Bool) (setPoint : Int) : Int := if setPoint < 0 ∧ kept then setPoint else 0

/-- A cell path after the completion (R6, R96). -/
def CellPath.applyShare (x : CellPath) (al : Allocation) (sh : CellShare) (c : CellId) (kept : Bool) : CellPath :=
  match applyCase x al sh c with
  | .kept => { x with setPoint := 0 }
  | .released => { x with setPoint := 0 }
  | .newHold => { x.takeTaper al sh c with charge := .held, setPoint := 0, termCount := 0 }
  | .pathOpen => x.takeFound al sh c 0
  | .sourceLost => x.takeFound al sh c (standingSupply kept x.setPoint)
  | .applied => x.takeFound al sh c sh.setPoint

/-- A case of R6 in which a cell takes the state found, FULL by termination included (R2, R96). -/
def ApplyCase.takesFound : ApplyCase → Bool
  | .pathOpen => true
  | .sourceLost => true
  | .applied => true
  | .kept => false
  | .released => false
  | .newHold => false

/-- The cell path's action at the completion, with FULL_x and the full calibration (R2, R41). -/
def State.applyToCell (s : State) (al : Allocation) (sh : CellShare) (kept : Bool) (c : CellId) : State :=
  let s1 := s.setCell c ((s.cell c).applyShare al sh c kept)
  if (applyCase (s.cell c) al sh c).takesFound && sh.stage.terminated then
    (s1.raise (fullCauseOf c)).appendFull c
  else s1

/-! ### The completion (R109, R110) -/

def cellResult (sh : CellShare) (s : Nat) (out : Output) : CellResult :=
  { e := sh.stage.e, vlim := sh.stage.vlim, g := sh.stage.g, demand := sh.demand, granted := sh.granted,
    setPoint := sh.setPoint, s := s, output := some out }

def publish (al : Allocation) (cp : CounterPoint) (res : ShareResult) : Published :=
  { pIn := res.pIn, pLoad := res.pLoad, pAvail := res.pAvail, pPre := res.pPre, r := res.r, d := res.d,
    source := al.snap.source
    cells := { a := cellResult res.cells.a res.s.a cp.output.a, b := cellResult res.cells.b res.s.b cp.output.b } }

/-- The allocator's own writes, with SHORTFALL (R99, R107, R110). -/
def State.writeResults (s : State) (al : Allocation) (cp : CounterPoint) (res : ShareResult) : State :=
  let s1 := s.setAllocator { s.allocator with
    inFlight := none
    shortfall := res.shortfall
    w := res.w
    v := res.v
    published := publish al cp res }
  if res.shortfall && !s.allocator.shortfall then s1.raise .shortfall else s1

/-- The hand-on of the results to every block (R109); the refresh takes its image last (R172). Where both cells
terminate at one completion, FULL_A is appended before FULL_B (log entry 45). -/
def State.handOn (s : State) (al : Allocation) (cp : CounterPoint) (res : ShareResult) (iHingeMax : Nat) : State :=
  let t := s.transferUpdate al res iHingeMax
  let n := s.freeCounter
  let s1 := s.applyToCell al res.cells.a (Config.standingSupplyKept (2 * n)) .a
  let s2 := s1.applyToCell al res.cells.b (Config.standingSupplyKept (2 * n + 1)) .b
  let s3 := ((s2.setTransfer t).writeResults al cp res).changeoverCompleted
  s3.refreshAtCompletion.tick

/-- The completion of the allocation in flight: the stages not yet worked are worked now (R87), and the results are
handed on. Before its counter point an allocation cannot complete. -/
def State.completeAllocation (s : State) : State :=
  let s1 := s.workStages 4 true
  match s1.allocator.inFlight with
  | none => s
  | some al =>
    match al.counter, al.budget, al.capacity, al.ceilings, al.chargeSplit, al.supplySplit with
    | some cp, some b, some cap, some ce, some sp, some su =>
      s1.handOn al cp (share al.snap cp cap b ce sp su) sp.iHingeMax
    | _, _, _, _, _, _ => s

end Sys2Proof.Machine
end

