-- ==== Sys2Proof/Machine/Control.lean ====
section
/-! DEFINITION. The state controller: QUIET, HEAT, the die warning, SHIP, the ship wake, start-up, and the three resets
(chapter 11, and the reset tables of every chapter). -/

namespace Sys2Proof.Machine

def State.setControl (s : State) (x : Controller) : State := { s with control := x }

def State.setPartState (s : State) (p : PartState) : State := s.setControl { s.control with state := p }

/-! ### QUIET and the wake from it (R182, R183) -/

/-- An entry to QUIET (R182). -/
def State.enterQuiet (s : State) : State :=
  let s1 := s.setPartState .quiet
  let s2 := if s1.qpolCharge = .stopEffective then s1.putHoldBoth .quiet true else s1
  if s2.qpolProbe = .stopEffective then s2.freeze else s2

def State.setRenewal (s : State) (c : CellId) : State := s.setCell c { s.cell c with renewal := true }

/-- The WAKE_FRESH step (R183). -/
def State.wakeFreshStep (s : State) : State :=
  if s.wakeFresh = 1 then ((s.setRenewal .a).setRenewal .b).clearBandIndices else s

/-- A wake from QUIET to RUN (R183); `fresh` when the WAKE_FRESH step is part of it. -/
def State.wake (s : State) (fresh : Bool) : State :=
  let s1 := ((s.setPartState .run).putHoldBoth .quiet false).thaw
  if fresh then s1.wakeFreshStep else s1

/-- A QREQ edge acts in RUN and QUIET with the start-up mark clear (R181). -/
def State.qreqActs (s : State) (p : PartState) : Bool := s.control.state == p && !s.control.startup

def State.setQreq (s : State) (level : Bool) : State := s.setControl { s.control with qreq := level }

/-- QREQ rises (R181, R182). A line that is high does not rise. -/
def State.qreqRises (s : State) : State :=
  if s.control.qreq then s
  else
    let s1 := s.setQreq true
    if s1.qreqActs .run then s1.enterQuiet else s1

/-- QREQ falls (R181, R183). -/
def State.qreqFalls (s : State) : State :=
  if s.control.qreq then
    let s1 := s.setQreq false
    if s1.qreqActs .quiet then (s1.wake true).settle else s1
  else s

/-! ### The die warning and HEAT (R32, R184) -/

/-- The warning level of HOTSEL (R32); the clear level lies five degrees below it. -/
def warningLevel (hotsel : Nat) : Int := 90 + 10 * hotsel

/-- The die warning after a test (R32). -/
def dieWarningAfter (active : Bool) (hotsel : Nat) (tDie : Int) : Bool :=
  if active then !decide (tDie ≤ warningLevel hotsel - 5) else decide (warningLevel hotsel ≤ tDie)

def State.testDie (s : State) (tDie : Int) : State :=
  s.setControl { s.control with dieWarning := dieWarningAfter s.control.dieWarning s.hotSel tDie }

/-- The entry to HEAT (R184). -/
def State.enterHeat (s : State) : State :=
  let s1 := (((s.setPartState .heat).openPath .a).openPath .b).forceOff .heat
  (s1.putHoldBoth .heat true).raise .heat

/-- A QUIET hold or a freezing made at an earlier entry to QUIET still stands (R183). -/
def State.quietStands (s : State) : Bool := s.cells.a.holds.quiet || s.cells.b.holds.quiet || s.seqFrozen

/-- The exit from HEAT (R184). -/
def State.exitHeat (s : State) : State :=
  let s1 := (s.setPartState (if s.control.qreq then .quiet else .run)).putHoldBoth .heat false
  let s2 := (((s1.closePath .a).closePath .b).restAfterHeat).raise .heat
  if s.control.qreq then s2.enterQuiet else s2.wake s.quietStands

/-- T_DIE takes the part to HEAT (R184). -/
def State.heatEntryDue (s : State) (tDie : Int) : Bool :=
  (s.control.state == .run || s.control.state == .quiet) && !s.control.startup && decide (135 ≤ tDie)

/-- T_DIE lets the part leave HEAT (R184). -/
def State.heatExitDue (s : State) (tDie : Int) : Bool := s.control.state == .heat && decide (tDie ≤ 115)

/-- The HEAT test at a scan completion (R184). -/
def State.testHeat (s : State) (tDie : Int) : State :=
  if s.heatEntryDue tDie then s.enterHeat
  else if s.heatExitDue tDie then s.exitHeat
  else s

/-! ### Start-up (R188) -/

/-- The closing of step 7 ends the start-up sequence; after POR the level of QREQ is read (R188). -/
def State.endStartup (s : State) : State :=
  let s1 := (s.setControl { s.control with shipStep := 7 }).closePath .b
  let s2 := s1.setControl { s1.control with startup := false, shipStep := 0 }
  if s2.control.startupAfterPor ∧ s2.control.qreq then s2.enterQuiet else s2

/-- The closing of step 6. -/
def State.closeCellA (s : State) : State := (s.setControl { s.control with shipStep := 6 }).closePath .a

/-- The start-up sequence begins (R188, R23, R179). -/
def State.beginStartup (s : State) : State :=
  let s1 := s.setControl { s.control with
    startup := true
    slot := s.shipSlot
    state := .run
    fastArmed := true
    wakeArmed := false
    inputOpen := false
    shipStep := 5 }
  let s2 : State := { s1 with
    timer := { count := 0, length := .ms4, running := true }
    port := { s1.port with serving := true } }
  match s1.control.slot with
  | .zero => s2.closeCellA.endStartup
  | _ => s2

/-- A slot expiry of the start-up sequence (R188). -/
def State.startupSlot (s : State) : State :=
  if s.control.startup then
    match s.control.shipStep with
    | 5 => s.closeCellA
    | 6 => s.endStartup
    | _ => s
  else s

/-- The start-up sequence that follows a POR has not begun. -/
def State.startupDue (s : State) : Bool :=
  s.control.startup && s.control.shipStep == 0 && !s.timer.running

/-! ### SHIP and the ship wake (R185 to R187) -/

/-- The waking source of a ship wake is SETTLING with count 0, the other input DETACHED (R140). -/
def wakeDetection (waking : Option Input) (i : Input) : Detection :=
  { state := if waking = some i then .settling else .detached, settle := 0 }

/-- The cell paths, the fold monitor, the timer and the converter at a ship wake (R20, R34). The channel of probe
conversions, to which R34 gives no value, is kept (log entry 2). -/
def State.wakeMeasurement (s : State) : State :=
  { s with
    cells := { a := Reset.cellPath Reset.thresholdsA, b := Reset.cellPath Reset.thresholdsB }
    fold := { folded := false, count := 0, firstScan := true, line := s.fold.line }
    timer := { count := 0, length := .ms4, running := false }
    converter := { s.converter with
      scan := none, scanPending := 0, probePending := 0, latest := none, lateCount := 0 }
    bands := { a := Reset.bandRecord, b := Reset.bandRecord } }

/-- The power path blocks at a ship wake (R111, R125, R140). -/
def State.wakePower (s : State) : State :=
  { s with
    allocator := Reset.allocator
    transfer := Reset.transfer
    selector := { Reset.selector with
      wired := wakeDetection s.control.wakingSource .wired
      coil := wakeDetection s.control.wakingSource .coil
      lastPair := s.selector.lastPair } }

/-- The counters, the arbiter, the port and the notice unit at a ship wake (R48, R180). The port has no operation, though a
run of LINK may still be under way (log entry 51). -/
def State.wakeLink (s : State) : State :=
  { s with
    gauge := []
    arbiter := { Reset.arbiter with underWay := s.arbiter.underWay }
    port := Reset.port
    notices := { sticky := Reset.sticky, mask := 0 } }

/-- The state controller at a ship wake (R189). That the waking source is none again is the model's choice (log entry 2). -/
def State.wakeControl (s : State) : State :=
  s.setControl { s.control with
    dieWarning := false
    wakePending := false
    wakingSource := none
    shipStep := 0
    startupAfterPor := false }

/-- The ship wake: every block takes its ship wake values, and the start-up sequence begins (R187). The refresh asked
for at the wake shows the start-up sequence begun (R180; log entry 33). -/
def State.shipWake (s : State) : State :=
  let s1 := ((s.resetChannel .a).resetChannel .b).resetSeq .idle .idle
  s1.wakeMeasurement.wakePower.wakeLink.wakeControl.beginStartup.requestRefresh

/-- A scan in flight is abandoned (R23; log entry 19). -/
def State.abandonScan (s : State) : State :=
  { s with converter := { s.converter with
      scan := none
      scanPending := 0
      inFlight :=
        match s.converter.inFlight with
        | .scan => .none
        | x => x } }

/-- The entry to SHIP (R187), with a pending wake taken at once. The port keeps no operation: that no access after the
ship wake waits for a run of LINK still under way from before the entry is the model's choice (R167, R180; log entry
51). -/
def State.enterShip (s : State) : State :=
  let s1 := (s.abandonScan.abandonAllocation.stopSeqForShip).withdrawRefresh
  let s2 : State := { s1 with
    timer := { s1.timer with running := false }
    port := Reset.port
    arbiter := { s1.arbiter with link := false }
    control := { s1.control with state := .ship, fastArmed := false } }
  if s2.control.wakePending then s2.shipWake else s2

/-- The opening of the input path, the last step (R186). -/
def State.openInput (s : State) : State :=
  (s.setControl { s.control with inputOpen := true, shipStep := 4 }).enterShip

def State.openCellB (s : State) : State := (s.setControl { s.control with shipStep := 2 }).openPath .b

def State.openCellA (s : State) : State := (s.setControl { s.control with shipStep := 3 }).openPath .a

/-- A slot expiry of the opening sequence (R186). -/
def State.shipSlotExpires (s : State) : State :=
  if s.control.state = .shipEntry then
    match s.control.shipStep with
    | 1 => s.openCellB
    | 2 => s.openCellA
    | 3 => s.openInput
    | _ => s
  else s

/-- The acceptance of SHIP (R186). That the waking source is none again is the model's choice (log entry 2). -/
def State.acceptShip (s : State) : State :=
  let s1 := s.setControl { s.control with
    state := .shipEntry
    shipStep := 1
    slot := s.shipSlot
    wakePending := false
    wakingSource := none
    wakeArmed := true
    shipResult := .accepted }
  let s2 := if s.control.state = .quiet then (s1.putHoldBoth .quiet false).thaw else s1
  let s3 := s2.forceOff .ship
  match s1.control.slot with
  | .zero => s3.openCellB.openCellA.openInput
  | _ => s3

def State.refuseShip (s : State) : State := s.setControl { s.control with shipResult := .refused }

/-- The SHIP command is accepted (R185). -/
def State.shipAccepted (s : State) : Bool :=
  (s.control.state == .run || s.control.state == .quiet) && !s.control.startup && !s.sourcePresent

/-- The SHIP command (R185). -/
def State.ship (s : State) : State :=
  match s.control.state with
  | .run => if s.shipAccepted then s.acceptShip else s.refuseShip
  | .quiet => if s.shipAccepted then s.acceptShip else s.refuseShip
  | .heat => s.refuseShip
  | .shipEntry => s
  | .ship => s

/-- An attach-wake event (R137, R187). The first one names the waking source. -/
def State.attachWake (s : State) (i : Input) : State :=
  if s.control.wakeArmed then
    match s.control.state with
    | .shipEntry =>
      if s.control.wakePending then s
      else s.setControl { s.control with wakePending := true, wakingSource := some i }
    | .ship => (s.setControl { s.control with wakingSource := some i }).shipWake
    | .run => s
    | .quiet => s
    | .heat => s
  else s

/-! ### SOFT_RESET and POR (R180, R189) -/

/-- A cell path after SOFT_RESET (R20). A QUIET hold that stands is kept in every part state, HEAT included (R184; log
entry 42). -/
def CellPath.afterSoftReset (x : CellPath) : CellPath :=
  { x with
    charge := if x.charge = .tripped then .tripped else .idle
    holds := { x.holds with band := false, window := false }
    setPoint := 0
    renewal := true
    termCount := 0
    releaseResult := .none }

/-- The allocator after SOFT_RESET: the skipped count is kept (R111). -/
def Allocator.afterSoftReset (x : Allocator) : Allocator := { Reset.allocator with skipped := x.skipped }

/-- SOFT_RESET in a part state that acts on it (R189). A changeover in DONE keeps its phase (R140; log entry 46). -/
def State.softResetBlocks (s : State) : State :=
  let s1 := s.workFreely.abandonAllocation
  let s2 : State := { s1 with
    cells := { a := s1.cells.a.afterSoftReset, b := s1.cells.b.afterSoftReset }
    allocator := s1.allocator.afterSoftReset
    transfer := Reset.transfer
    notices := { sticky := Reset.sticky, mask := 0 }
    control := { s1.control with shipResult := .none } }
  let s3 := ((s2.clearBandIndices).resetChannel .a).resetChannel .b
  (if s3.seqFrozen then s3.resetSeq .frozen .idle else s3.resetSeq .idle .idle).requestRefresh

/-- SOFT_RESET is ignored as a whole in SHIP_ENTRY (R189). In SHIP it cannot arrive. -/
def State.softResetActs (s : State) : Bool := s.control.state != .shipEntry && s.control.state != .ship

/-- The SOFT_RESET command. -/
def State.softReset (s : State) : State := if s.softResetActs then s.softResetBlocks else s

/-- The converter after POR (R34): a probe conversion in flight runs to its completion, and its reading is dropped at the
converter (R31, R164); a scan conversion in flight is none at once (log entry 49). -/
def Converter.afterPor (x : Converter) : Converter :=
  { Reset.converter with
    inFlight :=
      match x.inFlight with
      | .probe ch _ => .probe ch true
      | _ => .none }

/-- The arbiter after POR (R180): no request. A transaction under way runs whole and its completion is ignored (R84, R164,
R171), but for one of the counters, which ends there with its words cleared (log entry 49). -/
def Arbiter.afterPor (x : Arbiter) : Arbiter :=
  { Reset.arbiter with underWay := if x.gaugeUnderWay then none else x.underWay }

/-- POR (R180, R188): every block at its POR values; what is in flight at the converter and the arbiter runs out (a run of
LINK as log entry 51 says), and the pins, the queue and the model's counter stand. -/
def State.powerOnReset (s : State) : State :=
  { State.reset with
    converter := s.converter.afterPor
    arbiter := s.arbiter.afterPor
    fold := { State.reset.fold with line := s.fold.line }
    control := { State.reset.control with qreq := s.control.qreq }
    pending := s.pending
    freeCounter := s.freeCounter }

end Sys2Proof.Machine
end

