-- ==== Sys2Proof/Machine/Port.lean ====
section
/-! DEFINITION. The SPI port: frames, runs, link registers and commands (10.1, 10.2, 10.6). -/

namespace Sys2Proof.Machine

/-! ### Commands and link registers (R174, R175) -/

/-- A command at its receipt (R175). -/
def State.command (s : State) : Command → State
  | .softReset => s.softReset
  | .skipItem => s.skipItem
  | .skipList => s.skipList
  | .ship => s.ship
  | .release c => s.release c
  | .profileStart c => s.profileStart c
  | .profileStop c => s.profileStop c
  | .clearWindow => s.clearWindow
  | .preset c => s.appendPreset c

/-- A word written to CMD (R175). -/
def State.writeCommand (s : State) (w : Word) : State :=
  match commandOf w with
  | some c => s.command c
  | none => s

/-- MASK becomes the value written (R177). -/
def State.writeMask (s : State) (w : Word) : State := { s with notices := { s.notices with mask := w } }

/-- A register write acts (R174). -/
def State.writeRegister (s : State) (r : LinkRegister) (w : Word) : State :=
  match r with
  | .id => s
  | .next => s.writeNext w
  | .done => s
  | .note => s.clearCause w.toNat
  | .mask => s.writeMask w
  | .cmd => s.writeCommand w

/-- The value of ID (R174). -/
def idWord : Word := 0x4B22

/-- A register read takes its value, and a read of DONE pops (R174). -/
def State.readRegister (s : State) (r : LinkRegister) : Word × State :=
  match r with
  | .id => (idWord, s)
  | .next => (s.nextWord, s)
  | .done => s.readDone
  | .note => (BitVec.ofNat 16 s.note, s)
  | .mask => (s.notices.mask, s)
  | .cmd => (0, s)

/-! ### The runs and the held write (R167, R174) -/

def PortOp.isRun : PortOp → Bool
  | .run _ => true
  | .write _ _ => false

/-- An operation that a later one waits for: a run that has not completed, or a held write. -/
def PortOp.outstanding : PortOp → Bool
  | .run r => r.phase != .done
  | .write _ _ => true

/-- The port holds at most two runs (R167). -/
def Port.hasRoom (p : Port) : Bool := decide ((p.ops.filter PortOp.isRun).length < 2)

/-- Every earlier operation of the port has completed (R167). -/
def Port.settled (p : Port) : Bool := !(p.ops.any PortOp.outstanding)

/-- The port holds at most one register write (R174). -/
def Port.holdsWrite (p : Port) : Bool := !(p.ops.all PortOp.isRun)

def State.setOps (s : State) (ops : List PortOp) : State := s.setPort { s.port with ops := ops }

/-- The first operation that has not completed. -/
def firstOutstanding (ops : List PortOp) : Option PortOp := ops.find? PortOp.outstanding

/-- LINK waits at the arbiter when the port's first outstanding operation is a run that waits (R167). -/
def State.requestLink (s : State) : State :=
  s.setArbiter { s.arbiter with
    link :=
      match firstOutstanding s.port.ops with
      | some (.run r) => r.phase == .waiting
      | _ => false }

/-- The most words one run may have from a word index on (R167). -/
def runLength (i : Nat) : Nat := min 64 (areaWords - i)

/-- A read run requested from a word index on, when the port has room (R167). -/
def State.requestReadRun (s : State) (i : Nat) : State :=
  if s.port.hasRoom then
    s.setOps (s.port.ops ++
      [.run { dir := .read, start := i, length := runLength i, words := [], phase := .waiting, stale := false }])
  else s

/-! ### Write words (R167) -/

/-- A write run with one more word; it ends at its 64th word and at the last word of the common area. -/
def Run.receive (r : Run) (w : Word) : Run :=
  let n := r.length + 1
  { r with
    length := n
    words := r.words ++ [w]
    phase := if n = 64 ∨ r.start + n = areaWords then .waiting else .receiving }

def emptyWriteRun (i : Nat) : Run :=
  { dir := .write, start := i, length := 0, words := [], phase := .receiving, stale := false }

/-- The run being received takes the word that follows its last one. -/
def receiveInto (ops : List PortOp) (i : Nat) (w : Word) : Option (List PortOp) :=
  match ops.getLast? with
  | some (.run r) =>
    if r.phase = .receiving ∧ r.start + r.length = i then some (ops.dropLast ++ [.run (r.receive w)]) else none
  | _ => none

/-- A write word of the common area: it joins the run being received, or begins a new one, or, while the port already
holds two runs, is dropped (R167). -/
def State.receiveWord (s : State) (i : Nat) (w : Word) : State :=
  match receiveInto s.port.ops i w with
  | some ops => s.setOps ops
  | none => if s.port.hasRoom then s.setOps (s.port.ops ++ [.run ((emptyWriteRun i).receive w)]) else s

/-- A register that a write acts on; a write to ID or DONE is dropped (R174). -/
def LinkRegister.takesWrite : LinkRegister → Bool
  | .id => false
  | .next => true
  | .done => false
  | .note => true
  | .mask => true
  | .cmd => true

/-- A register write word: it acts, or is held, or is dropped while one is held; one that the register drops is never
held (R174). -/
def State.receiveRegister (s : State) (r : LinkRegister) (w : Word) : State :=
  if r.takesWrite = false then s
  else if s.port.settled then s.writeRegister r w
  else if s.port.holdsWrite then s
  else s.setOps (s.port.ops ++ [.write r w])

/-- A data word of a write frame at its place (R166). -/
def State.writeAt (s : State) (addr : Word) (w : Word) : State :=
  match placeOf addr with
  | .area i => s.receiveWord i w
  | .register r => s.receiveRegister r w
  | .unmapped => s

/-! ### Read words (R167, R168, R174) -/

/-- A read run of the frame in progress that has a word. -/
def Run.covers (r : Run) (i : Nat) : Bool :=
  r.dir == .read && !r.stale && decide (r.start ≤ i) && decide (i < r.start + r.length)

def PortOp.covers (i : Nat) : PortOp → Bool
  | .run r => r.covers i
  | .write _ _ => false

/-- A read run none of whose words is still to be shifted out: gone when it has completed, and to be gone at its
completion otherwise. -/
def PortOp.shiftedOut : PortOp → List PortOp
  | .run r => if r.phase = .done then [] else [.run { r with stale := true }]
  | op => [op]

/-- The word a read run gives: its data once its transaction has completed, and 0xFFFF before (R168). -/
def Run.output (r : Run) (i : Nat) : Word := if r.phase = .done then wordAt r.words (i - r.start) else 0xFFFF

/-- The operations after the last word of a run has been shifted out. -/
def finishRead (ops : List PortOp) (i : Nat) : List PortOp :=
  ops.flatMap fun op => if op.covers i then op.shiftedOut else [op]

/-- A read run from a word index on is requested, unless the frame has a run with that word (R167). -/
def State.ensureRun (s : State) (i : Nat) : State :=
  if s.port.ops.any (PortOp.covers i) then s else s.requestReadRun i

/-- The run with word i gives it, and the run after it is requested, at its first word or as soon after as the port has
room (R167; log entries 7 and 8). The word after the last of the area is word 0, which the address wraps to. -/
def State.readFromRun (s : State) (r : Run) (i : Nat) : Word × State :=
  let next := r.start + r.length
  let s1 := s.ensureRun (next % areaWords)
  (r.output i, if i + 1 = next then s1.setOps (finishRead s1.port.ops i) else s1)

/-- A word of the common area falls due on SDO (R167, R168). -/
def State.readArea (s : State) (i : Nat) : Word × State :=
  let s1 := s.ensureRun i
  match s1.port.ops.find? (PortOp.covers i) with
  | some (.run r) => s1.readFromRun r i
  | _ => (0xFFFF, s1)

/-- A read run with words the frame in progress has still to shift out: it comes after a register word of the frame. -/
def PortOp.ahead : PortOp → Bool
  | .run r => r.dir == .read && !r.stale
  | .write _ _ => false

/-- Every operation earlier than a register word of a read frame has completed (R174). -/
def Port.settledForRead (p : Port) : Bool := !(p.ops.any fun op => op.outstanding && !op.ahead)

/-- The word that falls due at a byte address, and what its reading does (R166, R168, R174). An unmapped word makes no
transaction and changes no state (R166). -/
def State.readAt (s : State) (addr : Word) : Word × State :=
  match placeOf addr with
  | .area i => s.readArea i
  | .register r => if s.port.settledForRead then s.readRegister r else (0xFFFF, s)
  | .unmapped => (0, s)

/-! ### The bus events of a frame (R165) -/

def State.setFrame (s : State) (f : FramePhase) : State := s.setPort { s.port with frame := f }

/-- The word at which a frame's first run begins: the next common area word from the frame's first place on, which for a
link register and for an unmapped address is word 0, past the wrap of the address (R165, R167; log entry 7). -/
def Place.nextAreaWord : Place → Nat
  | .area i => i
  | .register _ => 0
  | .unmapped => 0

/-- The address is complete: the first run of a read frame is requested, wherever the frame begins (R167; log entry 7). -/
def State.takeAddress (s : State) (dir : Direction) (a : Word) : State :=
  let addr := evenAddress a
  let s1 := s.setFrame (.data dir addr)
  match dir with
  | .read => s1.requestReadRun (placeOf addr).nextAreaWord
  | .write => s1

/-- A word shifted out on SDO (log entry 26). -/
def State.shiftOut (s : State) (w : Word) : State := s.setPort { s.port with shifted := s.port.shifted ++ [w] }

/-- The frame ends: a write run being received ends, and a read run is no longer shifted out (R165, R167). -/
def PortOp.atFrameEnd : PortOp → List PortOp
  | .run r =>
    match r.dir with
    | .read => PortOp.shiftedOut (.run r)
    | .write => [.run (if r.phase = .receiving then { r with phase := .waiting } else r)]
  | op => [op]

def State.endFrame (s : State) : State :=
  let s1 := s.setFrame .idle
  s1.setOps (s1.port.ops.flatMap PortOp.atFrameEnd)

/-- One bus event of a frame (R165). An event that the frame does not await changes nothing. -/
def State.frameEvent (s : State) (e : FrameEvent) : State :=
  match e, s.port.frame with
  | .csnFall, .idle => s.setPort { s.port with frame := .control, shifted := [] }
  | .control b, .control =>
    s.setFrame (if b = 0x80 then .address .read else if b = 0x00 then .address .write else .ignored)
  | .address a, .address dir => s.takeAddress dir a
  | .writeWord w, .data .write addr => (s.setFrame (.data .write (addr + 2))).writeAt addr w
  | .readDue, .data .read addr =>
    let p := (s.setFrame (.data .read (addr + 2))).readAt addr
    p.2.shiftOut p.1
  | .csnRise, .idle => s
  | .csnRise, _ => s.endFrame
  | _, _ => s

/-- A bus event at the port, which ignores every frame while it does not serve (R179, R180). -/
def State.busEvent (s : State) (e : FrameEvent) : State :=
  if s.port.serving then ((s.frameEvent e).requestLink).settle else s

/-- A stretch of a frame (log entry 5). -/
def State.busEvents (s : State) : List FrameEvent → State
  | [] => s
  | e :: rest => State.busEvents (s.busEvent e) rest

/-! ### Completions of the port's transactions (R168, R174) -/

/-- The run that holds its grant has completed: a write run is gone, and a read run is kept while its words are still
to be shifted out. -/
def Run.completed (r : Run) : List PortOp :=
  match r.dir with
  | .read => if r.stale then [] else [.run { r with phase := .done }]
  | .write => []

def completeGranted : List PortOp → List PortOp
  | [] => []
  | .run r :: rest =>
    if r.phase = .granted then r.completed ++ rest else .run r :: completeGranted rest
  | op :: rest => op :: completeGranted rest

/-- The held write whose earlier operations have all completed, and the operations without it (R174). -/
def releaseHeld : List PortOp → Option (LinkRegister × Word × List PortOp)
  | [] => none
  | .write r w :: rest => some (r, w, rest)
  | .run r :: rest =>
    if r.phase = .done then (releaseHeld rest).map fun p => (p.1, p.2.1, .run r :: p.2.2) else none

/-- A held register write acts at the completion of the last of the transactions before it (R174). -/
def State.actHeld (s : State) : State :=
  match releaseHeld s.port.ops with
  | some (r, w, ops) => (s.setOps ops).writeRegister r w
  | none => s

/-- The transaction of LINK that is under way has completed. -/
def State.linkCompleted (s : State) : State :=
  let s1 := (s.setOps (completeGranted s.port.ops)).endTransaction
  (s1.actHeld.requestLink).settle

end Sys2Proof.Machine
end

