-- ==== Sys2Proof/Machine/Scan.lean ====
section
/-! DEFINITION. The period expiry, the conversions, and the completion of a control scan, at which every measuring
block acts (chapter 2). -/

namespace Sys2Proof.Machine

def State.setTimer (s : State) (t : PeriodTimer) : State := { s with timer := t }

def State.setConverter (s : State) (c : Converter) : State := { s with converter := c }

/-! ### The period expiry (R21, R22, R24, R25) -/

/-- The length of a period that begins in a part state (R22). -/
def periodLengthOf : PartState → PeriodLength
  | .quiet => .ms32
  | .run => .ms4
  | .shipEntry => .ms4
  | .ship => .ms4
  | .heat => .ms4

/-- The timer at an expiry (R21, R22). -/
def State.countPeriod (s : State) : State :=
  s.setTimer { s.timer with count := (s.timer.count + 1) % 65536, length := periodLengthOf s.control.state }

/-- A scan is opened and asks for its fourteen conversions, or the expiry is late (R24, R25). -/
def State.askScan (s : State) : State :=
  match s.converter.scan with
  | none => s.setConverter { s.converter with
      scan := some { periodCount := s.timer.count, length := s.timer.length, next := 0, readings := Readings.zero }
      scanPending := 14 }
  | some _ => s.setConverter { s.converter with lateCount := saturatingSucc 65535 s.converter.lateCount }

/-- A period expiry, with its two hand-ons (R21). -/
def State.periodExpires (s : State) : State := ((s.countPeriod.askScan).countWait.takeTrigger .period).settle

/-! ### The completion of a scan (R26) -/

/-- The causes for which the blocks' actions at one scan completion stop a running transfer, in the order of this
model (R119, R121). -/
def stopCausesAt (before after : State) : List StopCause :=
  (if (before.cells.a.charge ≠ after.cells.a.charge) ∨ (before.cells.b.charge ≠ after.cells.b.charge) then [.cell] else []) ++
  (if before.selector.selected = .none ∧ after.selector.selected ≠ .none then [.source] else []) ++
  (if before.control.state ≠ .heat ∧ after.control.state = .heat then [.heat] else [])

/-- Where several causes fall together on a running transfer, the one written is the first taken, which the manual
leaves open (log entry 11). -/
def State.chooseStopCause (s before : State) : State :=
  let causes := stopCausesAt before s
  if before.transfer.state.running ∧ 2 ≤ causes.length then
    s.setTransfer { s.transfer with
      stopCause := causes.getD (Config.stopCauseChoice s.freeCounter % causes.length) s.transfer.stopCause }
  else s

/-- The FOLD trigger of a fold change, and the HEAT test; where an exit from HEAT freezes or thaws the sequencer, which
comes first is open (log entry 12). -/
def State.triggerAndHeat (s : State) (foldChanged : Bool) (tDie : Int) : State :=
  if foldChanged then
    if s.heatExitDue tDie && !Config.triggerTakenFirst s.freeCounter then (s.testHeat tDie).takeTrigger .fold
    else (s.takeTrigger .fold).testHeat tDie
  else s.testHeat tDie

/-- The record becomes the latest completed scan (R26, R27). -/
def State.storeScan (s : State) (rec_ : ScanRecord) : State :=
  s.setConverter { s.converter with scan := none, latest := some rec_ }

/-- The fold monitor and the cell paths at a scan completion (R3, R9, R11, R14, R16). -/
def State.cellsAtScan (s : State) (rec_ : ScanRecord) (foldHigh : Bool) : State :=
  let s1 := ((s.sampleFold foldHigh).followThresholds .a).followThresholds .b
  let s2 := (s1.computeVcell rec_.readings .a).computeVcell rec_.readings .b
  (s2.testCellAtScan rec_ .a).testCellAtScan rec_ .b

/-- The action of every block at a scan completion but the allocator's: fold monitor, cell paths, counters, selector,
state controller and band unit (R26). -/
def State.blocksAtScan (s : State) (rec_ : ScanRecord) (foldHigh : Bool) : State :=
  let r := rec_.readings
  let foldChanged := (foldSample s.fold foldHigh s.foldDeb).2
  let s1 := s.cellsAtScan rec_ foldHigh
  let s2 := (s1.countersAtScan rec_).selectorAtScan r s1.allocator.inFlight.isNone
  let s3 := (s2.testDie r.tDie).triggerAndHeat foldChanged r.tDie
  ((s3.lookupBand r .a).lookupBand r .b).chooseStopCause s

/-- The completion of a scan: the allocator begins last, on what every block leaves (R26, R85). -/
def State.scanCompletes (s : State) (rec_ : ScanRecord) (foldHigh : Bool) : State :=
  (((s.storeScan rec_).blocksAtScan rec_ foldHigh).allocationAtScan).tick

/-! ### Conversion completions (R24, R28, R31) -/

/-- A reading of the scan's next channel is stored, and the thirteenth completes the scan (R24). -/
def State.scanReading (s : State) (rec_ : ScanRecord) (v : Int) (foldHigh : Bool) : State :=
  let rec1 := { rec_ with readings := rec_.readings.store rec_.next v }
  if 13 ≤ rec_.next then s.scanCompletes rec1 foldHigh
  else s.setConverter { s.converter with scan := some { rec1 with next := rec_.next + 1 } }

def State.endConversion (s : State) : State := s.setConverter { s.converter with inFlight := .none }

/-- A scan conversion completes. -/
def State.scanConverted (s : State) (input : Analog) (foldHigh : Bool) : State :=
  match s.converter.inFlight, s.converter.scan with
  | .scan, some rec_ =>
    match reading rec_.next input with
    | some v => (s.endConversion.scanReading rec_ v foldHigh).settle
    | none => s
  | _, _ => s

/-- A probe conversion completes: its reading is handed over, or dropped at the converter (R31). -/
def State.probeConverted (s : State) (input : Analog) : State :=
  match s.converter.inFlight with
  | .probe ch dropped =>
    match reading ch input with
    | some v => (if dropped then s.endConversion else s.endConversion.takeReading v).settle
    | none => s
  | _ => s

end Sys2Proof.Machine
end

