-- ==== Sys2Proof/Machine/ControlEvents.lean ====
section
/-! DEFINITION. The meanings of the events of the state controller: POR, start-up, QREQ, the ship slots and the attach
wake (chapter 11), and of the events at the pins that stop a path: comparators and input collapse (R15, R127). -/

namespace Sys2Proof.Machine

/-- POR (R180). -/
def execPor (s : State) : Host.Outcome State Fault Refusal := .next s.powerOnReset

/-- STARTUP_BEGIN (R188): after a POR the start-up sequence begins once. -/
def execStartupBegin (s : State) : Host.Outcome State Fault Refusal :=
  .next (if s.startupDue then s.beginStartup else s)

/-- STARTUP_SLOT_EXPIRY (R188). -/
def execStartupSlotExpiry (s : State) : Host.Outcome State Fault Refusal := .next s.startupSlot

/-- QREQ_RISE (R181, R182). -/
def execQreqRise (s : State) : Host.Outcome State Fault Refusal := .next s.qreqRises

/-- QREQ_FALL (R181, R183). -/
def execQreqFall (s : State) : Host.Outcome State Fault Refusal := .next s.qreqFalls

/-- FAST_COMPARATOR_EVENT (R15): no event arrives while the comparators are disarmed (R187, R188). -/
def execFastComparatorEvent (condition : FastCondition) (s : State) : Host.Outcome State Fault Refusal :=
  .next (if s.control.fastArmed then s.fastEvent (comparatorCell condition) (comparatorCause condition) else s)

/-- INPUT_COLLAPSE_EVENT (R127). -/
def execInputCollapseEvent (input : Input) (s : State) : Host.Outcome State Fault Refusal :=
  .next (s.collapseEvent input)

/-- A wake comparator's event can arrive (R137). -/
def State.wakeCanArrive (s : State) : Bool :=
  s.control.wakeArmed && (s.control.state == .shipEntry || s.control.state == .ship)

/-- ATTACH_WAKE_EVENT (R187). -/
def execAttachWakeEvent (input : Input) (s : State) : Host.Outcome State Fault Refusal :=
  .next (if s.wakeCanArrive then (s.attachWake input).settleIf (s.control.state == .ship) else s)

/-- SHIP_SLOT_EXPIRY (R186). -/
def execShipSlotExpiry (s : State) : Host.Outcome State Fault Refusal :=
  .next (if s.control.state = .shipEntry then s.shipSlotExpires.settleIf (s.control.shipStep == 3) else s)

end Sys2Proof.Machine
end

