-- ==== Sys2Proof/Machine/LinkCommands.lean ====
section
/-! DEFINITION. The meanings of the port's commands: frames, the completions of its transactions, and accesses to the
link registers (chapter 10). -/

namespace Sys2Proof.Machine

/-- A register access reaches the part while the port serves (R179). -/
def State.whenServing (s : State) (t : State) : State := if s.port.serving then t else s

/-- LINK_FRAME (R165 to R168, R174): a stretch of a frame. -/
def execLinkFrame (stretch : List FrameEvent) (s : State) : Host.Outcome State Fault Refusal :=
  .next (s.busEvents stretch)

/-- The transaction under way is a run of this direction. -/
def Arbiter.runUnderWay (ar : Arbiter) (dir : Direction) : Bool :=
  match ar.underWay with
  | some (.link d) => d == dir
  | _ => false

/-- LINK_READ_RUN_COMPLETION (R168). -/
def execLinkReadRunCompletion (s : State) : Host.Outcome State Fault Refusal :=
  .next (if s.arbiter.runUnderWay .read then s.linkCompleted else s)

/-- LINK_WRITE_RUN_COMPLETION (R168). -/
def execLinkWriteRunCompletion (s : State) : Host.Outcome State Fault Refusal :=
  .next (if s.arbiter.runUnderWay .write then s.linkCompleted else s)

/-- NEXT_WRITE (R141). -/
def execNextWrite (value : Word) (s : State) : Host.Outcome State Fault Refusal :=
  .next (s.whenServing ((s.writeNext value).settleIf (s.nextStarts value)))

/-- DONE_READ (R157): the word returned is shifted out. -/
def execDoneRead (s : State) : Host.Outcome State Fault Refusal :=
  .next (s.whenServing (s.readDone.2.shiftOut s.readDone.1))

/-- NOTE_WRITE (R177). -/
def execNoteWrite (value : Word) (s : State) : Host.Outcome State Fault Refusal :=
  .next (s.whenServing (s.clearCause value.toNat))

/-- MASK_WRITE (R177). -/
def execMaskWrite (value : Word) (s : State) : Host.Outcome State Fault Refusal :=
  .next (s.whenServing (s.writeMask value))

/-- REGISTER_WRITE_DROPPED (R166): a write to ID, DONE or an unmapped address is dropped. -/
def execRegisterWriteDropped (_addr _value : Word) (s : State) : Host.Outcome State Fault Refusal := .next s

end Sys2Proof.Machine
end

