-- ==== Sys2Proof/Machine/HostCommands.lean ====
section
/-! DEFINITION. The meanings of the commands of CMD (R175), each at its receipt while the port serves. -/

namespace Sys2Proof.Machine

/-- SOFT_RESET (R189). -/
def execSoftReset (s : State) : Host.Outcome State Fault Refusal :=
  .next (s.whenServing (s.softReset.settleIf s.softResetActs))

/-- SKIP_ITEM (R158). -/
def execSkipItem (s : State) : Host.Outcome State Fault Refusal :=
  .next (s.whenServing (s.skipItem.settleIf s.skipItemGoesOn))

/-- SKIP_LIST (R159). -/
def execSkipList (s : State) : Host.Outcome State Fault Refusal :=
  .next (s.whenServing (s.skipList.settleIf s.skipListGoesOn))

/-- SHIP (R185, R186). -/
def execShip (s : State) : Host.Outcome State Fault Refusal :=
  .next (s.whenServing (s.ship.settleIf s.shipAccepted))

/-- RELEASE_A (R19). -/
def execReleaseA (s : State) : Host.Outcome State Fault Refusal := .next (s.whenServing (s.release .a))

/-- RELEASE_B (R19). -/
def execReleaseB (s : State) : Host.Outcome State Fault Refusal := .next (s.whenServing (s.release .b))

/-- PROFILE_START_A (R67). -/
def execProfileStartA (s : State) : Host.Outcome State Fault Refusal :=
  .next (s.whenServing (s.profileStart .a).settle)

/-- PROFILE_START_B (R67, R79). -/
def execProfileStartB (s : State) : Host.Outcome State Fault Refusal :=
  .next (s.whenServing ((s.profileStart .b).settleIf (s.bMode == 0)))

/-- PROFILE_STOP_A (R78). -/
def execProfileStopA (s : State) : Host.Outcome State Fault Refusal := .next (s.whenServing (s.profileStop .a))

/-- PROFILE_STOP_B (R78). -/
def execProfileStopB (s : State) : Host.Outcome State Fault Refusal := .next (s.whenServing (s.profileStop .b))

/-- CLEAR_WINDOW (R160). -/
def execClearWindow (s : State) : Host.Outcome State Fault Refusal := .next (s.whenServing s.clearWindow)

/-- PRESET_A (R44). -/
def execPresetA (s : State) : Host.Outcome State Fault Refusal :=
  .next (s.whenServing ((s.appendPreset .a).settleIf (!mergesInto s.gauge .a (.preset .a))))

/-- PRESET_B (R44). -/
def execPresetB (s : State) : Host.Outcome State Fault Refusal :=
  .next (s.whenServing ((s.appendPreset .b).settleIf (!mergesInto s.gauge .b (.preset .b))))

end Sys2Proof.Machine
end

