-- ==== Sys2Proof/Machine/PeriodEvents.lean ====
section
/-! DEFINITION. The meanings of the period expiry, of what counts in periods or allocations, of the conversions, and of
the allocation completion. -/

namespace Sys2Proof.Machine

/-- PERIOD_EXPIRY (R21): none arrives while the timer is stopped (R23). -/
def execPeriodExpiry (s : State) : Host.Outcome State Fault Refusal :=
  .next (if s.timer.running then s.periodExpires else s)

/-- The wait count of a WAIT reaches 0 at its next fall. -/
def State.waitEnds (s : State) : Bool := s.seq.state == .pause && decide (s.seq.waitCount ≤ 1)

/-- WAIT_EXPIRY (R151): the period expiry that ends a WAIT, whole (log entry 17). None arrives while the timer is stopped,
as in SHIP (R23, R162). -/
def execWaitExpiry (s : State) : Host.Outcome State Fault Refusal :=
  .next (if s.timer.running && s.waitEnds then s.periodExpires else s)

/-- SCAN_CONVERSION_COMPLETION (R24, R26). -/
def execScanConversionCompletion (input : Analog) (foldHigh : Bool) (s : State) : Host.Outcome State Fault Refusal :=
  .next (s.scanConverted input foldHigh)

/-- PROBE_CONVERSION_COMPLETION (R31, R148). -/
def execProbeConversionCompletion (input : Analog) (s : State) : Host.Outcome State Fault Refusal :=
  .next (s.probeConverted input)

/-- An allocation is in flight and past its counter point, so that it can complete (R87). -/
def State.allocationReady (s : State) : Bool :=
  match s.allocator.inFlight with
  | some al => al.counter.isSome
  | none => false

/-- ALLOCATION_COMPLETION (R109). -/
def execAllocationCompletion (s : State) : Host.Outcome State Fault Refusal :=
  .next (if s.allocationReady then s.completeAllocation.settle else s)

/-- The rest count reaches 0 at its next fall. -/
def State.restEnds (s : State) : Bool := s.transfer.state == .rest && decide (s.transfer.rest ≤ 1)

/-- REST_EXPIRY (R118): the allocation completion that ends a REST, whole (log entry 17). -/
def execRestExpiry (s : State) : Host.Outcome State Fault Refusal :=
  .next (if s.allocationReady && s.restEnds then s.completeAllocation.settle else s)

end Sys2Proof.Machine
end

