-- ==== Sys2Proof/Machine/TransactionEvents.lean ====
section
/-! DEFINITION. The meanings of the completions of the part's own transactions at the common area: the counters, the
refresh, the profile channels and the sequencer (R36 to R44, R66, R144, R149, R172). -/

namespace Sys2Proof.Machine

/-- The batches of an INTEGRATE go to the channels, and an allocation whose own it is takes its counter point (R39,
R64). -/
def State.handBatches (s : State) (kA kB : Nat) : State := ((s.takeBatch .a kA).takeBatch .b kB).countIntegrate

/-- What the counters do at the completion of a transaction of theirs that they await: the entry leaves the list, and an
INTEGRATE hands its batches. -/
def State.gaugeAwaited (s : State) (e : GaugeEntry) (kA kB : Nat) : State :=
  let s1 := s.setGauge s.gauge.tail
  match e with
  | .integrate _ _ _ _ _ => s1.handBatches kA kB
  | .full _ => s1
  | .preset _ => s1

/-- The batches an entry counts. -/
def State.entryBatch (s : State) (e : GaugeEntry) (c : CellId) : Nat :=
  match e with
  | .integrate iA iB t eA eB =>
    match c with
    | .a => s.batchOf .a iA t eA
    | .b => s.batchOf .b iB t eB
  | .full _ => 0
  | .preset _ => 0

/-- A GAUGE transaction completes (R36, R48). -/
def State.gaugeCompleted (s : State) (e : GaugeEntry) : State :=
  let s1 := s.gaugeWrite e
  let s2 := if s.arbiter.awaited then s1.gaugeAwaited e (s.entryBatch e .a) (s.entryBatch e .b) else s1
  s2.endTransaction.requestGauge.settle

/-- GAUGE_INTEGRATE (R38, R39). -/
def execGaugeIntegrate (s : State) : Host.Outcome State Fault Refusal :=
  .next (match s.arbiter.underWay with
    | some (.gauge (.integrate iA iB t eA eB)) => s.gaugeCompleted (.integrate iA iB t eA eB)
    | _ => s)

/-- GAUGE_FULL (R41). -/
def execGaugeFull (s : State) : Host.Outcome State Fault Refusal :=
  .next (match s.arbiter.underWay with
    | some (.gauge (.full c)) => s.gaugeCompleted (.full c)
    | _ => s)

/-- GAUGE_PRESET (R44). -/
def execGaugePreset (s : State) : Host.Outcome State Fault Refusal :=
  .next (match s.arbiter.underWay with
    | some (.gauge (.preset c)) => s.gaugeCompleted (.preset c)
    | _ => s)

/-- REFRESH_BLOCK_WRITE (R172): REFRESH waits again while a mark remains. -/
def execRefreshBlockWrite (s : State) : Host.Outcome State Fault Refusal :=
  .next (match s.arbiter.underWay with
    | some (.refresh _) => s.endTransaction.waitRefresh.settle
    | _ => s)

/-- A profile fetch completes at its channel. One that was under way at a POR, which leaves the ignore mark clear, is no
longer awaited, and its completion is ignored (R84, R171). -/
def State.profileFetchCompleted (s : State) (c : CellId) (index : Nat) (words : List Word) : State :=
  if (s.channel c).ignore || s.arbiter.awaited then s.endTransaction.fetchCompleted c index words
  else s.endTransaction

/-- PROFILE_FETCH_COMPLETION (R66). -/
def execProfileFetchCompletion (s : State) : Host.Outcome State Fault Refusal :=
  .next (match s.arbiter.underWay with
    | some (.fetch c index words) => (s.profileFetchCompleted c index words).settle
    | _ => s)

/-- An item fetch completes; a completion no longer awaited is ignored (R144). -/
def State.itemFetchCompleted (s : State) (words : List Word) : State :=
  if s.arbiter.awaited then s.endTransaction.itemFetched (itemOf words) else s.endTransaction

/-- ITEM_FETCH_COMPLETION (R144). -/
def execItemFetchCompletion (s : State) : Host.Outcome State Fault Refusal :=
  .next (match s.arbiter.underWay with
    | some (.seqFetch _ words) => (s.itemFetchCompleted words).settle
    | _ => s)

/-- A write of the sequencer's completes; a completion no longer awaited is ignored (R159, R171). -/
def State.seqWriteCompleted (s : State) : State :=
  if s.arbiter.awaited then s.endTransaction.itemWritten else s.endTransaction

/-- SEQ_WRITE_COMPLETION (R149, R155). -/
def execSeqWriteCompletion (s : State) : Host.Outcome State Fault Refusal :=
  .next (match s.arbiter.underWay with
    | some (.seqWrite _ _) => s.seqWriteCompleted.settle
    | _ => s)

end Sys2Proof.Machine
end

