-- ==== Sys2Proof/Machine/Dispatch.lean ====
section
/-! DEFINITION. The dispatch: one arm for each command. -/

namespace Sys2Proof.Machine

def exec (i : Instr) (s : State) : Host.Outcome State Fault Refusal :=
  match i with
  | .por => Sys2Proof.Machine.execPor s
  | .startupBegin => Sys2Proof.Machine.execStartupBegin s
  | .startupSlotExpiry => Sys2Proof.Machine.execStartupSlotExpiry s
  | .linkFrame stretch => Sys2Proof.Machine.execLinkFrame stretch s
  | .linkReadRunCompletion => Sys2Proof.Machine.execLinkReadRunCompletion s
  | .linkWriteRunCompletion => Sys2Proof.Machine.execLinkWriteRunCompletion s
  | .nextWrite value => Sys2Proof.Machine.execNextWrite value s
  | .doneRead => Sys2Proof.Machine.execDoneRead s
  | .noteWrite value => Sys2Proof.Machine.execNoteWrite value s
  | .maskWrite value => Sys2Proof.Machine.execMaskWrite value s
  | .registerWriteDropped addr value => Sys2Proof.Machine.execRegisterWriteDropped addr value s
  | .softReset => Sys2Proof.Machine.execSoftReset s
  | .skipItem => Sys2Proof.Machine.execSkipItem s
  | .skipList => Sys2Proof.Machine.execSkipList s
  | .ship => Sys2Proof.Machine.execShip s
  | .releaseA => Sys2Proof.Machine.execReleaseA s
  | .releaseB => Sys2Proof.Machine.execReleaseB s
  | .profileStartA => Sys2Proof.Machine.execProfileStartA s
  | .profileStartB => Sys2Proof.Machine.execProfileStartB s
  | .profileStopA => Sys2Proof.Machine.execProfileStopA s
  | .profileStopB => Sys2Proof.Machine.execProfileStopB s
  | .clearWindow => Sys2Proof.Machine.execClearWindow s
  | .presetA => Sys2Proof.Machine.execPresetA s
  | .presetB => Sys2Proof.Machine.execPresetB s
  | .qreqRise => Sys2Proof.Machine.execQreqRise s
  | .qreqFall => Sys2Proof.Machine.execQreqFall s
  | .fastComparatorEvent condition => Sys2Proof.Machine.execFastComparatorEvent condition s
  | .inputCollapseEvent input => Sys2Proof.Machine.execInputCollapseEvent input s
  | .attachWakeEvent input => Sys2Proof.Machine.execAttachWakeEvent input s
  | .shipSlotExpiry => Sys2Proof.Machine.execShipSlotExpiry s
  | .periodExpiry => Sys2Proof.Machine.execPeriodExpiry s
  | .waitExpiry => Sys2Proof.Machine.execWaitExpiry s
  | .scanConversionCompletion input foldHigh => Sys2Proof.Machine.execScanConversionCompletion input foldHigh s
  | .probeConversionCompletion input => Sys2Proof.Machine.execProbeConversionCompletion input s
  | .gaugeIntegrate => Sys2Proof.Machine.execGaugeIntegrate s
  | .gaugeFull => Sys2Proof.Machine.execGaugeFull s
  | .gaugePreset => Sys2Proof.Machine.execGaugePreset s
  | .allocationCompletion => Sys2Proof.Machine.execAllocationCompletion s
  | .restExpiry => Sys2Proof.Machine.execRestExpiry s
  | .refreshBlockWrite => Sys2Proof.Machine.execRefreshBlockWrite s
  | .profileFetchCompletion => Sys2Proof.Machine.execProfileFetchCompletion s
  | .itemFetchCompletion => Sys2Proof.Machine.execItemFetchCompletion s
  | .seqWriteCompletion => Sys2Proof.Machine.execSeqWriteCompletion s

end Sys2Proof.Machine
end

