-- ==== Sys2Proof/Machine/Step.lean ====
section
/-! DEFINITION. One step: the command at the front of the queue. On an empty queue the block idles (log entry 4). -/

namespace Sys2Proof.Machine

def State.withPending (s : State) (q : List Instr) : State := { s with pending := q }

/-- The command at the front is taken, with the queue's rest left; an empty queue idles. -/
def step (s : State) : Host.Outcome State Fault Refusal :=
  match s.pending with
  | [] => .next s
  | c :: rest => exec c (s.withPending rest)

/-- The command that a word of the table spells, at the front of the queue; no row of the table gives bits, so none
(log entry 37). -/
def State.withFetchWord (s : State) (nbits w : Nat) : State :=
  match decodeTableWord nbits w with
  | some c => s.withPending (c :: s.pending)
  | none => s

end Sys2Proof.Machine
end

