-- ==== Sys2Proof/Safety.lean ====
section
/-! DEFINITION. The safety properties of the part, as predicates of a state that every step is to keep. -/

namespace Sys2Proof.Machine

/-- Memory is in its canonical form: equal contents are equal lists. -/
def State.memoryCanonical (s : State) : Prop := Memory.wf s.mem = true

/-- The port holds at most two runs and one held register write (R167, R174). -/
def State.portWithinBounds (s : State) : Prop :=
  (s.port.ops.filter PortOp.isRun).length ≤ 2 ∧ (s.port.ops.filter fun op => !op.isRun).length ≤ 1

/-- The done queue holds at most 4 entries (R156), and the slot an index within 0x100..0xFFC (R141). -/
def State.listsWithinBounds (s : State) : Prop :=
  s.seq.done.length ≤ 4 ∧ ∀ i, s.seq.slot = some i → 0x100 ≤ i ∧ i ≤ 0xFFC

/-- The transfer converter runs only while the selected source is NONE, and not to or from a TRIPPED or ABSENT cell
(R119); in OFF and REST its current is 0 (R112). -/
def State.transferSafe (s : State) : Prop :=
  (s.transfer.state.running = true →
    s.selector.selected = .none ∧
      ∀ c, (s.cell c).charge ≠ .tripped ∧ (s.cell c).charge ≠ .absent) ∧
  (s.transfer.state.running = false → s.transfer.current = 0)

/-- A cell that the allocation in flight took as TRIPPED is TRIPPED still, or was released since (case 2 of R6), or
became ABSENT after its release (case 1). -/
def State.tripsKnown (s : State) (c : CellId) : Prop :=
  ∀ al, s.allocator.inFlight = some al → (al.snap.cells.get c).charge = .tripped →
    (s.cell c).charge = .tripped ∨ ((s.cell c).charge = .idle ∧ al.released.get c = true) ∨
      ((s.cell c).charge = .absent ∧ al.becameAbsent.get c = true)

/-- The laws of the applied set-point (R6, R7, R17): a TRIPPED cell's path is open, an open path applies 0, a TRIPPED
or ABSENT cell applies 0, and a cell in FULL applies no charge. -/
def State.pathSafe (s : State) (c : CellId) : Prop :=
  ((s.cell c).charge = .tripped → (s.cell c).pathOpen = true) ∧
  ((s.cell c).pathOpen = true → (s.cell c).setPoint = 0) ∧
  ((s.cell c).charge = .absent → (s.cell c).setPoint = 0) ∧
  ((s.cell c).charge = .full → (s.cell c).setPoint ≤ 0) ∧
  s.tripsKnown c

/-- The weights lie within 64..960, and each pair sums to 1024 (R99). -/
def Allocator.weightsBalanced (x : Allocator) : Prop :=
  64 ≤ x.w.a ∧ x.w.a ≤ 960 ∧ x.w.a + x.w.b = 1024 ∧ 64 ≤ x.v.a ∧ x.v.a ≤ 960 ∧ x.v.a + x.v.b = 1024

/-- A request that waits has something to carry out, and none waits while the arbiter is free (R36, R170, R172). -/
def State.arbiterSettled (s : State) : Prop :=
  (s.arbiter.gauge = true → s.gauge ≠ []) ∧
  (s.arbiter.link = true → (takeWaiting s.mem s.port.ops).isSome = true) ∧
  (s.arbiter.refresh = true → (lowestMark s.refresh.marks).isSome = true) ∧
  (s.arbiter.underWay = none →
    s.arbiter.gauge = false ∧ s.arbiter.fetch.a = none ∧ s.arbiter.fetch.b = none ∧ s.arbiter.link = false ∧
      s.arbiter.seqFetch = none ∧ s.arbiter.seqWrite = none ∧ s.arbiter.refresh = false)

/-- In SHIP every path is open and applies nothing, the timer stands, no scan or allocation is in flight, and the link
is inert (R179, R187); in SHIP_ENTRY cell path B is open from step 2 on and cell path A in step 3 (R186). -/
def State.shipSequenced (s : State) : Prop :=
  (s.control.state = .ship →
    s.cells.a.pathOpen = true ∧ s.cells.b.pathOpen = true ∧ s.control.inputOpen = true ∧ s.timer.running = false ∧
      s.converter.scan = none ∧ s.allocator.inFlight = none ∧ s.port.serving = false ∧
      s.control.fastArmed = false) ∧
  (s.control.state = .shipEntry →
    s.control.startup = false ∧ 1 ≤ s.control.shipStep ∧ s.control.shipStep ≤ 3 ∧
      (2 ≤ s.control.shipStep → s.cells.b.pathOpen = true) ∧ (3 ≤ s.control.shipStep → s.cells.a.pathOpen = true))

/-- The counts that saturate or wrap stay within their ranges (R17, R21, R25, R75, R88, R149, R156). -/
def State.countsWithinRange (s : State) : Prop :=
  s.timer.count ≤ 65535 ∧ s.converter.lateCount ≤ 65535 ∧
  s.cells.a.tripCount ≤ 255 ∧ s.cells.b.tripCount ≤ 255 ∧
  s.channels.a.starvedCount ≤ 65535 ∧ s.channels.b.starvedCount ≤ 65535 ∧
  s.allocator.skipped ≤ 255 ∧ s.seq.writeFaults ≤ 255 ∧ s.seq.doneOverrun ≤ 255

end Sys2Proof.Machine
end

