-- ==== Sys2Proof/WellFormed.lean ====
section
/-! DEFINITION. Which operands a command can have. The operands of most commands are bounded by their types. -/

namespace Sys2Proof

/-- Whether the second bus event can come directly after the first in a frame (R165): CSN falls after a rise,
the control byte follows the fall, the address follows the control byte, data words follow the address or each other
in one direction, and CSN may rise after any event but a rise. -/
def FrameEvent.mayFollow : FrameEvent → FrameEvent → Bool
  | .csnRise, .csnFall => true
  | .csnFall, .control _ => true
  | .control _, .address _ => true
  | .address _, .writeWord _ => true
  | .address _, .readDue => true
  | .writeWord _, .writeWord _ => true
  | .readDue, .readDue => true
  | .csnRise, .csnRise => false
  | _, .csnRise => true
  | _, _ => false

/-- Each event of a stretch of a frame can follow the one before it. -/
def FrameEvent.inOrder : List FrameEvent → Bool
  | [] => true
  | [_] => true
  | e :: f :: rest => e.mayFollow f && FrameEvent.inOrder (f :: rest)

/-- The byte addresses at which a write is dropped by the map of R166: ID, DONE and the unmapped addresses,
each with the odd address above it (R165). -/
def writeIsDroppedAt (addr : Word) : Bool :=
  let even := addr.toNat / 2 * 2
  decide (even = 0x2000) || decide (even = 0x2004) || decide (0x200A < even)

/-- A command whose operands can arise. -/
def WellFormed : Instr → Bool
  | .linkFrame stretch => !stretch.isEmpty && FrameEvent.inOrder stretch
  | .registerWriteDropped addr _ => writeIsDroppedAt addr
  | .por | .startupBegin | .startupSlotExpiry | .linkReadRunCompletion | .linkWriteRunCompletion
  | .nextWrite _ | .doneRead | .noteWrite _ | .maskWrite _ | .softReset | .skipItem | .skipList | .ship
  | .releaseA | .releaseB | .profileStartA | .profileStartB | .profileStopA | .profileStopB | .clearWindow
  | .presetA | .presetB | .qreqRise | .qreqFall | .fastComparatorEvent _ | .inputCollapseEvent _
  | .attachWakeEvent _ | .shipSlotExpiry | .periodExpiry | .waitExpiry | .scanConversionCompletion _ _
  | .probeConversionCompletion _ | .gaugeIntegrate | .gaugeFull | .gaugePreset | .allocationCompletion
  | .restExpiry | .refreshBlockWrite | .profileFetchCompletion | .itemFetchCompletion | .seqWriteCompletion => true

end Sys2Proof
end

