-- ==== Sys2Proof/Certificates/Slice0/Obligations.lean ====
section
/-! DEFINITION. The statements for the provers. A command that makes a request is followed by the two grants, so its next
state is written as the state its effect leaves, settled; what the grants do is stated on its own. -/

open Sys2Proof Sys2Proof.Machine

/-! ### What several statements speak of -/

/-- A sample of n readings of a channel begins converting (R29, R146, R148): its conversions are asked for; on a computed
channel the value standing at that moment is taken n times, becomes LAST and goes to the write window. -/
def beganConverting (s : State) (ch n target : Nat) : State :=
  if ch < 14 then
    { s with
      seq := { s.seq with state := .convert }
      converter := { s.converter with probePending := n, probeChannel := ch } }
  else
    let v : Int := if ch = 14 then s.cells.a.vcell else s.cells.b.vcell
    ({ s with seq := { s.seq with sum := v * n, taken := n, last := v } } : State).writeResult target (wordOf v)

/-- A trigger takes s to t (R147, R162): a sample that waits for it begins converting, and it is lost on any other. -/
def TriggerTaken (g : Trigger) (s t : State) : Prop :=
  (∀ ch n target, s.seq.state = .triggerWait → s.seq.item = some (.sample ch n g target) →
    s.control.state ≠ .ship → ch ≤ 15 → 0 < n → t = beganConverting s ch n target) ∧
  (s.seq.state ≠ .triggerWait ∨ s.control.state = .ship ∨ (∀ ch n target, s.seq.item ≠ some (.sample ch n g target)) →
    t = s)

/-- A thaw takes s to t (R161): of a FROZEN sequencer the kept state is taken back, and the held step is carried out at
once: the item fetched, which the budget counts then (log entry 22), the going on to an item, the result of the sample, or,
from IDLE, the start of the slot's list. The kept state stands after it (log entry 48). -/
def ThawsTo (s t : State) : Prop :=
  let back : State := { s with seq := { s.seq with state := s.seq.kept, held := none } }
  (s.seq.state ≠ .frozen → t = s) ∧
  (s.seq.state = .frozen →
    (∀ item, s.seq.held = some .carryOut → s.seq.item = some item → t = back.carryOut item) ∧
    (∀ i, s.seq.held = some (.goOn i) → t = back.finishItem i) ∧
    (∀ ch n g target, s.seq.held = some .formResult → s.seq.item = some (.sample ch n g target) →
      let result := s.seq.sum.tdiv n
      t = ({ back with seq := { back.seq with last := result } } : State).writeResult target (wordOf result)) ∧
    (∀ i, s.seq.held = none → s.seq.kept = .idle → s.seq.slot = some i → t = { back with
      seq := { back.seq with
        state := .fetch, current := some i, itemIndex := i, slot := none, budget := 0, inFlight := .fetch i }
      arbiter := { s.arbiter with seqFetch := some i } }) ∧
    (s.seq.held = none → s.seq.kept ≠ .idle ∨ s.seq.slot = none → t = back))

/-- Cell paths after the entry actions of QUIET (R182): the QUIET hold on both under a STOP-effective charge policy. -/
def quietHolds (s : State) (cells : PerCell CellPath) : PerCell CellPath :=
  if s.qpolCharge = .stopEffective then
    { a := { cells.a with holds := { cells.a.holds with quiet := true } }
      b := { cells.b with holds := { cells.b.holds with quiet := true } } }
  else cells

/-- The sequencer after the entry actions of QUIET (R161, R182): frozen under a STOP-effective probe policy, unless it is
FROZEN already. -/
def quietFreezes (s : State) : Sequencer :=
  if s.qpolProbe = .stopEffective ∧ s.seq.state ≠ .frozen then
    { s.seq with state := .frozen, kept := s.seq.state, held := none }
  else s.seq

/-- The transfer converter forced OFF by the acceptance of SHIP (R121). -/
def stoppedForShip (t : Transfer) : Transfer :=
  { t with
    state := .off, current := 0, rest := 0
    stopCause := if t.state = .runAB ∨ t.state = .runBA then .ship else t.stopCause }

/-- A probe conversion in flight, its reading now to be dropped at the converter (R31); a scan conversion stands. -/
def droppedProbe : Conversion → Conversion
  | .probe ch _ => .probe ch true
  | x => x

/-- The same where a scan conversion in flight is none at once (log entries 19 and 49). -/
def onlyDroppedProbe : Conversion → Conversion
  | .probe ch _ => .probe ch true
  | _ => .none

/-- A channel that a reset has stopped (R84): its fetch discarded, its working fields and its counts kept, and, by the
model's choice, its staged record, which is not valid (log entry 2). -/
def channelAfterReset (s : State) (c : CellId) : Channel :=
  { s.channel c with
    state := .stopped, fetch := none, stagedValid := false, endMark := false, ignore := s.arbiter.fetchUnderWay c }

/-- The sequencer's values after a reset (R164); the item last fetched stands (log entry 2), and the kept state is IDLE also
where R164 does not give it, at a SOFT_RESET outside FROZEN and at a ship wake (log entry 50). -/
def seqAfterReset (s : State) (st : SeqState) : Sequencer :=
  { state := st, kept := .idle, current := none, itemIndex := 0x100, item := s.seq.item, last := 0, sum := 0, taken := 0
    waitCount := 0, budget := 0, discard := false, inFlight := .none, held := none, slot := none, done := []
    flags := 0, writeFaults := 0, doneOverrun := 0 }

/-- No cause pending and MASK 0 (R180). -/
def noNotices : NoticeUnit :=
  { sticky :=
      { tripA := false, tripB := false, heat := false, shortfall := false, source := false, starveA := false
        starveB := false, window := false, writeFault := false, listBad := false, fullA := false, fullB := false
        band := false, fold := false }
    mask := 0 }

/-- The ship wake (R187): the ship wake column of every block's reset table, with the start-up sequence at its first slot,
or, at a slot length of 0, at its end. The cell paths, the band records, the allocator and the transfer converter take
their POR values, and each channel keeps its own fields. The port has no operation to wait for, also with a run of LINK
still under way (log entry 51), and the probe channel and the staged records are kept (log entry 2). -/
def shipWakeValues (s : State) (waking : Option Input) (inFlight : Conversion) (image : List Word) : State :=
  let atOnce := decide (s.shipSlot = .zero)
  let settles := fun (i : Input) =>
    ({ state := if waking = some i then .settling else .detached, settle := 0 } : Detection)
  { s with
    cells := { a := { State.reset.cells.a with pathOpen := !atOnce }, b := { State.reset.cells.b with pathOpen := !atOnce } }
    fold := { folded := false, count := 0, firstScan := true, line := s.fold.line }
    timer := { count := 0, length := .ms4, running := true }
    converter := { s.converter with
      scan := none, scanPending := 0, probePending := 0, latest := none, lateCount := 0, inFlight := inFlight }
    gauge := []
    bands := State.reset.bands
    channels := { a := channelAfterReset s .a, b := channelAfterReset s .b }
    allocator := State.reset.allocator
    transfer := State.reset.transfer
    selector :=
      { wired := settles .wired, coil := settles .coil, selected := .none, phase := .none, target := none
        lastPair := s.selector.lastPair, contract := { source := .none, pair := .w0, vC := 0, iC := 0 } }
    seq := seqAfterReset s .idle
    arbiter :=
      { gauge := false, fetch := { a := none, b := none }, link := false, seqFetch := none, seqWrite := none
        refresh := true, underWay := s.arbiter.underWay, awaited := false }
    refresh := { image := image, marks := [true, true, true, true], count := 0 }
    port := { serving := true, frame := .idle, ops := [], shifted := [] }
    notices := noNotices
    control := { s.control with
      state := .run, startup := !atOnce, shipStep := if atOnce then 0 else 5, slot := s.shipSlot, inputOpen := false
      fastArmed := true, wakeArmed := false, wakePending := false, wakingSource := none, dieWarning := false
      startupAfterPor := false } }

/-- The entry to SHIP with no wake pending (R187), the input path opening with it. What it drops of the port, the scan, the
probe and the refresh is log entries 9, 19, 32 and 51. -/
def inShip (s : State) : State :=
  { s with
    control := { s.control with state := .ship, inputOpen := true, shipStep := 4, fastArmed := false }
    timer := { s.timer with running := false }
    converter := { s.converter with
      scan := none, scanPending := 0, probePending := 0, inFlight := onlyDroppedProbe s.converter.inFlight }
    allocator := { s.allocator with inFlight := none }
    selector := { s.selector with
      phase := if s.allocator.inFlight.isSome ∧ s.selector.phase = .held then .wait else s.selector.phase }
    seq := { s.seq with inFlight := .none }
    port := { serving := false, frame := .idle, ops := [], shifted := [] }
    refresh := { s.refresh with marks := [false, false, false, false] }
    arbiter := { s.arbiter with
      link := false, seqFetch := none, seqWrite := none, refresh := false
      awaited := s.arbiter.awaited && !s.arbiter.seqUnderWay } }

/-- The acceptance of SHIP takes s to t before the transfer converter is forced OFF (R186): SHIP_ENTRY at its first step,
and, in QUIET, the QUIET holds cleared and the sequencer thawed. That the waking source is none is log entry 2. -/
def ShipAccepted (s t : State) : Prop :=
  let accepted : State := { s with
    control := { s.control with state := .shipEntry, shipStep := 1, slot := s.shipSlot, wakePending := false,
                                wakingSource := none, wakeArmed := true, shipResult := .accepted } }
  (s.control.state = .run → t = accepted) ∧
  (s.control.state = .quiet → ThawsTo { accepted with
    cells := { a := { s.cells.a with holds := { s.cells.a.holds with quiet := false } }
               b := { s.cells.b with holds := { s.cells.b.holds with quiet := false } } } } t)

/-- SOFT_RESET (R189): the SOFT_RESET column of every block's reset table. -/
def softResetValues (s : State) (contract : Contract) (n : Nat) (image : List Word) : State :=
  let cell := fun (x : CellPath) =>
    { x with
      charge := if x.charge = .tripped then .tripped else .idle
      holds := { x.holds with band := false, window := false }
      setPoint := 0, renewal := true, termCount := 0, releaseResult := .none }
  { s with
    cells := { a := cell s.cells.a, b := cell s.cells.b }
    converter := { s.converter with probePending := 0, inFlight := droppedProbe s.converter.inFlight }
    bands := { a := { s.bands.a with index := none }, b := { s.bands.b with index := none } }
    channels := { a := channelAfterReset s .a, b := channelAfterReset s .b }
    allocator := { State.reset.allocator with skipped := s.allocator.skipped }
    transfer := State.reset.transfer
    selector := { s.selector with
      contract := contract
      phase := if s.allocator.inFlight.isSome ∧ s.selector.phase = .held then .wait else s.selector.phase }
    seq := seqAfterReset s (if s.seq.state = .frozen then .frozen else .idle)
    arbiter := { s.arbiter with
      fetch := { a := if s.channels.a.fetch.isSome then none else s.arbiter.fetch.a
                 b := if s.channels.b.fetch.isSome then none else s.arbiter.fetch.b }
      seqFetch := none, seqWrite := none, refresh := true
      awaited := s.arbiter.awaited && !s.arbiter.seqUnderWay }
    refresh := { image := image, marks := [true, true, true, true], count := 0 }
    notices := noNotices
    control := { s.control with shipResult := .none }
    freeCounter := n }

/-! ### The queue and the outcomes -/

/-- A step runs the command at the front of the queue on the state with the queue's rest, and idles on an empty queue
(the model's own convention: log entry 4). -/
def Obligations.StepRunsFrontCommand : Prop :=
  (∀ (c : Instr) (rest : List Instr) (s : State), s.pending = c :: rest → step s = exec c (s.withPending rest)) ∧
  (∀ s : State, s.pending = [] → step s = .next s)

/-- Every command answers a next state in every state, and leaves the queue as it found it (that a command also answers
where its event cannot arrive is the model's own convention: log entry 3). -/
def Obligations.EveryCommandAnswersNext : Prop :=
  ∀ (c : Instr) (s : State), ∃ t : State, exec c s = .next t ∧ t.pending = s.pending

/-- An event that cannot arrive in a state changes nothing there (the model's own convention: log entries 3 and 29). -/
def Obligations.EventsThatCannotArrive : Prop :=
  ∀ s : State,
    (s.startupDue = false → exec .startupBegin s = .next s) ∧
    (s.control.startup = false → exec .startupSlotExpiry s = .next s) ∧
    (s.control.qreq = true → exec .qreqRise s = .next s) ∧ (s.control.qreq = false → exec .qreqFall s = .next s) ∧
    (s.control.state ≠ .shipEntry → exec .shipSlotExpiry s = .next s) ∧
    (∀ e, s.control.fastArmed = false → exec (.fastComparatorEvent e) s = .next s) ∧
    (∀ i, s.control.wakeArmed = false ∨ (s.control.state ≠ .shipEntry ∧ s.control.state ≠ .ship) →
      exec (.attachWakeEvent i) s = .next s) ∧
    (s.timer.running = false → exec .periodExpiry s = .next s) ∧
    (s.timer.running = false ∨ s.seq.state ≠ .pause ∨ 1 < s.seq.waitCount → exec .waitExpiry s = .next s) ∧
    (s.allocationReady = false ∨ s.transfer.state ≠ .rest ∨ 1 < s.transfer.rest → exec .restExpiry s = .next s) ∧
    (∀ x b, s.converter.inFlight ≠ .scan → exec (.scanConversionCompletion x b) s = .next s) ∧
    (∀ r b, s.converter.inFlight = .scan → s.converter.scan = some r → r.next = 0 →
      exec (.scanConversionCompletion .thermistorOpen b) s = .next s) ∧
    (∀ x, (∀ ch d, s.converter.inFlight ≠ .probe ch d) → exec (.probeConversionCompletion x) s = .next s) ∧
    (s.arbiter.gaugeUnderWay = false →
      exec .gaugeIntegrate s = .next s ∧ exec .gaugeFull s = .next s ∧ exec .gaugePreset s = .next s) ∧
    (s.allocationReady = false → exec .allocationCompletion s = .next s) ∧
    ((∀ b, s.arbiter.underWay ≠ some (.refresh b)) → exec .refreshBlockWrite s = .next s) ∧
    ((∀ c i ws, s.arbiter.underWay ≠ some (.fetch c i ws)) → exec .profileFetchCompletion s = .next s) ∧
    ((∀ i ws, s.arbiter.underWay ≠ some (.seqFetch i ws)) → exec .itemFetchCompletion s = .next s) ∧
    ((∀ i v, s.arbiter.underWay ≠ some (.seqWrite i v)) → exec .seqWriteCompletion s = .next s) ∧
    (s.arbiter.underWay ≠ some (.link .read) → exec .linkReadRunCompletion s = .next s) ∧
    (s.arbiter.underWay ≠ some (.link .write) → exec .linkWriteRunCompletion s = .next s)

/-! ### Reset -/

/-- POR puts every block at the values of the POR columns of the reset tables. A probe conversion in flight runs out, its
reading dropped, and a transaction under way ends unawaited, but for one of the counters (log entries 49 and 51: the
model's choice). The levels of the pins FOLD and QREQ, the queue and the model's own counter stand (log entries 1 and 38: the
model's choice). -/
def Obligations.PorGivesResetValues : Prop :=
  (∀ s : State, exec .por s = .next { State.reset with
    converter := { State.reset.converter with inFlight := onlyDroppedProbe s.converter.inFlight }
    arbiter := { State.reset.arbiter with
      underWay := match s.arbiter.underWay with
        | some (.gauge _) => none
        | x => x }
    fold := { State.reset.fold with line := s.fold.line }
    control := { State.reset.control with qreq := s.control.qreq }
    pending := s.pending
    freeCounter := s.freeCounter }) ∧
  let s := State.reset
  (∀ c, (s.cell c).charge = .absent ∧ (s.cell c).holds = { band := false, window := false, quiet := false, heat := false } ∧
    (s.cell c).setPoint = 0 ∧ (s.cell c).pathOpen = true ∧ (s.cell c).vcell = 0 ∧ (s.cell c).tp = 0 ∧
    (s.cell c).renewal = false ∧ (s.cell c).termCount = 0 ∧ (s.cell c).emptyLatch = false ∧ (s.cell c).trip = none ∧
    (s.cell c).tripCount = 0 ∧ (s.cell c).releaseResult = .none) ∧
  (s.fold.folded = false ∧ s.fold.count = 0 ∧ s.fold.firstScan = true) ∧
  (s.timer.count = 0 ∧ s.timer.running = false ∧ s.converter.scan = none ∧ s.converter.scanPending = 0 ∧
    s.converter.probePending = 0 ∧ s.converter.latest = none ∧ s.converter.lateCount = 0) ∧
  (s.q .a = 0 ∧ s.q .b = 0 ∧ s.f .a = 0 ∧ s.f .b = 0 ∧ s.gauge = []) ∧
  (∀ c, s.bands.get c = { index := none, teff := 0, derate := 0, vcapDrop := 0,
                          allow := { c := false, s := false, i := false, o := false } }) ∧
  (∀ c, (s.channel c).state = .stopped ∧ (s.channel c).working = 0 ∧ (s.channel c).ceiling = 0 ∧
    (s.channel c).slope = 0 ∧ (s.channel c).stepQ = 1 ∧ (s.channel c).quantaLeft = 0 ∧ (s.channel c).stepsLeft = 0 ∧
    (s.channel c).vcap = 3600 ∧ (s.channel c).endMark = false ∧ (s.channel c).stagedValid = false ∧
    (s.channel c).fetch = none ∧ (s.channel c).ignore = false ∧ (s.channel c).starvedCount = 0 ∧
    (s.channel c).overrun = false) ∧
  ((s.channel .a).nextIndex = 0x100 ∧ (s.channel .b).nextIndex = 0x200) ∧
  (s.allocator.inFlight = none ∧ s.allocator.skipped = 0 ∧ s.allocator.shortfall = false ∧
    s.allocator.w = { a := 512, b := 512 } ∧ s.allocator.v = { a := 512, b := 512 } ∧
    (let p := s.allocator.published;
      p.pIn = 0 ∧ p.pLoad = 0 ∧ p.pAvail = 0 ∧ p.pPre = 0 ∧ p.r = 0 ∧ p.d = 0 ∧ p.source = .none ∧
        ∀ c, p.cells.get c =
          { e := 0, vlim := 0, g := 0, demand := 0, granted := 0, setPoint := 0, s := 0, output := none })) ∧
  s.transfer = { state := .off, current := 0, rest := 0, windowStop := false, stopCause := .none } ∧
  (s.selector.wired = { state := .detached, settle := 0 } ∧ s.selector.coil = { state := .detached, settle := 0 } ∧
    s.selector.selected = .none ∧ s.selector.phase = .none ∧ s.selector.target = none ∧ s.selector.lastPair = .w0 ∧
    s.selector.contract.source = .none) ∧
  (s.seq.state = .idle ∧ s.seq.current = none ∧ s.seq.itemIndex = 0x100 ∧ s.seq.last = 0 ∧ s.seq.sum = 0 ∧
    s.seq.taken = 0 ∧ s.seq.waitCount = 0 ∧ s.seq.budget = 0 ∧ s.seq.discard = false ∧ s.seq.held = none ∧
    s.seq.slot = none ∧ s.seq.done = [] ∧ s.seq.flags = 0 ∧ s.seq.writeFaults = 0 ∧ s.seq.doneOverrun = 0) ∧
  (s.port.frame = .idle ∧ s.port.ops = [] ∧ s.refresh.marks = [false, false, false, false] ∧ s.refresh.count = 0 ∧
    s.arbiter.underWay = none ∧ (∀ k, s.notices.sticky.get k = false) ∧ s.notices.mask = 0 ∧ s.intnLow = false) ∧
  (s.control.state = .run ∧ s.control.wakePending = false ∧ s.control.shipResult = .none ∧ s.control.dieWarning = false)

/-- Each setting is one word of the settings page, unsigned, taken within the range of the settings page map (10.9.3, R169):
XSTOP at or above XSTART is one below it (R123), a quiet policy is KEEP by bit 1 and STOP by bit 0 without it, and a preset
is two words, the high one first (R44). -/
def SettingsFollowTheMap (s : State) : Prop :=
  let word := fun i => (s.readWord i).toNat
  let within := fun lo hi i => min hi (max lo (word i))
  let policy := fun i => if 2 ≤ word i then QuietPolicy.keep else if word i = 1 then .stopEffective else .reduced
  (s.pairVoltage .w0 = within 4500 12000 0x080 ∧ s.pairCurrent .w0 = within 0 5000 0x081 ∧
    s.pairVoltage .w1 = within 4500 12000 0x082 ∧ s.pairCurrent .w1 = within 0 5000 0x083 ∧
    s.wsel = (if word 0x084 = 0 then .w0 else .w1) ∧ s.coilV = within 4500 12000 0x085 ∧
    s.coilI = within 0 1500 0x086 ∧ s.srcPrio = within 0 1 0x087) ∧
  (s.convGain = within 128 256 0x088 ∧ s.hotSel = within 0 3 0x089 ∧ s.cap .a = within 100 8000 0x08A ∧
    s.cap .b = within 100 8000 0x08B ∧ s.imaxChg .a = within 0 8000 0x08C ∧ s.imaxChg .b = within 0 8000 0x08D ∧
    s.imaxDis .a = within 0 8000 0x08E ∧ s.imaxDis .b = within 0 8000 0x08F) ∧
  (s.iHingeMax = within 0 8000 0x090 ∧ s.rA = within 0 255 0x091 ∧ s.rBOpen = within 0 255 0x092 ∧
    s.rBFold = within 0 255 0x093 ∧ s.foldDeb = within 1 15 0x094 ∧ s.foldTOff = within 0 15 0x095 ∧
    s.vpre = within 2500 3400 0x096 ∧ s.ipre .a = within 0 500 0x097) ∧
  (s.ipre .b = within 0 500 0x098 ∧ s.vrech = within 50 300 0x099 ∧ s.iterm = within 20 500 0x09A ∧
    s.termCountSetting = within 1 1024 0x09B ∧ s.taperMin = within 1 100 0x09C ∧ s.taperHyst = within 5 100 0x09D ∧
    s.vempty = within 2800 3500 0x09E ∧ s.balGain = within 0 16 0x09F) ∧
  (s.flatCeil .a = within 0 8000 0x0A0 ∧ s.flatCeil .b = within 0 8000 0x0A1 ∧ s.flatVcap = within 3600 4600 0x0A2 ∧
    s.ptBase .a = within 0x100 0xFFA 0x0A3 ∧ s.ptBase .b = within 0x100 0xFFA 0x0A4 ∧ s.bMode = within 0 1 0x0A5 ∧
    s.followRatio = within 0 512 0x0A6 ∧ s.xferEn = within 0 1 0x0A7) ∧
  (s.xstart = within 1 512 0x0A8 ∧
    s.xstop = (if within 0 511 0x0A9 < s.xstart then within 0 511 0x0A9 else s.xstart - 1) ∧
    s.xk = within 1 255 0x0AA ∧ s.xmax = within 0 3000 0x0AB ∧ s.xmin = within 50 500 0x0AC ∧
    s.xrest = within 1 255 0x0AD ∧ s.vov = within 4200 4700 0x0AE ∧ s.ttrip = within 40 80 0x0AF) ∧
  (s.qpolCharge = policy 0x0B0 ∧ s.qpolXfer = policy 0x0B1 ∧ s.qpolProbe = policy 0x0B2 ∧ s.qpolRefresh = policy 0x0B3 ∧
    s.wakeFresh = within 0 1 0x0B4 ∧
    s.shipSlot = [SlotLength.zero, .us250, .ms1, .ms4].getD (within 0 3 0x0B5) .ms4 ∧
    s.winLo = within 0x100 0x1000 0x0B6 ∧ s.winHi = within 0x100 0x1000 0x0B7) ∧
  (s.preset .a = word 0x0B8 * 65536 + word 0x0B9 ∧ s.preset .b = word 0x0BA * 65536 + word 0x0BB)

/-- The common area after POR: the settings defaults of the settings page map, the free area 0, Q and F 0, and every
other status word as its owner's reset value gives it (a channel's ceiling and VCAP by log entry 23). In every state each
setting is read of its word by that map. -/
def Obligations.ResetCommonArea : Prop :=
  (∀ i, 0x100 ≤ i → i ≤ 0xFFF → State.reset.readWord i = 0) ∧
  (∀ i, i < 0x80 → isChargeWord i = true → State.reset.readWord i = 0) ∧
  (∀ i, i < 0x80 → isChargeWord i = false → State.reset.readWord i = State.reset.statusWord i) ∧
  (List.range 64).map (fun k => (State.reset.readWord (0x080 + k)).toNat) =
    [5000, 500, 5000, 500, 0, 5000, 0, 0, 236, 2, 2200, 2000, 4000, 3000, 6000, 4000] ++
    [5000, 12, 38, 44, 8, 3, 3000, 150, 150, 100, 80, 64, 10, 20, 3100, 8] ++
    [1000, 1000, 4400, 0x100, 0x200, 0, 256, 0, 40, 12, 64, 1500, 100, 4, 4550, 65] ++
    [2, 1, 0, 0, 0, 1, 0x100, 0x1000, 0, 0, 0, 0, 0, 0, 0, 0] ∧
  (List.range 32).map (fun k => (State.reset.readWord (0x0C0 + k)).toNat) =
    [0, 0, 0, 2, 10, 128, 0, 3, 20, 200, 0, 15, 38, 256, 0, 15] ++
    [45, 192, 0, 15, 50, 128, 100, 11, 58, 0, 150, 2, 125, 0, 0, 2] ∧
  (∀ i, 0x0E0 ≤ i → i ≤ 0x0FF → State.reset.readWord i = 0) ∧
  (∀ s : State, SettingsFollowTheMap s)

/-- The invariants of Safety.lean hold right after a power-on reset. -/
def Obligations.ResetIsSafe : Prop :=
  State.reset.memoryCanonical ∧ State.reset.portWithinBounds ∧ State.reset.listsWithinBounds ∧
  State.reset.transferSafe ∧ (∀ c, State.reset.pathSafe c) ∧ State.reset.allocator.weightsBalanced ∧
  State.reset.arbiterSettled ∧ State.reset.shipSequenced ∧ State.reset.countsWithinRange

/-! ### Invariants of a step -/

/-- Every step keeps memory in its canonical form. -/
def Obligations.StepKeepsMemoryCanonical : Prop :=
  ∀ s t : State, step s = .next t → s.memoryCanonical → t.memoryCanonical

/-- The transfer converter never runs while a source is selected or a cell is TRIPPED or ABSENT, and drives 0 in OFF and
REST. -/
def Obligations.StepKeepsTransferSafe : Prop :=
  ∀ s t : State, step s = .next t → s.transferSafe → t.transferSafe

/-- The laws of the applied set-point: a TRIPPED cell's path is open, an open path, a TRIPPED and an ABSENT cell apply
0, and a FULL cell applies no charge. -/
def Obligations.StepKeepsPathsSafe : Prop :=
  ∀ s t : State, step s = .next t → (∀ c, s.pathSafe c) → ∀ c, t.pathSafe c

/-- No request waits while the arbiter is free, and every waiting request has something to carry out. -/
def Obligations.StepKeepsArbiterSettled : Prop :=
  ∀ s t : State, step s = .next t → s.arbiterSettled → t.arbiterSettled

/-- In SHIP the paths are open, the timer stands and the link is inert; the cell paths open in order in SHIP_ENTRY. -/
def Obligations.StepKeepsShipSequenced : Prop :=
  ∀ s t : State, step s = .next t → s.shipSequenced → t.shipSequenced

/-- Every step keeps each of the bounds: two runs and one held register write at the port; 4 entries in the done queue and
an index within range in the slot; the weights within 64..960, each pair summing to 1024; and every count that saturates
or wraps within its range. -/
def Obligations.StepKeepsBounds : Prop :=
  ∀ s t : State, step s = .next t →
    (s.portWithinBounds → t.portWithinBounds) ∧ (s.listsWithinBounds → t.listsWithinBounds) ∧
    (s.allocator.weightsBalanced → t.allocator.weightsBalanced) ∧ (s.countsWithinRange → t.countsWithinRange)

/-! ### Start-up and the quiet request -/

/-- After POR the start-up sequence begins once: the part is in RUN, the timer runs from 0, the link is served, the
comparators are armed, and the input path closes. The slot expiries close cell path A and then cell path B, each unless
its cell is TRIPPED; the second ends the sequence. With a slot length of 0 both paths close at once. After a POR with
QREQ high the part then enters QUIET, with the QUIET hold on both cells under a STOP-effective charge policy and the
sequencer frozen under a STOP-effective probe policy. -/
def Obligations.StartupSequence : Prop :=
  (∀ s : State, s.startupDue = true → s.shipSlot ≠ .zero →
    exec .startupBegin s = .next { s with
      control := { s.control with startup := true, slot := s.shipSlot, state := .run, fastArmed := true,
                                  wakeArmed := false, inputOpen := false, shipStep := 5 }
      timer := { count := 0, length := .ms4, running := true }
      port := { s.port with serving := true } }) ∧
  (∀ s : State, s.startupDue = true → s.shipSlot = .zero →
    let entersQuiet := s.control.startupAfterPor ∧ s.control.qreq
    let closed : PerCell CellPath :=
      { a := { s.cells.a with pathOpen := if s.cells.a.charge = .tripped then s.cells.a.pathOpen else false }
        b := { s.cells.b with pathOpen := if s.cells.b.charge = .tripped then s.cells.b.pathOpen else false } }
    exec .startupBegin s = .next { s with
      control := { s.control with startup := false, slot := .zero, state := if entersQuiet then .quiet else .run,
                                  fastArmed := true, wakeArmed := false, inputOpen := false, shipStep := 0 }
      timer := { count := 0, length := .ms4, running := true }
      port := { s.port with serving := true }
      cells := if entersQuiet then quietHolds s closed else closed
      seq := if entersQuiet then quietFreezes s else s.seq }) ∧
  (∀ s : State, s.control.startup = true → s.control.shipStep = 5 → s.control.state = .run →
    exec .startupSlotExpiry s = .next { s with
      control := { s.control with shipStep := 6 }
      cells := { s.cells with
        a := { s.cells.a with pathOpen := if s.cells.a.charge = .tripped then s.cells.a.pathOpen else false } } }) ∧
  (∀ s : State, s.control.startup = true → s.control.shipStep = 6 → s.control.state = .run →
    let entersQuiet := s.control.startupAfterPor ∧ s.control.qreq
    let closed : PerCell CellPath := { s.cells with
      b := { s.cells.b with pathOpen := if s.cells.b.charge = .tripped then s.cells.b.pathOpen else false } }
    exec .startupSlotExpiry s = .next { s with
      control := { s.control with
        startup := false, shipStep := 0, state := if entersQuiet then .quiet else .run }
      cells := if entersQuiet then quietHolds s closed else closed
      seq := if entersQuiet then quietFreezes s else s.seq })

/-- A rise of QREQ in RUN, with the start-up mark clear, enters QUIET: the QUIET hold is set on both cells when the
charge policy is STOP-effective, and the sequencer is frozen when the probe policy is. Elsewhere no state changes but
the line. -/
def Obligations.QreqRiseEntersQuiet : Prop :=
  (∀ s : State, s.control.qreq = false → s.control.state = .run → s.control.startup = false →
    ∃ t : State, exec .qreqRise s = .next t ∧
      t = { s with
        control := { s.control with state := .quiet, qreq := true }
        cells := quietHolds s s.cells
        seq := quietFreezes s }) ∧
  (∀ s : State, s.control.qreq = false → ¬ (s.control.state = .run ∧ s.control.startup = false) →
    exec .qreqRise s = .next { s with control := { s.control with qreq := true } })

/-- A fall of QREQ in QUIET wakes the part to RUN: the QUIET holds are cleared, a FROZEN sequencer is thawed, and at
WAKE_FRESH 1 both renewal marks are set and both band indices return to none; nothing else changes. Elsewhere no state
changes but the line. (The model's choices: the held step is carried out before the WAKE_FRESH step, log entry 12; an item
that is the held step is counted by the budget at the thaw, log entry 22; the kept state stands after the thaw, log entry
48.) -/
def Obligations.QreqFallWakes : Prop :=
  (∀ s : State, s.control.qreq = true → s.control.state = .quiet → s.control.startup = false →
    ∃ t : State,
      ThawsTo { s with
        control := { s.control with state := .run, qreq := false }
        cells := { a := { s.cells.a with holds := { s.cells.a.holds with quiet := false } }
                   b := { s.cells.b with holds := { s.cells.b.holds with quiet := false } } } } t ∧
      (s.wakeFresh = 0 → exec .qreqFall s = .next t.settle) ∧
      (s.wakeFresh = 1 → exec .qreqFall s = .next ({ t with
        cells := { a := { t.cells.a with renewal := true }, b := { t.cells.b with renewal := true } }
        bands := { a := { t.bands.a with index := none }, b := { t.bands.b with index := none } } } : State).settle)) ∧
  (∀ s : State, s.wakeFresh = 0 ∨ s.wakeFresh = 1) ∧
  (∀ s : State, s.control.qreq = true → ¬ (s.control.state = .quiet ∧ s.control.startup = false) →
    exec .qreqFall s = .next { s with control := { s.control with qreq := false } })

/-! ### SHIP -/

/-- The SHIP command is refused in HEAT, with a source present, and during start-up; it does nothing in SHIP_ENTRY; it is
accepted in RUN and QUIET otherwise, in QUIET with the QUIET holds cleared and a FROZEN sequencer thawed, and with the
transfer converter forced OFF after that. With a slot length above 0 the cell paths stay as they are until their slots;
with 0 the part is in SHIP at once, every path open. (The model's choices: the held step is carried out before the transfer
is forced OFF, log entry 12; an item that is the held step is counted by the budget at the thaw, log entry 22; the kept
state stands after the thaw, log entry 48; what the entry to SHIP drops is log entries 9, 19, 32 and 51.) -/
def Obligations.ShipCommand : Prop :=
  (∀ s : State, s.port.serving = true → (s.control.state = .run ∨ s.control.state = .quiet) →
    (s.control.startup = true ∨ s.sourcePresent = true) →
    exec .ship s = .next { s with control := { s.control with shipResult := .refused } }) ∧
  (∀ s : State, s.port.serving = true → s.control.state = .heat →
    exec .ship s = .next { s with control := { s.control with shipResult := .refused } }) ∧
  (∀ s : State, s.port.serving = true → s.control.state = .shipEntry → exec .ship s = .next s) ∧
  (∀ s : State, s.sourcePresent = true ↔ (s.selector.wired.state ≠ .detached ∨ s.selector.coil.state ≠ .detached)) ∧
  (∀ s : State, s.port.serving = true → (s.control.state = .run ∨ s.control.state = .quiet) →
    s.control.startup = false → s.sourcePresent = false →
    ∃ t : State, ShipAccepted s t ∧
      (s.shipSlot ≠ .zero → exec .ship s = .next ({ t with transfer := stoppedForShip t.transfer } : State).settle) ∧
      (s.shipSlot = .zero → exec .ship s = .next (inShip { t with
        transfer := stoppedForShip t.transfer
        cells := { a := { t.cells.a with pathOpen := true, setPoint := 0 }
                   b := { t.cells.b with pathOpen := true, setPoint := 0 } } }).settle))

/-- Each slot expiry of the opening sequence opens the next path: cell path B, cell path A, the input path; the last
takes the part to SHIP, or at once to the ship wake when an attach-wake event is pending. What the entry drops of the
port, the scan, the probe and the refresh is log entries 9, 19, 32 and 51; at the wake, the refresh image is taken with the
start-up sequence begun (log entry 33), the item last fetched, the probe channel and the staged records are kept, the
waking source is none (log entry 2) and the kept state is IDLE (log entry 50). -/
def Obligations.ShipSlotsOpenPathsInOrder : Prop :=
  (∀ s : State, s.control.state = .shipEntry → s.control.shipStep = 1 →
    exec .shipSlotExpiry s = .next { s with
      control := { s.control with shipStep := 2 }
      cells := { s.cells with b := { s.cells.b with pathOpen := true, setPoint := 0 } } }) ∧
  (∀ s : State, s.control.state = .shipEntry → s.control.shipStep = 2 →
    exec .shipSlotExpiry s = .next { s with
      control := { s.control with shipStep := 3 }
      cells := { s.cells with a := { s.cells.a with pathOpen := true, setPoint := 0 } } }) ∧
  (∀ s : State, s.control.state = .shipEntry → s.control.shipStep = 3 → s.control.wakePending = false →
    exec .shipSlotExpiry s = .next (inShip s).settle) ∧
  (∀ s : State, s.control.state = .shipEntry → s.control.shipStep = 3 → s.control.wakePending = true →
    ∃ image, let e := shipWakeValues s s.control.wakingSource (onlyDroppedProbe s.converter.inFlight) image
      exec .shipSlotExpiry s = .next e.settle ∧ image = e.statusImage)

/-- An attach-wake event in SHIP_ENTRY sets the wake pending mark, the first one naming the waking source; in SHIP it
wakes the part, and every block takes its ship wake values (the refresh image by log entry 33, the fields with no reset
value, the probe channel and the staged records among them, by log entries 2 and 50, the port's operations by log entry
51). -/
def Obligations.AttachWake : Prop :=
  (∀ (s : State) (i : Input), s.control.wakeArmed = true → s.control.state = .shipEntry →
    s.control.wakePending = false →
    exec (.attachWakeEvent i) s =
      .next { s with control := { s.control with wakePending := true, wakingSource := some i } }) ∧
  (∀ (s : State) (i : Input), s.control.state = .shipEntry → s.control.wakePending = true →
    exec (.attachWakeEvent i) s = .next s) ∧
  (∀ (s : State) (i : Input), s.control.wakeArmed = true → s.control.state = .ship →
    ∃ image, let e := shipWakeValues s (some i) (droppedProbe s.converter.inFlight) image
      exec (.attachWakeEvent i) s = .next e.settle ∧ image = e.statusImage)

/-! ### SOFT_RESET -/

/-- SOFT_RESET is ignored in SHIP_ENTRY; elsewhere every block takes the SOFT_RESET column of its own table, the
allocation in flight is abandoned, and a status refresh is requested. V_c and I_c of the contract in use are kept, or are
those the budget stage of that allocation has read by then (log entries 10 and 35); a QUIET hold and a changeover in DONE
are kept by log entries 42 and 46, the fields with no reset value, the probe channel and the staged records among them,
are as log entries 2 and 50 have them. -/
def Obligations.SoftReset : Prop :=
  (∀ s : State, s.port.serving = true → s.control.state = .shipEntry → exec .softReset s = .next s) ∧
  (∀ s : State, s.port.serving = true → s.control.state ≠ .shipEntry → s.control.state ≠ .ship →
    ∃ contract n image, let e := softResetValues s contract n image
      exec .softReset s = .next e.settle ∧ image = e.statusImage ∧
      (contract = s.selector.contract ∨ ∃ al, s.allocator.inFlight = some al ∧
        let b := al.budget.getD (s.budgetRead al.snap)
        contract = { s.selector.contract with vC := b.vC, iC := b.iC }) ∧
      n = s.freeCounter + if s.allocator.inFlight.isSome then 1 else 0)

/-! ### The link registers -/

/-- The sticky causes in the order of the table of 10.7. -/
def stickyCauses : List StickyCause :=
  [.tripA, .tripB, .heat, .shortfall, .source, .starveA, .starveB, .window, .writeFault, .listBad, .fullA, .fullB, .band,
   .fold]

/-- The sticky causes have the numbers of the table of 10.7, with 10 DONE_READY and 11 NEXT_FREE, and each its own mark.
NOTE returns the lowest-numbered cause that is pending and enabled, or 16; a write of n clears a sticky cause that is
pending and changes nothing otherwise; MASK becomes the word written. -/
def Obligations.NoteAndMask : Prop :=
  stickyCauses.map StickyCause.number = [0, 1, 2, 3, 4, 5, 6, 7, 8, 9, 12, 13, 14, 15] ∧
  (∀ x : Sticky, stickyCauses.map x.get =
    [x.tripA, x.tripB, x.heat, x.shortfall, x.source, x.starveA, x.starveB, x.window, x.writeFault, x.listBad, x.fullA,
     x.fullB, x.band, x.fold]) ∧
  (∀ (x : Sticky) (k j : StickyCause) (b : Bool), (x.set k b).get j = if j = k then b else x.get j) ∧
  (∀ s : State, let enabled := fun n => s.causePending n = true ∧ s.notices.mask.getLsbD n = true
    (s.note < 16 ∧ enabled s.note ∧ ∀ n, n < s.note → ¬ enabled n) ∨
      (s.note = 16 ∧ ∀ n, n < 16 → ¬ enabled n)) ∧
  (∀ (s : State) (k : StickyCause), s.causePending k.number = s.notices.sticky.get k) ∧
  (∀ s : State, s.causePending 10 = !s.seq.done.isEmpty ∧ s.causePending 11 = s.seq.slot.isNone) ∧
  (∀ s : State, s.readRegister .note = (BitVec.ofNat 16 s.note, s)) ∧
  (∀ (s : State) (k : StickyCause), s.port.serving = true →
    exec (.noteWrite (BitVec.ofNat 16 k.number)) s =
      .next { s with notices := { s.notices with sticky := s.notices.sticky.set k false } }) ∧
  (∀ (s : State) (k : StickyCause), s.notices.sticky.get k = false →
    exec (.noteWrite (BitVec.ofNat 16 k.number)) s = .next s) ∧
  (∀ (s : State) (v : Word), v = 10 ∨ v = 11 ∨ 15 < v.toNat → exec (.noteWrite v) s = .next s) ∧
  (∀ (s : State) (v : Word), s.port.serving = true →
    exec (.maskWrite v) s = .next { s with notices := { s.notices with mask := v } }) ∧
  (∀ s : State, s.control.state ≠ .ship → s.intnLow = decide (s.note < 16))

/-- A read of DONE removes the oldest entry and returns it, end code above start index, in every sequencer state; a read
of an empty queue returns 0xFFFF and changes nothing else. The word returned joins the words shifted out (the model's own
record: log entry 26). -/
def Obligations.DoneRead : Prop :=
  (∀ s : State, s.port.serving = true → s.seq.done = [] →
    exec .doneRead s = .next { s with port := { s.port with shifted := s.port.shifted ++ [0xFFFF] } }) ∧
  (∀ (s : State) (e : DoneEntry) (rest : List DoneEntry), s.port.serving = true → s.seq.done = e :: rest →
    exec .doneRead s = .next { s with
      seq := { s.seq with done := rest }
      port := { s.port with shifted := s.port.shifted ++ [e.word] } }) ∧
  (∀ e : DoneEntry, e.index ≤ 0xFFC →
    e.word.extractLsb' 0 12 = BitVec.ofNat 12 e.index ∧
      (e.word.extractLsb' 14 2 : BitVec 2) =
        match e.code with
        | .ended => 0
        | .pass => 1
        | .bad => 2
        | .budget => 3)

/-- A write to NEXT is refused while the slot is full, ignored outside 0x100..0xFFC, and otherwise taken into the slot;
found IDLE, the sequencer starts the list and asks for its first item. -/
def Obligations.NextWrite : Prop :=
  (∀ (s : State) (v : Word) (i : Nat), s.seq.slot = some i → exec (.nextWrite v) s = .next s) ∧
  (∀ (s : State) (v : Word), v.toNat < 0x100 ∨ 0xFFC < v.toNat → exec (.nextWrite v) s = .next s) ∧
  (∀ (s : State) (v : Word), s.port.serving = true → s.seq.slot = none → 0x100 ≤ v.toNat → v.toNat ≤ 0xFFC →
    s.seq.state ≠ .idle → exec (.nextWrite v) s = .next { s with seq := { s.seq with slot := some v.toNat } }) ∧
  (∀ (s : State) (v : Word), s.port.serving = true → s.seq.slot = none → 0x100 ≤ v.toNat → v.toNat ≤ 0xFFC →
    s.seq.state = .idle →
    exec (.nextWrite v) s = .next ({ s with
      seq := { s.seq with state := .fetch, current := some v.toNat, itemIndex := v.toNat, slot := none, budget := 0,
                          inFlight := .fetch v.toNat }
      arbiter := { s.arbiter with seqFetch := some v.toNat } } : State).settle) ∧
  (∀ s : State, s.readRegister .next =
    (match s.seq.slot with
      | some i => BitVec.ofNat 16 (0x8000 + i)
      | none => 0, s))

/-- A write to ID, DONE or an unmapped address is dropped, by the row of its own and by a frame's word alike; and while the
port does not serve, as from entry to SHIP to the ship wake, no frame, register access or command changes anything. -/
def Obligations.WritesDroppedAndLinkInert : Prop :=
  (∀ (s : State) (addr v : Word), exec (.registerWriteDropped addr v) s = .next s) ∧
  (∀ (s : State) (addr v : Word), writeIsDroppedAt addr = true → s.writeAt (evenAddress addr) v = s) ∧
  (∀ s : State, s.port.serving = false → ∀ c : Instr,
    ((∃ l, c = .linkFrame l) ∨ (∃ v, c = .nextWrite v) ∨ c = .doneRead ∨ (∃ v, c = .noteWrite v) ∨
      (∃ v, c = .maskWrite v) ∨ c = .softReset ∨ c = .skipItem ∨ c = .skipList ∨ c = .ship ∨ c = .releaseA ∨
      c = .releaseB ∨ c = .profileStartA ∨ c = .profileStartB ∨ c = .profileStopA ∨ c = .profileStopB ∨
      c = .clearWindow ∨ c = .presetA ∨ c = .presetB) →
    exec c s = .next s)

/-! ### Frames and runs. The premise that both grants are taken keeps the arbiter and the converter still. -/

/-- LINK waits at the arbiter when the port's first operation that has not completed is a run that waits (R167). -/
def nextWaits : List PortOp → Bool
  | [] => false
  | .run r :: rest => if r.phase = .done then nextWaits rest else decide (r.phase = .waiting)
  | .write _ _ :: _ => false

/-- The state with the port's request at the arbiter as its operations have it. -/
def linkRequested (s : State) : State := { s with arbiter := { s.arbiter with link := nextWaits s.port.ops } }

/-- A run that has completed. -/
def Completed : PortOp → Prop
  | .run r => r.phase = .done
  | .write _ _ => False

/-- The runs that the port holds. -/
def runsHeld (ops : List PortOp) : Nat := (ops.filter PortOp.isRun).length

/-- The port serves, and both grants are taken, so that a bus event grants nothing. -/
def ServingWithGrantsTaken (s : State) : Prop :=
  s.port.serving = true ∧ s.arbiter.underWay.isSome = true ∧ s.converter.inFlight ≠ .none

/-- The byte addresses of the link registers (R166). -/
def linkRegisters : List (Nat × LinkRegister) :=
  [(0x2000, .id), (0x2002, .next), (0x2004, .done), (0x2006, .note), (0x2008, .mask), (0x200A, .cmd)]

/-- The codes of CMD, each with the command it gives (10.9.1). -/
def commandCodes : List (Nat × Instr) :=
  [(1, .softReset), (2, .skipItem), (3, .skipList), (4, .ship), (5, .releaseA), (6, .releaseB), (7, .profileStartA),
   (8, .profileStartB), (9, .profileStopA), (10, .profileStopB), (11, .clearWindow), (12, .presetA), (13, .presetB)]

/-- What a write of a link register does is what the command of its own does, but for the grants: of NOTE, MASK and NEXT
the register write, and of CMD the command of its code, with no effect of any other value (R174, R175). -/
def RegisterWritesAct : Prop :=
  (∀ (s : State) (v : Word), s.port.serving = true →
    exec (.noteWrite v) s = .next (s.writeRegister .note v) ∧ exec (.maskWrite v) s = .next (s.writeRegister .mask v) ∧
    exec (.nextWrite v) s = .next
      (if s.seq.slot = none ∧ 0x100 ≤ v.toNat ∧ v.toNat ≤ 0xFFC ∧ s.seq.state = .idle then
        (s.writeRegister .next v).settle
      else s.writeRegister .next v)) ∧
  (∀ (s : State) (v : Word), s.writeRegister .id v = s ∧ s.writeRegister .done v = s) ∧
  (∀ (s : State) (code : Nat) (c : Instr), s.port.serving = true → (code, c) ∈ commandCodes →
    let t := s.writeRegister .cmd (BitVec.ofNat 16 code)
    exec c s = .next t ∨ exec c s = .next t.settle) ∧
  (∀ (s : State) (v : Word), v.toNat = 0 ∨ 13 < v.toNat → s.writeRegister .cmd v = s)

/-- A frame's address is of the place that the map of byte addresses gives it, an odd one of the even one below it. In a
frame, with no earlier operation outstanding, a word written to a link register acts as a write of that register (the codes
of CMD that ask for no grant and reset nothing, or name no command, among them), and a word read from one carries its value,
a word read from DONE popping (the words shifted out are kept by log entry 26); the run of the read frame, at word 0, has
been requested at its address (log entry 7), and is to be gone at its completion. A register write that arrives behind an
earlier operation is held when none is, and dropped otherwise; one to ID or DONE is dropped and never held. A word read from
an unmapped address is 0 and changes nothing. -/
def Obligations.FramesReachRegisters : Prop :=
  (∀ a : Word, (evenAddress a).toNat = a.toNat - a.toNat % 2) ∧
  (∀ a : Word, placeOf a = if a.toNat < 0x2000 then .area (a.toNat / 2)
    else match linkRegisters.find? fun x => x.1 = a.toNat with
      | some x => .register x.2
      | none => .unmapped) ∧
  RegisterWritesAct ∧
  (∀ (s : State) (r : LinkRegister) (a w : Word), ServingWithGrantsTaken s → s.port.frame = .idle → s.port.ops = [] →
    (a.toNat - a.toNat % 2, r) ∈ linkRegisters →
    (r = .cmd → w.toNat ∈ [0, 5, 6, 9, 10, 11] ∨ 13 < w.toNat) →
    let done := s.writeRegister r w
    exec (.linkFrame [.csnFall, .control 0x00, .address a, .writeWord w, .csnRise]) s =
      .next { done with
        port := { s.port with frame := .idle, shifted := [] }
        arbiter := { done.arbiter with link := false } }) ∧
  (∀ (s : State) (r : LinkRegister) (a : Word), ServingWithGrantsTaken s → s.port.frame = .idle → s.port.ops = [] →
    (a.toNat - a.toNat % 2, r) ∈ linkRegisters →
    let read := s.readRegister r
    exec (.linkFrame [.csnFall, .control 0x80, .address a, .readDue, .csnRise]) s =
      .next { read.2 with
        port := { s.port with
          frame := .idle
          shifted := [read.1]
          ops := [.run { dir := .read, start := 0, length := 64, words := [], phase := .waiting, stale := true }] }
        arbiter := { s.arbiter with link := true } }) ∧
  (∀ s : State, s.readRegister .id = (0x4B22, s) ∧ s.readRegister .cmd = (0, s) ∧
    s.readRegister .mask = (s.notices.mask, s) ∧ s.readRegister .done = s.readDone) ∧
  (∀ (s : State) (r : LinkRegister) (w : Word), s.port.settled = false → s.receiveRegister r w =
    if r = .id ∨ r = .done ∨ s.port.holdsWrite = true then s
    else { s with port := { s.port with ops := s.port.ops ++ [.write r w] } }) ∧
  (∀ (s : State) (a : Word), 0x200C ≤ a.toNat → s.readAt a = (0, s))

/-- A read run of the frame in progress that has word i. -/
def hasWord (i : Nat) : PortOp → Bool
  | .run r => decide (r.dir = .read ∧ r.stale = false ∧ r.start ≤ i ∧ i < r.start + r.length)
  | .write _ _ => false

/-- The read run that is requested from word i on: up to 64 words, and none past the area. -/
def readRunFrom (i : Nat) : PortOp :=
  .run { dir := .read, start := i, length := min 64 (0x1000 - i), words := [], phase := .waiting, stale := false }

/-- A write run of these words whose frame has ended, or that has ended before. -/
def endedWriteRun (start : Nat) (ws : List Word) : PortOp :=
  .run { dir := .write, start := start, length := ws.length, words := ws, phase := .waiting, stale := false }

/-- The last operation is a write run being received whose next word is word i. -/
def ReceivesAt (i : Nat) (ops : List PortOp) : Prop :=
  ∃ (earlier : List PortOp) (r : Run), ops = earlier ++ [.run r] ∧ r.phase = .receiving ∧ r.start + r.length = i

/-- An operation as the end of its frame leaves it: a write run being received ends, and a read run is gone, or is to be
gone at its completion. -/
def atEndOfFrame : PortOp → List PortOp
  | .run r =>
    if r.dir = .read then (if r.phase = .done then [] else [.run { r with stale := true }])
    else [.run { r with phase := if r.phase = .receiving then .waiting else r.phase }]
  | .write q v => [.write q v]

/-- A write word of the common area joins the run being received when it follows its last word; otherwise it begins a run,
or, while the port holds two, is dropped. A run ends, and is requested, with its 64th word, with the last word of the area
and at the end of the frame (R167). -/
def WriteWordsMakeRuns : Prop :=
  (∀ (s : State) (addr w : Word), ServingWithGrantsTaken s → s.port.frame = .data .write addr → addr.toNat < 0x2000 →
    let i := addr.toNat / 2
    let phase := fun (n : Nat) => if n = 64 ∨ i = 0xFFF then RunPhase.waiting else .receiving
    let leaves := fun (ops : List PortOp) => exec (.linkFrame [.writeWord w]) s =
      .next (linkRequested { s with port := { s.port with frame := .data .write (addr + 2), ops := ops } })
    (∀ earlier r, s.port.ops = earlier ++ [.run r] → r.phase = .receiving → r.start + r.length = i →
      leaves (earlier ++ [.run { r with
        length := r.length + 1, words := r.words ++ [w], phase := phase (r.length + 1) }])) ∧
    (¬ ReceivesAt i s.port.ops → runsHeld s.port.ops < 2 → leaves (s.port.ops ++
      [.run { dir := .write, start := i, length := 1, words := [w], phase := phase 1, stale := false }])) ∧
    (¬ ReceivesAt i s.port.ops → 2 ≤ runsHeld s.port.ops → leaves s.port.ops)) ∧
  (∀ s : State, ServingWithGrantsTaken s → s.port.frame ≠ .idle →
    exec (.linkFrame [.csnRise]) s =
      .next (linkRequested { s with port := { s.port with frame := .idle, ops := s.port.ops.flatMap atEndOfFrame } })) ∧
  (∀ (s : State) (a : Word) (ws : List Word), ServingWithGrantsTaken s → s.port.frame = .idle → s.port.ops = [] →
    ws ≠ [] → a.toNat / 2 + ws.length ≤ 0x1000 →
    exec (.linkFrame ([.csnFall, .control 0x00, .address a] ++ ws.map FrameEvent.writeWord ++ [.csnRise])) s =
      .next { s with
        port := { s.port with
          frame := .idle
          shifted := []
          ops := endedWriteRun (a.toNat / 2) (ws.take 64) ::
            (if 64 < ws.length then [endedWriteRun (a.toNat / 2 + 64) ((ws.drop 64).take 64)] else []) }
        arbiter := { s.arbiter with link := true } })

/-- The address of a read frame requests a run, at word 0 where the frame begins outside the common area (log entry 7). A
word that falls due is the run's once the run has completed, and 0xFFFF before; with it the run after its run is requested,
unless the port has that run already or holds two (R167; log entries 7 and 8), and a run whose last word has been shifted
out is gone, or is to be gone at its completion. A word of the area without a run is 0xFFFF, and its run is requested when
the port has room (log entry 8). The words shifted out are kept by log entry 26. -/
def ReadWordsFollowTheirRuns : Prop :=
  (∀ (s : State) (a : Word), ServingWithGrantsTaken s → s.port.frame = .address .read →
    exec (.linkFrame [.address a]) s = .next (linkRequested { s with
      port := { s.port with
        frame := .data .read (evenAddress a)
        ops := s.port.ops ++ if runsHeld s.port.ops < 2 then
          [readRunFrom (if a.toNat < 0x2000 then a.toNat / 2 else 0)] else [] } })) ∧
  (∀ (s : State) (addr : Word) (r : Run) (earlier later : List PortOp), ServingWithGrantsTaken s →
    s.port.frame = .data .read addr → addr.toNat < 0x2000 → s.port.ops = earlier ++ .run r :: later →
    let i := addr.toNat / 2
    hasWord i (.run r) = true → (∀ op ∈ earlier ++ later, hasWord i op = false) → r.length ≤ 64 →
    r.start + r.length ≤ 0x1000 →
    let next := (r.start + r.length) % 0x1000
    let kept : List PortOp :=
      if i + 1 < r.start + r.length then [.run r] else if r.phase = .done then [] else [.run { r with stale := true }]
    let requested : List PortOp :=
      if s.port.ops.any (hasWord next) = true ∨ 2 ≤ runsHeld s.port.ops then [] else [readRunFrom next]
    exec (.linkFrame [.readDue]) s = .next (linkRequested { s with
      port := { s.port with
        frame := .data .read (addr + 2)
        shifted := s.port.shifted ++ [if r.phase = .done then r.words.getD (i - r.start) 0 else 0xFFFF]
        ops := earlier ++ kept ++ later ++ requested } })) ∧
  (∀ (s : State) (addr : Word), ServingWithGrantsTaken s → s.port.frame = .data .read addr → addr.toNat < 0x2000 →
    s.port.ops.any (hasWord (addr.toNat / 2)) = false →
    (2 ≤ runsHeld s.port.ops → exec (.linkFrame [.readDue]) s = .next (linkRequested { s with
      port := { s.port with frame := .data .read (addr + 2), shifted := s.port.shifted ++ [0xFFFF] } })) ∧
    (runsHeld s.port.ops < 2 → exec (.linkFrame [.readDue]) s = exec (.linkFrame [.readDue]) { s with
      port := { s.port with ops := s.port.ops ++ [readRunFrom (addr.toNat / 2)] } }))

/-- Frames hand the words of the common area to the arbiter in runs, and memory stands until the grant; a control byte that
is neither read nor write makes the rest of the frame be ignored. (The first run of a read frame: log entry 7.) Where the port is full when a read run falls due to be
requested, it is requested with the first later word that finds room (the model's choice: log entry 8). -/
def Obligations.FramesRequestRuns : Prop :=
  WriteWordsMakeRuns ∧ ReadWordsFollowTheirRuns ∧
  (∀ (s : State) (b : Byte) (a w : Word), ServingWithGrantsTaken s → s.port.frame = .idle → s.port.ops = [] →
    b ≠ 0x80 → b ≠ 0x00 →
    exec (.linkFrame [.csnFall, .control b, .address a, .writeWord w, .readDue, .csnRise]) s =
      .next { s with
        port := { s.port with frame := .idle, shifted := [] }
        arbiter := { s.arbiter with link := false } })

/-- A settings reading of the allocation in flight that stood stands, or is made now, or is left to a later stage (R86). -/
def ReadOnce {α : Type} (before after : Option α) (now : α) : Prop :=
  after = before ∨ (before = none ∧ after = some now)

/-- What comes of the allocation in flight where a write of the link or of the sequencer is granted, or SOFT_RESET arrives:
the stages worked by then have read their words, in the order of chapter 6, once, from the settings as they stand before
the write, all but the budget after the counter point (R86, R87); how many have been worked is open (log entry 10), and
whether CAP_x has been read before the charge split (log entry 39). V_c and I_c of the contract follow the budget's
reading (log entry 35), and the model's own counter moves on (log entry 38). Nothing else changes. -/
def StagesWorked (s t : State) : Prop :=
  (s.allocator.inFlight = none → t = s) ∧
  (∀ al, s.allocator.inFlight = some al → ∃ w : Allocation,
    t = { s with
      allocator := { s.allocator with inFlight := some w }
      selector := { s.selector with contract := match w.budget with
        | none => s.selector.contract
        | some b => { s.selector.contract with vC := b.vC, iC := b.iC } }
      freeCounter := s.freeCounter + 1 } ∧
    w = { al with budget := w.budget, capacity := w.capacity, ceilings := w.ceilings, chargeSplit := w.chargeSplit,
                  supplySplit := w.supplySplit } ∧
    ReadOnce al.budget w.budget (s.budgetRead al.snap) ∧ ReadOnce al.capacity w.capacity s.capacityRead ∧
    ReadOnce al.ceilings w.ceilings s.ceilingRead ∧ ReadOnce al.chargeSplit w.chargeSplit s.chargeSplitRead ∧
    ReadOnce al.supplySplit w.supplySplit s.supplySplitRead ∧
    (al.counter = none → w.capacity = al.capacity ∧ w.ceilings = al.ceilings ∧ w.chargeSplit = al.chargeSplit ∧
      w.supplySplit = al.supplySplit) ∧
    (w.ceilings ≠ al.ceilings → w.budget.isSome) ∧
    (w.chargeSplit ≠ al.chargeSplit → w.ceilings.isSome ∧ w.capacity.isSome) ∧
    (w.supplySplit ≠ al.supplySplit → w.chargeSplit.isSome))

/-- A write run writes each of its words of the settings page and the free area at its grant, drops those of the status
page, and leaves every other word of the common area; the stages of the allocation in flight are worked freely before the
write (log entries 10 and 39), and nothing else changes but by the converter's grant. The run granted
is the first that has not completed, so one behind a completed read run that is still being shifted out. A run that completes
is kept while its words are still to be shifted out, and otherwise gone; the next run is then requested, or a register write
held behind it acts. -/
def Obligations.LinkRunsWriteAndComplete : Prop :=
  (∀ (m : Memory) (start : Nat) (ws : List Word) (i : Nat), Memory.wf m = true → i < 0x1000 →
    Memory.readWord (writeRun m start ws) i =
      if start ≤ i ∧ i < start + ws.length ∧ 0x080 ≤ i then ws.getD (i - start) 0 else Memory.readWord m i) ∧
  (∀ (s : State) (r : Run) (earlier later : List PortOp), s.arbiter.underWay = none → s.arbiter.gauge = false →
    s.arbiter.fetch = { a := none, b := none } → s.arbiter.link = true → s.port.ops = earlier ++ .run r :: later →
    (∀ op ∈ earlier, Completed op) → r.phase = .waiting → r.dir = .write →
    ∃ t : State, StagesWorked { s with
        converter := s.convert.converter
        port := { s.port with ops := earlier ++ .run { r with phase := .granted } :: later }
        arbiter := { s.arbiter with link := false, underWay := some (.link .write), awaited := true } } t ∧
      s.settle = { t with mem := writeRun s.mem r.start r.words }) ∧
  (∀ (s : State) (r : Run) (earlier later : List PortOp), s.arbiter.underWay = some (.link r.dir) →
    s.port.ops = earlier ++ .run r :: later → (∀ op ∈ earlier, Completed op) → r.phase = .granted →
    let completion : Instr := match r.dir with
      | .read => .linkReadRunCompletion
      | .write => .linkWriteRunCompletion
    let kept : List PortOp := if r.dir = .read ∧ r.stale = false then [.run { r with phase := .done }] else []
    let ended : State := { s with arbiter := { s.arbiter with underWay := none, awaited := false } }
    (later = [] ∨ (∃ q rest, later = .run q :: rest ∧ q.phase ≠ .done) → exec completion s =
      .next (linkRequested { ended with port := { s.port with ops := earlier ++ kept ++ later } }).settle) ∧
    (∀ q v rest, later = .write q v :: rest → exec completion s =
      .next (linkRequested (({ ended with port := { s.port with ops := earlier ++ kept ++ rest } } :
        State).writeRegister q v)).settle))

/-! ### The sequencer -/

/-- An item that finishes goes on to the item at the next index: its fetch is requested. An index out of range ends the
list with BAD, and a budget count of 64 with BUDGET (the budget first: log entry 21). A list that ends posts its end code,
or counts it in DONE_OVERRUN where the queue is full, raises LIST_BAD for BAD and BUDGET, and the slot's list starts, or the
sequencer becomes IDLE; nothing else changes. -/
def Obligations.ItemsGoOnOrEndTheList : Prop :=
  (∀ (s : State) (i : Nat), s.seq.budget < 64 → 0x100 ≤ i → i ≤ 0xFFC → s.finishItem i = { s with
    seq := { s.seq with state := .fetch, itemIndex := i, inFlight := .fetch i }
    arbiter := { s.arbiter with seqFetch := some i } }) ∧
  (∀ (s : State) (i : Nat), s.seq.budget < 64 → i < 0x100 ∨ 0xFFC < i → s.finishItem i = s.endListWith .bad) ∧
  (∀ (s : State) (i : Nat), 64 ≤ s.seq.budget → s.finishItem i = s.endListWith .budget) ∧
  (∀ (s : State) (code : EndCode) (j : Nat), s.seq.current = some j → s.seq.done.length < 4 → s.seq.slot = none →
    s.endListWith code = { s with
      seq := { s.seq with state := .idle, current := none, done := s.seq.done ++ [{ index := j, code := code }] }
      notices := { s.notices with sticky := { s.notices.sticky with
        listBad := s.notices.sticky.listBad || decide (code = .bad ∨ code = .budget) } } }) ∧
  (∀ (s : State) (code : EndCode) (j i : Nat), s.seq.current = some j → s.seq.done.length < 4 →
    s.seq.slot = some i →
    s.endListWith code = { s with
      seq := { s.seq with
        state := .fetch, current := some i, itemIndex := i, slot := none, budget := 0, inFlight := .fetch i
        done := s.seq.done ++ [{ index := j, code := code }] }
      arbiter := { s.arbiter with seqFetch := some i }
      notices := { s.notices with sticky := { s.notices.sticky with
        listBad := s.notices.sticky.listBad || decide (code = .bad ∨ code = .budget) } } }) ∧
  (∀ (s : State) (code : EndCode) (j : Nat), s.seq.current = some j → 4 ≤ s.seq.done.length →
    s.seq.doneOverrun ≤ 255 → s.seq.slot = none →
    s.endListWith code = { s with
      seq := { s.seq with state := .idle, current := none, doneOverrun := min 255 (s.seq.doneOverrun + 1) }
      notices := { s.notices with sticky := { s.notices.sticky with
        listBad := s.notices.sticky.listBad || decide (code = .bad ∨ code = .budget) } } }) ∧
  (∀ (s : State) (code : EndCode) (j i : Nat), s.seq.current = some j → 4 ≤ s.seq.done.length →
    s.seq.doneOverrun ≤ 255 → s.seq.slot = some i →
    s.endListWith code = { s with
      seq := { s.seq with
        state := .fetch, current := some i, itemIndex := i, slot := none, budget := 0, inFlight := .fetch i
        doneOverrun := min 255 (s.seq.doneOverrun + 1) }
      arbiter := { s.arbiter with seqFetch := some i }
      notices := { s.notices with sticky := { s.notices.sticky with
        listBad := s.notices.sticky.listBad || decide (code = .bad ∨ code = .budget) } } })

/-- The number of a charge state (1.2). -/
def chargeNumber : ChargeState → Word
  | .absent => 0
  | .idle => 1
  | .precharge => 2
  | .bulk => 3
  | .taper => 4
  | .full => 5
  | .held => 6
  | .tripped => 7

/-- What each kind of item does. END and a bad kind end the list; SAMPLE converts, or waits for its trigger; COMPARE fires
outside its limits; WAIT pauses; MARK takes its value to the write window; BRANCH and JUMP choose the next item; SETW
writes a settings word. The budget count falls to 0 at SAMPLE and WAIT, and rises by one at every other kind. The values
of MARK and the conditions of BRANCH are those of R152 and R153. -/
def Obligations.ItemsCarriedOut : Prop :=
  (∀ s : State,
    let counted : State := { s with seq := { s.seq with budget := s.seq.budget + 1 } }
    let next := s.seq.itemIndex + 4
    s.carryOut .endItem = counted.endListWith .ended ∧ (∀ k, s.carryOut (.bad k) = counted.endListWith .bad) ∧
    (∀ n, s.carryOut (.wait n) =
      { s with seq := { s.seq with state := .pause, waitCount := max 1 n, budget := 0 } }) ∧
    (∀ ch n g target, s.seq.item = some (.sample ch n g target) →
      let fresh : State := { s with seq := { s.seq with budget := 0, sum := 0, taken := 0 } }
      (g ≠ .now → s.carryOut (.sample ch n g target) =
        { fresh with seq := { fresh.seq with state := .triggerWait } }) ∧
      (g = .now → ch ≤ 15 → 0 < n → s.carryOut (.sample ch n g target) = beganConverting fresh ch n target)) ∧
    (∀ n act low high, s.carryOut (.compare n act low high) =
      (if s.seq.last < low ∨ high < s.seq.last then counted.compareFires n act else counted).finishItem next) ∧
    (∀ what target, s.carryOut (.mark what target) = counted.writeResult target (s.markValue what)) ∧
    (∀ cond a target, s.carryOut (.branch cond a target) =
      counted.finishItem (if s.branchHolds cond a then target else next)) ∧
    (∀ target, (s.seq.slot = none → s.carryOut (.jump target) = (counted.post .pass).finishItem target) ∧
      (s.seq.slot.isSome = true → s.carryOut (.jump target) = counted.endListWith .pass)) ∧
    (∀ v target, 0x080 ≤ target → target ≤ 0x0FF → s.carryOut (.setw v target) = { counted with
      seq := { counted.seq with state := .write, inFlight := .write target }
      arbiter := { s.arbiter with seqWrite := some (target, v) } }) ∧
    (∀ v target, target < 0x080 ∨ 0x0FF < target →
      s.carryOut (.setw v target) = counted.writeFault.finishItem next)) ∧
  (∀ s : State,
    s.markValue .periodCount = BitVec.ofNat 16 s.timer.count ∧
    s.markValue .foldState = (if s.fold.folded then 1 else 0) ∧
    s.markValue .chargeA = chargeNumber s.cells.a.charge ∧ s.markValue .chargeB = chargeNumber s.cells.b.charge ∧
    s.markValue .transfer =
      (match s.transfer.state with
        | .off => 0
        | .runAB => 1
        | .runBA => 2
        | .rest => 3) ∧
    s.markValue .last = BitVec.ofInt 16 s.seq.last ∧
    s.markValue .bands = BitVec.ofNat 16 (s.bands.a.index.getD 255 * 256 + s.bands.b.index.getD 255) ∧
    s.markValue .source =
      (match s.selector.selected with
        | .none => 0
        | .wired => 1
        | .coil => 2)) ∧
  (∀ (s : State) (a : Int), let flag := s.seq.flags.getLsbD (min 7 (max 0 a)).toNat
    (s.branchHolds .lastBelow a = true ↔ s.seq.last < a) ∧ (s.branchHolds .lastAtOrAbove a = true ↔ a ≤ s.seq.last) ∧
    s.branchHolds .folded a = s.fold.folded ∧ s.branchHolds .unfolded a = !s.fold.folded ∧
    s.branchHolds .flagSet a = flag ∧ s.branchHolds .flagClear a = !flag ∧
    (s.branchHolds .sourceNone a = true ↔ s.selector.selected = .none) ∧
    (s.branchHolds .sourceNotNone a = true ↔ s.selector.selected ≠ .none))

/-- A result that is ready is requested as a write where the write window lets it pass, and is a write fault elsewhere.
A COMPARE that fires sets its flag, raises WINDOW and takes its action, and nothing else changes. -/
def Obligations.ResultsAndCompares : Prop :=
  (∀ (s : State) (target : Nat) (v : Word), s.winLo ≤ target → target < s.winHi → s.writeResult target v = { s with
    seq := { s.seq with state := .write, inFlight := .write target }
    arbiter := { s.arbiter with seqWrite := some (target, v) } }) ∧
  (∀ (s : State) (target : Nat) (v : Word), target < s.winLo ∨ s.winHi ≤ target →
    s.writeResult target v = s.writeFault.finishItem (s.seq.itemIndex + 4)) ∧
  (∀ s : State, s.seq.writeFaults ≤ 255 → s.writeFault = { s with
    seq := { s.seq with writeFaults := min 255 (s.seq.writeFaults + 1) }
    notices := { s.notices with sticky := { s.notices.sticky with writeFault := true } } }) ∧
  (∀ s : State, 0x100 ≤ s.winLo ∧ s.winLo ≤ 0x1000 ∧ 0x100 ≤ s.winHi ∧ s.winHi ≤ 0x1000) ∧
  (∀ (s : State) (n : Nat),
    let fired : State := { s with
      seq := { s.seq with flags := s.seq.flags ||| (1#8 <<< n) }
      notices := { s.notices with sticky := { s.notices.sticky with window := true } } }
    s.compareFires n .note = fired ∧
    s.compareFires n .holdA = { fired with
      cells := { s.cells with a := { s.cells.a with holds := { s.cells.a.holds with window := true } } } } ∧
    s.compareFires n .holdB = { fired with
      cells := { s.cells with b := { s.cells.b with holds := { s.cells.b.holds with window := true } } } } ∧
    s.compareFires n .stopXfer = { fired with
      transfer := match s.transfer.state with
        | .off => { s.transfer with windowStop := true }
        | .rest => { s.transfer with windowStop := true, rest := s.xrest }
        | _ => { state := .rest, current := 0, rest := s.xrest, windowStop := true, stopCause := .window } })

/-- SKIP_ITEM ends a SAMPLE or a WAIT in progress and goes on to the next item, at once or, while FROZEN, at the thaw; it
does nothing in IDLE, FETCH and WRITE. LAST, the flags and the budget count are not changed. (The state kept while FROZEN
is FETCH then: log entry 22; the discard mark is set for a conversion whose reading will be handed over: log entry 20.) -/
def Obligations.SkipItem : Prop :=
  (∀ s : State, s.port.serving = true → (s.seq.state = .triggerWait ∨ s.seq.state = .pause) →
    exec .skipItem s = .next (s.finishItem (s.seq.itemIndex + 4)).settle) ∧
  (∀ s : State, s.port.serving = true → s.seq.state = .convert →
    exec .skipItem s = .next (({ s with
      converter := { s.converter with probePending := 0 }
      seq := { s.seq with
        sum := 0
        taken := 0
        discard := s.seq.discard || s.converter.probeWillReport } } : State).finishItem (s.seq.itemIndex + 4)).settle) ∧
  (∀ s : State, s.port.serving = true → s.seq.state = .frozen →
    (s.seq.kept = .triggerWait ∨ s.seq.kept = .pause) →
    exec .skipItem s =
      .next { s with seq := { s.seq with kept := .fetch, held := some (.goOn (s.seq.itemIndex + 4)) } }) ∧
  (∀ s : State, s.port.serving = true → s.seq.state = .frozen → s.seq.kept = .convert →
    exec .skipItem s = .next { s with
      converter := { s.converter with probePending := 0 }
      seq := { s.seq with
        kept := .fetch
        held := some (.goOn (s.seq.itemIndex + 4))
        sum := 0
        taken := 0
        discard := s.seq.discard || s.converter.probeWillReport } }) ∧
  (∀ s : State, (s.seq.effective = .idle ∨ s.seq.effective = .fetch ∨ s.seq.effective = .write) →
    exec .skipItem s = .next s)

/-- SKIP_LIST abandons the running list without a post: what waits is withdrawn, and the slot's list starts or the
sequencer becomes IDLE; while FROZEN the kept state becomes IDLE (log entry 22). In IDLE it does nothing. The discard mark
is set for a conversion whose reading will be handed over (log entry 20). -/
def Obligations.SkipList : Prop :=
  (∀ s : State, s.port.serving = true → s.seq.state ≠ .idle → s.seq.state ≠ .frozen → s.seq.slot = none →
    exec .skipList s = .next ({ s with
      converter := { s.converter with probePending := 0 }
      seq := { s.seq with
        state := .idle
        current := none
        inFlight := .none
        discard := s.seq.discard || s.converter.probeWillReport }
      arbiter := { s.arbiter with
        seqFetch := none
        seqWrite := none
        awaited := s.arbiter.awaited && !s.arbiter.seqUnderWay } } : State).settle) ∧
  (∀ (s : State) (i : Nat), s.port.serving = true → s.seq.state ≠ .idle → s.seq.state ≠ .frozen →
    s.seq.slot = some i →
    exec .skipList s = .next ({ s with
      converter := { s.converter with probePending := 0 }
      seq := { s.seq with
        state := .fetch
        current := some i
        itemIndex := i
        slot := none
        budget := 0
        inFlight := .fetch i
        discard := s.seq.discard || s.converter.probeWillReport }
      arbiter := { s.arbiter with
        seqFetch := some i
        seqWrite := none
        awaited := s.arbiter.awaited && !s.arbiter.seqUnderWay } } : State).settle) ∧
  (∀ s : State, s.port.serving = true → s.seq.state = .frozen → s.seq.kept ≠ .idle → s.seq.kept ≠ .frozen →
    exec .skipList s = .next { s with
      converter := { s.converter with probePending := 0 }
      seq := { s.seq with
        kept := .idle
        current := none
        held := none
        inFlight := .none
        discard := s.seq.discard || s.converter.probeWillReport }
      arbiter := { s.arbiter with
        seqFetch := none
        seqWrite := none
        awaited := s.arbiter.awaited && !s.arbiter.seqUnderWay } }) ∧
  (∀ s : State, s.seq.effective = .idle → exec .skipList s = .next s)

/-- CLEAR_WINDOW clears the eight window flags, the WINDOW hold of both cells and the window stop, and nothing else. -/
def Obligations.ClearWindow : Prop :=
  ∀ s : State, s.port.serving = true → exec .clearWindow s = .next { s with
    seq := { s.seq with flags := 0 }
    cells := { a := { s.cells.a with holds := { s.cells.a.holds with window := false } }
               b := { s.cells.b with holds := { s.cells.b.holds with window := false } } }
    transfer := { s.transfer with windowStop := false } }

/-! ### The commands of the cells, the profile channels and the counters -/

/-- The RELEASE command of a cell. -/
def releaseOf : CellId → Instr
  | .a => .releaseA
  | .b => .releaseB

/-- RELEASE_x: of a cell that is not TRIPPED, not tripped; of a cell whose latest readings meet a trip condition,
refused; otherwise the cell is IDLE with its record emptied, and its path closes unless HEAT or ship keeps it open (or a start-up
sequence before the cell's slot: log entry 31). -/
def Obligations.Release : Prop :=
  ∀ (s : State) (c : CellId), s.port.serving = true → let x := s.cell c
    (x.charge ≠ .tripped → exec (releaseOf c) s =
      .next { s with cells := s.cells.set c { x with releaseResult := .notTripped } }) ∧
    (x.charge = .tripped → (s.tripConditionOf s.latestReadings c).isSome = true → exec (releaseOf c) s =
      .next { s with cells := s.cells.set c { x with releaseResult := .refused } }) ∧
    (x.charge = .tripped → s.tripConditionOf s.latestReadings c = none →
      exec (releaseOf c) s = .next { s with
        cells := s.cells.set c { x with
          charge := .idle
          trip := none
          releaseResult := .released
          pathOpen :=
            if s.control.state = .heat ∨ s.control.state = .ship ∨
                (s.control.state = .shipEntry ∧ openingStep c ≤ s.control.shipStep) ∨
                (s.control.startup = true ∧ s.control.shipStep < closingStep c) then x.pathOpen
            else false }
        allocator := { s.allocator with
          inFlight := s.allocator.inFlight.map fun al => { al with released := al.released.set c true } } })

/-- PROFILE_START_x of a channel. -/
def profileStartOf : CellId → Instr
  | .a => .profileStartA
  | .b => .profileStartB

/-- PROFILE_STOP_x of a channel. -/
def profileStopOf : CellId → Instr
  | .a => .profileStopA
  | .b => .profileStopB

/-- PRESET_x of a cell. -/
def presetOf : CellId → Instr
  | .a => .presetA
  | .b => .presetB

/-- PROFILE_START_x discards a fetch in flight and asks for segment 0 at PT_BASE_x, keeping the working fields; channel B
with B_MODE at 1 follows instead, and fetches nothing. -/
def Obligations.ProfileStart : Prop :=
  (∀ (s : State) (c : CellId), s.port.serving = true → (c = .a ∨ s.bMode = 0) → let x := s.channel c
    exec (profileStartOf c) s = .next ({ s with
      channels := s.channels.set c { x with
        state := .starting
        fetch := some (s.ptBase c)
        nextIndex := s.ptBase c + 6
        stagedValid := false
        endMark := false
        starvedCount := 0
        overrun := false
        ignore := x.ignore || (x.fetch.isSome && (s.arbiter.fetch.get c).isNone) }
      arbiter := { s.arbiter with fetch := s.arbiter.fetch.set c (some (s.ptBase c)) } } : State).settle) ∧
  (∀ s : State, s.port.serving = true → s.bMode = 1 → let x := s.channels.b
    exec .profileStartB s = .next { s with
      channels := { s.channels with b := { x with
        state := .following
        fetch := none
        stagedValid := false
        endMark := false
        starvedCount := 0
        overrun := false
        ignore := x.ignore || (x.fetch.isSome && s.arbiter.fetch.b.isNone) } }
      arbiter := { s.arbiter with
        fetch := { s.arbiter.fetch with b := if x.fetch.isSome then none else s.arbiter.fetch.b } } }) ∧
  (∀ (s : State) (c : CellId), 0x100 ≤ s.ptBase c ∧ s.ptBase c ≤ 0xFFA) ∧ (∀ s : State, s.bMode = 0 ∨ s.bMode = 1)

/-- PROFILE_STOP_x discards a fetch in flight and stops the channel, keeping its working fields; a stop of a channel
already STOPPED changes nothing. -/
def Obligations.ProfileStop : Prop :=
  (∀ (s : State) (c : CellId), s.port.serving = true → (s.channel c).state ≠ .stopped → let x := s.channel c
    exec (profileStopOf c) s = .next { s with
      channels := s.channels.set c { x with
        state := .stopped
        fetch := none
        stagedValid := false
        endMark := false
        ignore := x.ignore || (x.fetch.isSome && (s.arbiter.fetch.get c).isNone) }
      arbiter := { s.arbiter with
        fetch := s.arbiter.fetch.set c (if x.fetch.isSome then none else s.arbiter.fetch.get c) } }) ∧
  (∀ (s : State) (c : CellId), (s.channel c).state = .stopped → exec (profileStopOf c) s = .next s)

/-- PRESET_x appends its entry to the gauge list, and GAUGE waits; with an entry of the same name in the list and none of
the same cell after it, the request is merged. -/
def Obligations.PresetAppendsEntry : Prop :=
  ∀ (s : State) (c : CellId), s.port.serving = true →
    ((s.gauge.filter (GaugeEntry.concerns c)).getLast? ≠ some (.preset c) →
      exec (presetOf c) s = .next ({ s with
        gauge := s.gauge ++ [.preset c]
        arbiter := { s.arbiter with
          gauge := !(s.arbiter.gaugeUnderWay && s.arbiter.awaited) } } : State).settle) ∧
    ((s.gauge.filter (GaugeEntry.concerns c)).getLast? = some (.preset c) → exec (presetOf c) s = .next s)

/-! ### Events at the cells and the inputs -/

/-- A fast comparator event on a TRIPPED cell only counts. On any other it trips the cell: the path opens and applies 0, an
empty record is written from the latest scan with the count at the event, TRIP_x is raised, and a running transfer goes
to REST. -/
def Obligations.FastComparatorTrips : Prop :=
  ∀ (s : State) (e : FastCondition), let c := comparatorCell e; let x := s.cell c
    (s.control.fastArmed = true → x.charge = .tripped → x.tripCount ≤ 255 → exec (.fastComparatorEvent e) s =
      .next { s with cells := s.cells.set c { x with tripCount := min 255 (x.tripCount + 1) } }) ∧
    (s.control.fastArmed = true → x.charge ≠ .tripped → x.tripCount ≤ 255 →
      exec (.fastComparatorEvent e) s = .next { s with
        cells := s.cells.set c { x with
          charge := .tripped
          pathOpen := true
          setPoint := 0
          termCount := 0
          trip := some (x.trip.getD
            { cause := comparatorCause e, detection := .fast, vpin := s.latestReadings.vpin c,
              current := s.latestReadings.current c, temperature := s.latestReadings.temperature c,
              periodCount := s.timer.count })
          tripCount := min 255 (x.tripCount + 1) }
        notices := { s.notices with sticky := s.notices.sticky.set (tripCauseOf c) true }
        transfer := match s.transfer.state with
          | .off => s.transfer
          | .rest => { s.transfer with rest := s.xrest }
          | _ => { s.transfer with state := .rest, current := 0, rest := s.xrest, stopCause := .cell } })

/-- The other input. -/
def otherInput : Input → Input
  | .wired => .coil
  | .coil => .wired

/-- The collapse of an input resets its detection record, with SOURCE when it was ATTACHED, and a selection follows. With no
changeover in progress: the loss of an input that is not selected changes no selection; the collapse of the selected input
loses the source, to NONE or by a changeover to the other input when that is ATTACHED, and charge set-points become 0 at
once while supply set-points stand. In a changeover, also where the input is DETACHED already, the other input becomes the target when
it is ATTACHED, and the changeover is cancelled otherwise. -/
def Obligations.InputCollapse : Prop :=
  (∀ (s : State) (i : Input), (s.selector.detection i).state = .settling → s.selector.phase = .none →
    (s.selector.selected = .none → (s.selector.detection (otherInput i)).state ≠ .attached) →
    (s.selector.selected ≠ .none → s.selector.selected = sourceOf (otherInput i) ∧
      (s.selector.detection (otherInput i)).state = .attached) →
    exec (.inputCollapseEvent i) s = .next (s.setDetection i { state := .detached, settle := 0 })) ∧
  (∀ (s : State) (i : Input), (s.selector.detection i).state = .attached → s.selector.phase = .none →
    s.selector.selected = sourceOf (otherInput i) → (s.selector.detection (otherInput i)).state = .attached →
    exec (.inputCollapseEvent i) s = .next { s.setDetection i { state := .detached, settle := 0 } with
      notices := { s.notices with sticky := { s.notices.sticky with source := true } } }) ∧
  (∀ (s : State) (i : Input), (s.selector.detection i).state = .attached → s.selector.selected = sourceOf i →
    s.selector.phase = .none →
    let turns := decide ((s.selector.detection (otherInput i)).state = .attached)
    exec (.inputCollapseEvent i) s = .next { s with
      selector := { (s.setDetection i { state := .detached, settle := 0 }).selector with
        selected := .none
        phase := if turns then .wait else .none
        target := if turns then some (otherInput i) else s.selector.target }
      notices := { s.notices with sticky := { s.notices.sticky with source := true } }
      cells := { a := { s.cells.a with setPoint := min 0 s.cells.a.setPoint }
                 b := { s.cells.b with setPoint := min 0 s.cells.b.setPoint } }
      allocator := { s.allocator with
        inFlight := s.allocator.inFlight.map fun al => { al with sourceLost := true } } }) ∧
  (∀ (s : State) (i : Input), (s.selector.detection i).state ≠ .detached → s.selector.phase ≠ .none →
    let turns := decide ((s.selector.detection (otherInput i)).state = .attached)
    exec (.inputCollapseEvent i) s = .next { s with
      selector := { (s.setDetection i { state := .detached, settle := 0 }).selector with
        phase := if turns then s.selector.phase else .none
        target := if turns then some (otherInput i) else none }
      notices := { s.notices with sticky := { s.notices.sticky with
        source := s.notices.sticky.source || decide ((s.selector.detection i).state = .attached) } } }) ∧
  (∀ (s : State) (i : Input), (s.selector.detection i).state = .detached → s.selector.phase ≠ .none →
    let turns := decide ((s.selector.detection (otherInput i)).state = .attached)
    exec (.inputCollapseEvent i) s = .next { s with
      selector := { s.selector with
        phase := if turns then s.selector.phase else .none
        target := if turns then some (otherInput i) else none } }) ∧
  (∀ (s : State) (i : Input), (s.selector.detection i).state = .detached → s.selector.phase = .none →
    s.wantedSource.map sourceOf = (if s.selector.selected = .none then none else some s.selector.selected) →
    exec (.inputCollapseEvent i) s = .next s)

/-! ### Periods, conversions and scans -/

/-- A period counted, and a scan opened or the expiry counted as late (R21, R22, R24, R25). -/
def periodCounted (s : State) : State :=
  let count := (s.timer.count + 1) % 65536
  let length : PeriodLength := if s.control.state = .quiet then .ms32 else .ms4
  { s with
    timer := { s.timer with count := count, length := length }
    converter := match s.converter.scan with
      | none => { s.converter with
          scan := some { periodCount := count, length := length, next := 0, readings := Readings.zero }
          scanPending := 14 }
      | some _ => { s.converter with lateCount := saturatingSucc 65535 s.converter.lateCount } }

/-- A period expiry counts the period, fixes the length of the next by the part state, opens a scan or counts itself as
late, and is handed on to the sequencer: a WAIT counts down, and goes on to the next item at 0, and a SAMPLE that waits for
PERIOD begins converting. Nothing else changes. -/
def Obligations.PeriodExpiry : Prop :=
  (∀ s : State, s.timer.running = true →
    (s.seq.state = .idle ∨ s.seq.state = .fetch ∨ s.seq.state = .convert ∨ s.seq.state = .write ∨
      s.seq.state = .frozen) → exec .periodExpiry s = .next (periodCounted s).settle) ∧
  (∀ s : State, s.timer.running = true → s.seq.state = .pause → 1 < s.seq.waitCount →
    exec .periodExpiry s = .next ({ periodCounted s with
      seq := { s.seq with waitCount := s.seq.waitCount - 1 } } : State).settle) ∧
  (∀ s : State, s.timer.running = true → s.seq.state = .pause → s.seq.waitCount ≤ 1 →
    exec .periodExpiry s = .next (({ periodCounted s with seq := { s.seq with waitCount := 0 } } : State).finishItem
      (s.seq.itemIndex + 4)).settle) ∧
  (∀ s : State, s.timer.running = true → s.seq.state = .triggerWait →
    ∃ t, TriggerTaken .period (periodCounted s) t ∧ exec .periodExpiry s = .next t.settle)

/-- WAIT_EXPIRY is the period expiry that ends a WAIT, and REST_EXPIRY the allocation completion that ends a REST, each
whole; where none would end there, nothing changes (log entries 3 and 17: the model's reading of the two rows). -/
def Obligations.WaitsAndRestsEnd : Prop :=
  (∀ s : State, s.timer.running = true → s.seq.state = .pause → s.seq.waitCount ≤ 1 →
    exec .waitExpiry s = exec .periodExpiry s ∧
    exec .waitExpiry s = .next (({ periodCounted s with seq := { s.seq with waitCount := 0 } } : State).finishItem
      (s.seq.itemIndex + 4)).settle) ∧
  (∀ s : State, s.timer.running = false ∨ s.seq.state ≠ .pause ∨ 1 < s.seq.waitCount → exec .waitExpiry s = .next s) ∧
  (∀ s : State, s.allocationReady = true → s.transfer.state = .rest → s.transfer.rest ≤ 1 →
    ∃ e : State, exec .restExpiry s = .next e.settle ∧ exec .allocationCompletion s = .next e.settle ∧
      e.transfer = { s.transfer with state := .off, current := 0, rest := 0 }) ∧
  (∀ s : State, s.allocationReady = false ∨ s.transfer.state ≠ .rest ∨ 1 < s.transfer.rest →
    exec .restExpiry s = .next s)

/-- Each channel of the converter has a reading of its own in the record (2.3): 0 and 1 Vpin, 2 and 3 I, 4 and 5 T of the
cells, 6 V_WIRED, 7 V_COIL, 8 I_IN, 9 VSYS, 10 I_SYS, 11 T_DIE, 12 I_XFER, 13 T_HINGE. -/
def ChannelsAreStored : Prop :=
  (∀ (r : Readings) (v : Int), (List.range 14).map (fun ch => r.store ch v) =
    [{ r with vpinA := v }, { r with vpinB := v }, { r with iA := v }, { r with iB := v }, { r with tA := v },
     { r with tB := v }, { r with vWired := v }, { r with vCoil := v }, { r with iIn := v }, { r with vSys := v },
     { r with iSys := v }, { r with tDie := v }, { r with iXfer := v }, { r with tHinge := v }]) ∧
  (∀ r : Readings, r.vpin .a = r.vpinA ∧ r.vpin .b = r.vpinB ∧ r.current .a = r.iA ∧ r.current .b = r.iB ∧
    r.temperature .a = r.tA ∧ r.temperature .b = r.tB)

/-- A scan conversion but the last stores its reading, saturated to the range of its channel, in the place of its channel,
and the next channel becomes the scan's pending conversion. -/
def Obligations.ScanConversionStores : Prop :=
  ChannelsAreStored ∧
  (∀ (s : State) (r : ScanRecord) (v : Int) (b : Bool), s.converter.inFlight = .scan → s.converter.scan = some r →
    r.next < 13 →
    exec (.scanConversionCompletion (.level v) b) s = .next ({ s with
      converter := { s.converter with
        inFlight := .none
        scan := some { r with
          next := r.next + 1
          readings := r.readings.store r.next
            (min (channelRange r.next).2 (max (channelRange r.next).1 v)) } } } : State).settle) ∧
  (∀ (s : State) (r : ScanRecord) (b : Bool), s.converter.inFlight = .scan → s.converter.scan = some r →
    (r.next = 4 ∨ r.next = 5) →
    exec (.scanConversionCompletion .thermistorOpen b) s = .next ({ s with
      converter := { s.converter with
        inFlight := .none
        scan := some { r with next := r.next + 1, readings := r.readings.store r.next (-40) } } } : State).settle ∧
    exec (.scanConversionCompletion .thermistorShorted b) s = .next ({ s with
      converter := { s.converter with
        inFlight := .none
        scan := some { r with next := r.next + 1, readings := r.readings.store r.next 125 } } } : State).settle) ∧
  (List.range 14).map channelRange =
    [(0, 5000), (0, 5000), (-8000, 8000), (-8000, 8000), (-40, 125), (-40, 125), (0, 22000), (0, 22000), (0, 6000),
     (0, 5000), (0, 10000), (-40, 150), (0, 3000), (-40, 125)]

/-- What channel 13, a thermistor, reads (R28). -/
def hingeReading : Analog → Int
  | .level v => min 125 (max (-40) v)
  | .thermistorOpen => -40
  | .thermistorShorted => 125

/-- The scan record that a conversion of channel 13 completes. -/
def lastRecord (r : ScanRecord) (x : Analog) : ScanRecord :=
  { r with readings := r.readings.store 13 (hingeReading x) }

/-- The reading of an input's pin. -/
def pinReading (r : Readings) : Input → Int
  | .wired => r.vWired
  | .coil => r.vCoil

/-- The detection records after a scan (R126), with SOURCE at an attach. -/
def DetectionFollows (s e : State) (r : Readings) : Prop :=
  ∀ i, let d := s.selector.detection i; let good := 4300 ≤ pinReading r i
    (d.state = .attached → e.selector.detection i = d) ∧
    (d.state = .detached → ¬ good → e.selector.detection i = d) ∧
    (d.state = .detached → good → e.selector.detection i = { state := .settling, settle := 1 }) ∧
    (d.state = .settling → ¬ good → e.selector.detection i = { state := .detached, settle := 0 }) ∧
    (d.state = .settling → good → d.settle < 2 → e.selector.detection i = { d with settle := d.settle + 1 }) ∧
    (d.state = .settling → good → 2 ≤ d.settle →
      e.selector.detection i = { state := .attached, settle := 0 } ∧ e.notices.sticky.source = true)

/-- The wanted source (R128). -/
def wantedBy (s : State) (x : Selector) : Option Input :=
  if x.wired.state = .attached ∧ (x.coil.state ≠ .attached ∨ s.srcPrio = 0) then some .wired
  else if x.coil.state = .attached then some .coil
  else none

/-- The selection of a scan completion (R129 to R134), on the detection records it leaves: a source selected from NONE, the
selected source lost, a changeover begun, retargeted, cancelled, moved on or ended. At a loss a positive set-point becomes
0 and a supply set-point stands (R8, R133), but of a cell that the same scan trips or finds ABSENT, or opens by HEAT. -/
def SelectionMade (s e : State) : Prop :=
  let begins := s.allocator.inFlight.isNone
  let wanted := wantedBy s e.selector
  let old := s.selector
  let new := e.selector
  let zeroed := fun c => (e.cell c).charge ≠ (s.cell c).charge ∨ (s.control.state ≠ .heat ∧ e.control.state = .heat)
  let lost := e.notices.sticky.source = true ∧
    ∀ c, (e.cell c).setPoint = if zeroed c then 0 else min 0 (s.cell c).setPoint
  (old.phase = .none → old.selected = .none → wanted = none →
    new.selected = .none ∧ new.phase = .none ∧ new.target = old.target) ∧
  (old.phase = .none → old.selected = .none → ∀ i, wanted = some i →
    new.selected = sourceOf i ∧ new.phase = .none ∧ new.target = old.target ∧ e.notices.sticky.source = true ∧
    e.transfer.state ≠ .runAB ∧ e.transfer.state ≠ .runBA) ∧
  (old.phase = .none → old.selected ≠ .none → wanted = none →
    new.selected = .none ∧ new.phase = .none ∧ new.target = old.target ∧ lost) ∧
  (old.phase = .none → ∀ i, wanted = some i → old.selected = sourceOf i →
    new.selected = old.selected ∧ new.phase = .none ∧ new.target = old.target) ∧
  (old.phase = .none → old.selected ≠ .none → ∀ i, wanted = some i → old.selected ≠ sourceOf i →
    new.selected = .none ∧ new.phase = (if begins then .held else .wait) ∧ new.target = some i ∧ lost) ∧
  (old.phase ≠ .none → wanted = none → new.selected = old.selected ∧ new.phase = .none ∧ new.target = none) ∧
  (old.phase ≠ .none → ∀ i, wanted = some i →
    (old.phase = .wait → begins = true →
      new.selected = old.selected ∧ new.phase = .held ∧ new.target = some i) ∧
    (old.phase = .done → begins = true →
      new.selected = sourceOf i ∧ new.phase = .none ∧ new.target = none ∧ e.notices.sticky.source = true) ∧
    (begins = false ∨ old.phase = .held →
      new.selected = old.selected ∧ new.phase = old.phase ∧ new.target = some i))

/-- The contract in use, and the wired contract last used, of an allocation that begins (R135, R136). -/
def ContractFormed (s e : State) : Prop :=
  let begins := s.allocator.inFlight.isNone
  let old := s.selector
  let new := e.selector
  (begins = false → new.contract = old.contract ∧ new.lastPair = old.lastPair) ∧
  (begins = true → new.selected = .none →
    new.contract = { source := .none, pair := .w0, vC := 0, iC := 0 } ∧ new.lastPair = old.lastPair) ∧
  (begins = true → new.selected = .coil →
    new.contract = { old.contract with source := .coil, pair := .w0 } ∧ new.lastPair = old.lastPair) ∧
  (begins = true → new.selected = .wired →
    new.contract = { old.contract with source := .wired, pair := s.wsel } ∧ new.lastPair = s.wsel ∧
    (s.wsel ≠ old.lastPair → e.notices.sticky.source = true))

/-- The notices of a scan completion, but for TRIP_x, HEAT, BAND and those of the sequencer (R12, R126, R129, R130, R134,
R136): FOLD is raised at a fold change; SOURCE where an input attaches, where the selected source becomes another, at the
end of a changeover, and at the first use of another wired contract; nothing else of these changes. -/
def NoticesAtScan (s e : State) : Prop :=
  let begins := s.allocator.inFlight = none
  let old := s.notices.sticky
  let new := e.notices.sticky
  let wanted := wantedBy s e.selector
  e.notices.mask = s.notices.mask ∧ new.shortfall = old.shortfall ∧ new.starveA = old.starveA ∧
  new.starveB = old.starveB ∧ new.fullA = old.fullA ∧ new.fullB = old.fullB ∧
  (new.fold = true ↔ old.fold = true ∨ (s.fold.firstScan = false ∧ e.fold.folded ≠ s.fold.folded)) ∧
  (new.source = true ↔ old.source = true ∨
    (∃ i, (s.selector.detection i).state ≠ .attached ∧ (e.selector.detection i).state = .attached) ∨
    (s.selector.phase = .none ∧ s.selector.selected ≠ (wanted.map sourceOf).getD .none) ∨
    (s.selector.phase = .done ∧ begins ∧ wanted.isSome = true) ∨
    (begins ∧ e.selector.selected = .wired ∧ s.wsel ≠ s.selector.lastPair))

/-- The FOLD trigger of a fold change (R11, R147), which finds the cell voltages of the scan; with no fold change the
sequencer stands, and with it what it asks for and the notices it raises. -/
def FoldTriggerHandedOn (s e : State) : Prop :=
  let before : State := { e with
    seq := s.seq
    converter := { e.converter with
      probePending := s.converter.probePending, probeChannel := s.converter.probeChannel }
    arbiter := { e.arbiter with seqFetch := s.arbiter.seqFetch, seqWrite := s.arbiter.seqWrite }
    notices := { e.notices with sticky := { e.notices.sticky with
      window := s.notices.sticky.window, writeFault := s.notices.sticky.writeFault
      listBad := s.notices.sticky.listBad } } }
  let standsAs := fun (t : State) =>
    e.seq = t.seq ∧ e.converter = t.converter ∧ e.arbiter = t.arbiter ∧ e.notices = t.notices
  (s.fold.firstScan = false → e.fold.folded ≠ s.fold.folded → ∃ t, TriggerTaken .fold before t ∧ standsAs t) ∧
  (s.fold.firstScan = true ∨ e.fold.folded = s.fold.folded → standsAs before)

/-- The conversion of channel 13 completes the scan: the record becomes the latest completed scan, the fold monitor takes
its sample, with a FOLD trigger at a fold change, each cell's voltage is compensated, an INTEGRATE is appended and GAUGE
waits, the detection records follow their pins and a selection is made on them, and an allocation begins on the contract
of the source then selected, with the snapshot of the scan's VSYS, I_SYS and pin voltages, of what the blocks leave and of
the charge policy, or the scan is skipped by one in flight. What these, O43 and O45 do not name stands. (The order of a
FOLD trigger and an exit from HEAT is left open: log entry 12; V_c and I_c of the contract follow later: log entry 35;
the pair without a wired contract is W0: log entry 47; the model's free counter: log entry 38.) -/
def Obligations.ScanCompletes : Prop :=
  ∀ (s : State) (r : ScanRecord) (v : Analog) (b : Bool), s.converter.inFlight = .scan → s.converter.scan = some r →
    r.next = 13 → let rec_ := lastRecord r v
    ∃ e : State, exec (.scanConversionCompletion v b) s = .next e.settle ∧
      e.converter = { s.converter with
        scan := none, latest := some rec_, inFlight := .none
        probePending := e.converter.probePending, probeChannel := e.converter.probeChannel } ∧
      e.timer = s.timer ∧ e.mem = s.mem ∧ e.channels = s.channels ∧ e.port = s.port ∧ e.refresh = s.refresh ∧
      e.pending = s.pending ∧ e.freeCounter = s.freeCounter + 1 ∧
      e.arbiter = { s.arbiter with
        gauge := !(s.arbiter.gaugeUnderWay && s.arbiter.awaited)
        seqFetch := e.arbiter.seqFetch, seqWrite := e.arbiter.seqWrite } ∧
      (s.fold.firstScan = true → e.fold = { folded := b, count := 0, firstScan := false, line := b }) ∧
      (s.fold.firstScan = false → s.fold.folded = b → e.fold = { s.fold with count := 0, line := b }) ∧
      (s.fold.firstScan = false → s.fold.folded ≠ b → s.foldDeb ≤ s.fold.count + 1 →
        e.fold = { s.fold with folded := b, count := 0, line := b } ∧ e.notices.sticky.fold = true) ∧
      (s.fold.firstScan = false → s.fold.folded ≠ b → s.fold.count + 1 < s.foldDeb →
        e.fold = { s.fold with count := s.fold.count + 1, line := b }) ∧
      DetectionFollows s e rec_.readings ∧ SelectionMade s e ∧ ContractFormed s e ∧ NoticesAtScan s e ∧
      (¬ (s.control.state = .heat ∧ rec_.readings.tDie ≤ 115) → FoldTriggerHandedOn s e) ∧
      (∀ c, let ohms : Nat := match c with
          | .a => s.rA
          | .b => if e.fold.folded then s.rBFold else s.rBOpen
        ((e.cell c).vcell : Int) =
          min 5000 (max 0 (rec_.readings.vpin c - (rec_.readings.current c * (ohms : Int)).tdiv 1000))) ∧
      e.gauge = s.gauge ++ [.integrate rec_.readings.iA rec_.readings.iB
        (match r.length with
          | .ms4 => 4
          | .ms32 => 32)
        (!s.cells.a.emptyLatch && decide (rec_.readings.iA < 0) && decide (e.cells.a.vcell ≤ s.vempty))
        (!s.cells.b.emptyLatch && decide (rec_.readings.iB < 0) && decide (e.cells.b.vcell ≤ s.vempty))] ∧
      (∀ c, (e.cell c).emptyLatch =
        if (s.cell c).emptyLatch then decide ((e.cell c).vcell ≤ s.vempty + 100)
        else decide (rec_.readings.current c < 0) && decide ((e.cell c).vcell ≤ s.vempty)) ∧
      (s.allocator.inFlight = none → ∃ al, e.allocator = { s.allocator with inFlight := some al } ∧
        al = { snap := al.snap, integratesAhead := (e.gauge.filter GaugeEntry.isIntegrate).length
               budget := none, capacity := none, ceilings := none, chargeSplit := none, supplySplit := none
               counter := none, becameAbsent := { a := false, b := false }, released := { a := false, b := false }
               sourceLost := false } ∧
        al.snap.source = e.selector.selected ∧ al.snap.pair = e.selector.contract.pair ∧
        al.snap.part = e.control.state ∧ al.snap.dieWarning = e.control.dieWarning ∧
        al.snap.vSys = rec_.readings.vSys.toNat ∧ al.snap.iSys = rec_.readings.iSys.toNat ∧
        al.snap.chargeReduced = decide (e.control.state = .quiet ∧ s.readWord 0x0B0 = 0) ∧
        ∀ c, (al.snap.cells.get c).charge = (e.cell c).charge ∧ (al.snap.cells.get c).holds = (e.cell c).holds ∧
          (al.snap.cells.get c).vpin = (rec_.readings.vpin c).toNat ∧
          (al.snap.cells.get c).vcell = (e.cell c).vcell ∧ (al.snap.cells.get c).band = e.bands.get c ∧
          (al.snap.cells.get c).tp = (e.cell c).tp ∧ (al.snap.cells.get c).termCount = (e.cell c).termCount ∧
          (al.snap.cells.get c).renewal = (e.cell c).renewal) ∧
      (∀ al, s.allocator.inFlight = some al → ∃ w, e.allocator = { s.allocator with
          inFlight := some w, skipped := saturatingSucc 255 s.allocator.skipped } ∧
        w = { al with
          becameAbsent := w.becameAbsent
          sourceLost := al.sourceLost || decide (s.selector.selected ≠ .none ∧ e.selector.selected = .none) })

/-- The transfer converter at a scan completion that takes s to e (R3, R17, R119, R121): where a cell trips or becomes
ABSENT, or a source is selected, a run goes to REST with XREST, a REST begins anew and OFF stands; an entry to HEAT forces
it OFF and an exit from HEAT to REST (a COMPARE held until the thaw may set the window stop then); and where none of these
falls, as for a cell that is ABSENT already (log entry 41), it stands. Of several causes for which a run stops the one
written is open (log entry 11). -/
def TransferAtScan (s e : State) : Prop :=
  let enters := s.control.state ≠ .heat ∧ e.control.state = .heat
  let exits := s.control.state = .heat ∧ e.control.state ≠ .heat
  let cellStops := (e.cell .a).charge ≠ (s.cell .a).charge ∨ (e.cell .b).charge ≠ (s.cell .b).charge
  let selects := (wantedBy s e.selector).isSome ∧ (s.selector.phase = .none ∧ s.selector.selected = .none ∨
    s.selector.phase = .done ∧ s.allocator.inFlight = none)
  let runs := s.transfer.state = .runAB ∨ s.transfer.state = .runBA
  let cause := e.transfer.stopCause
  (enters → e.transfer = { s.transfer with state := .off, current := 0, rest := 0, stopCause := cause }) ∧
  (exits → e.transfer = { s.transfer with
    state := .rest, current := 0, rest := s.xrest, stopCause := cause, windowStop := e.transfer.windowStop }) ∧
  (¬ enters → ¬ exits → ¬ cellStops → ¬ selects → e.transfer = s.transfer) ∧
  (¬ enters → ¬ exits → cellStops ∨ selects →
    (runs → e.transfer = { s.transfer with state := .rest, current := 0, rest := s.xrest, stopCause := cause }) ∧
    (s.transfer.state = .rest → e.transfer = { s.transfer with rest := s.xrest }) ∧
    (s.transfer.state = .off → e.transfer = s.transfer)) ∧
  (¬ exits → runs → cellStops ∨ selects ∨ enters →
    (cellStops ∧ cause = .cell) ∨ (selects ∧ cause = .source) ∨ (enters ∧ cause = .heat)) ∧
  (¬ runs → cause = s.transfer.stopCause)

/-- At a scan completion in every part state: a TRIPPED cell stays so; another trips on the first condition of R14 it
meets, OV before OCC, OCD, OT and HINGE, with its path open and 0 applied; one that meets none and reads below 1500 mV is
ABSENT, and the allocation in flight is told of one that was not before (log entry 41). In each case Tp stands, and the hold
reasons but for what the bands and HEAT do with them. The applied set-point and the termination count of a cell that
neither trips nor becomes ABSENT stand, but for a set-point 0 at an entry to HEAT and a positive one that becomes 0 at a
loss of the selected source (R6, R7, R8, R133); TRIP_x is raised by a trip alone. The transfer converter goes to REST at a trip and at an absence, and
the comparators take the levels of R14 from the settings as they stand (log entry 16). -/
def Obligations.ScanTripsAndAbsence : Prop :=
  ∀ (s : State) (r : ScanRecord) (v : Analog) (b : Bool), s.converter.inFlight = .scan →
    s.converter.scan = some r → r.next = 13 →
    let rec_ := lastRecord r v
    ∃ e : State, exec (.scanConversionCompletion v b) s = .next e.settle ∧ TransferAtScan s e ∧ ∀ c : CellId,
      let x := s.cell c
      let y := e.cell c
      let becomesAbsent := x.charge ≠ .tripped ∧ x.charge ≠ .absent ∧ s.tripConditionOf rec_.readings c = none ∧
        rec_.readings.vpin c < 1500
      let trips := x.charge ≠ .tripped ∧ (s.tripConditionOf rec_.readings c).isSome = true
      let enters := s.control.state ≠ .heat ∧ e.control.state = .heat
      let lost := s.selector.selected ≠ .none ∧ e.selector.selected = .none
      y.setPoint = (if trips ∨ becomesAbsent ∨ enters then 0 else if lost then min 0 x.setPoint else x.setPoint) ∧
      y.termCount = (if trips ∨ becomesAbsent then 0 else x.termCount) ∧
      e.notices.sticky.get (tripCauseOf c) = (s.notices.sticky.get (tripCauseOf c) || decide trips) ∧
      y.thresholds = { ov := s.vov, occ := s.imaxChg c + s.imaxChg c / 4, ocd := s.imaxDis c + s.imaxDis c / 4
                       ot := s.ttrip, hinge := s.iHingeMax + s.iHingeMax / 4 } ∧
      y.tp = x.tp ∧ y.releaseResult = x.releaseResult ∧
      (s.control.state ≠ .heat ∨ e.control.state = .heat →
        y.holds.window = x.holds.window ∧ y.holds.quiet = x.holds.quiet ∧
        (s.control.state = e.control.state → y.holds.heat = x.holds.heat)) ∧
      (x.charge = .tripped → y.charge = .tripped ∧ y.trip = x.trip ∧ y.tripCount = x.tripCount) ∧
      (∀ cause, x.charge ≠ .tripped → s.tripConditionOf rec_.readings c = some cause →
        y.charge = .tripped ∧ y.pathOpen = true ∧ y.setPoint = 0 ∧
        y.termCount = 0 ∧ y.tripCount = saturatingSucc 255 x.tripCount ∧
        y.trip = some (x.trip.getD (tripRecordOf rec_.readings c cause .scan r.periodCount)) ∧
        e.notices.sticky.get (tripCauseOf c) = true ∧
        (e.transfer.state = .off ∨ e.transfer.state = .rest)) ∧
      (x.charge ≠ .tripped → s.tripConditionOf rec_.readings c = none →
        y.trip = x.trip ∧ y.tripCount = x.tripCount ∧
        (rec_.readings.vpin c < 1500 → y.charge = .absent) ∧ (1500 ≤ rec_.readings.vpin c → y.charge = x.charge)) ∧
      (becomesAbsent → y.setPoint = 0 ∧ y.termCount = 0) ∧
      (∀ al, s.allocator.inFlight = some al → ∃ al', e.allocator.inFlight = some al' ∧
        (becomesAbsent → al'.becameAbsent.get c = true) ∧
        (¬ becomesAbsent → al'.becameAbsent.get c = al.becameAbsent.get c))

/-- The trip conditions of R14 in the order of R16. -/
def Obligations.TripConditions : Prop :=
  ∀ (s : State) (r : Readings) (c : CellId),
    let ov := (s.vov : Int) < r.vpin c
    let occ := ((s.imaxChg c + s.imaxChg c / 4 : Nat) : Int) < r.current c
    let ocd := ((s.imaxDis c + s.imaxDis c / 4 : Nat) : Int) < - r.current c
    let ot := (s.ttrip : Int) ≤ r.temperature c
    let hinge := c = .b ∧ s.iHingeMax + s.iHingeMax / 4 < (r.current c).natAbs
    (s.tripConditionOf r c = some .ov ↔ ov) ∧ (s.tripConditionOf r c = some .occ ↔ ¬ ov ∧ occ) ∧
    (s.tripConditionOf r c = some .ocd ↔ ¬ ov ∧ ¬ occ ∧ ocd) ∧
    (s.tripConditionOf r c = some .ot ↔ ¬ ov ∧ ¬ occ ∧ ¬ ocd ∧ ot) ∧
    (s.tripConditionOf r c = some .hinge ↔ ¬ ov ∧ ¬ occ ∧ ¬ ocd ∧ ¬ ot ∧ hinge)

/-- The thaw of an exit from HEAT to RUN (R161, R183, R184): the held step finds the state that the exit leaves, with
the band indices of before the lookup (the model's order: log entry 12). -/
def ThawedAtExit (s e : State) : Prop :=
  let windowOf := fun (x y : CellPath) => { x with holds := { x.holds with window := y.holds.window } }
  let before : State := { e with
    seq := s.seq
    bands := s.bands
    cells := { a := windowOf e.cells.a s.cells.a, b := windowOf e.cells.b s.cells.b }
    transfer := { e.transfer with windowStop := s.transfer.windowStop }
    converter := { e.converter with
      probePending := s.converter.probePending, probeChannel := s.converter.probeChannel }
    arbiter := { e.arbiter with seqFetch := s.arbiter.seqFetch, seqWrite := s.arbiter.seqWrite }
    notices := { e.notices with sticky := { e.notices.sticky with
      window := s.notices.sticky.window, writeFault := s.notices.sticky.writeFault
      listBad := s.notices.sticky.listBad } } }
  ∃ t, ThawsTo before t ∧ e.seq = t.seq ∧ e.converter = t.converter ∧ e.arbiter = t.arbiter ∧
    e.transfer = t.transfer ∧ e.notices = t.notices ∧ e.cells = t.cells

/-- Whatever the sequencer's own state becomes, it asks for nothing, raises no notice and acts on no window. -/
def SequencerStandsBut (s e : State) : Prop :=
  e.converter.probePending = s.converter.probePending ∧ e.converter.probeChannel = s.converter.probeChannel ∧
  e.arbiter.seqFetch = s.arbiter.seqFetch ∧ e.arbiter.seqWrite = s.arbiter.seqWrite ∧
  e.notices.sticky.window = s.notices.sticky.window ∧ e.notices.sticky.writeFault = s.notices.sticky.writeFault ∧
  e.notices.sticky.listBad = s.notices.sticky.listBad ∧ e.transfer.windowStop = s.transfer.windowStop ∧
  ∀ c, (e.cell c).holds.window = (s.cell c).holds.window

/-- At a scan completion the die warning follows HOTSEL; each cell takes its band by R53, with the table entry's copies,
the BAND hold by the C flag, and BAND raised at a change from one band to another. At 135 °C or above in RUN or QUIET with
the start-up mark clear the part enters HEAT. In HEAT it stays above 115 °C; at or below it the paths close, the HEAT
holds are cleared, the transfer rests, and the part is in RUN, by a wake from a QUIET that still stands, or in QUIET with
QREQ high. (A wake returns the band indices to none before the lookup: log entry 15. The kept state stands after the thaw:
log entry 48; a held item is counted by the budget then: log entry 22. What the exit leaves of the sequencer is said where no fold change falls, since with one
the order of the trigger and the exit is open: log entry 12.) -/
def Obligations.ScanBandsAndHeat : Prop :=
  (∀ s : State, s.uppers = (List.range 8).map fun i => min 150 (max (-40) (s.readWord (0x0C0 + 4 * i)).toInt)) ∧
  (∀ (s : State) (r : ScanRecord) (v : Analog) (b : Bool), s.converter.inFlight = .scan → s.converter.scan = some r →
    r.next = 13 → let rec_ := lastRecord r v
    let tDie := rec_.readings.tDie
    let entry := (s.control.state = .run ∨ s.control.state = .quiet) ∧ s.control.startup = false ∧ 135 ≤ tDie
    let exit_ := s.control.state = .heat ∧ tDie ≤ 115
    let fresh := exit_ ∧ s.control.qreq = false ∧ s.wakeFresh = 1 ∧
      (s.cells.a.holds.quiet = true ∨ s.cells.b.holds.quiet = true ∨ s.seq.state = .frozen)
    let held := fun c => if fresh then none else (s.bands.get c).index
    ∃ e : State, exec (.scanConversionCompletion v b) s = .next e.settle ∧
      e.control = { s.control with
        state := if entry then .heat else if exit_ then (if s.control.qreq then .quiet else .run) else s.control.state
        dieWarning := if s.control.dieWarning then decide (90 + 10 * (s.hotSel : Int) - 5 < tDie)
          else decide (90 + 10 * (s.hotSel : Int) ≤ tDie) } ∧
      (∀ c, let y := e.bands.get c
        y.teff = rec_.readings.temperature c + (if e.fold.folded then (s.foldTOff : Int) else 0) ∧
        y.index = some (nextBand s.uppers (held c) y.teff) ∧
        (∀ i, y.index = some i →
          y.derate = min 256 (s.readWord (0x0C0 + 4 * i + 1)).toNat ∧
          y.vcapDrop = min 400 (s.readWord (0x0C0 + 4 * i + 2)).toNat ∧
          (let w := s.readWord (0x0C0 + 4 * i + 3);
            y.allow = { c := w.getLsbD 0, s := w.getLsbD 1, i := w.getLsbD 2, o := w.getLsbD 3 })) ∧
        (e.cell c).holds.band = !y.allow.c ∧
        (∀ i, held c = some i → y.index ≠ some i → e.notices.sticky.band = true)) ∧
      ((∀ c, held c = none ∨ (e.bands.get c).index = held c) → e.notices.sticky.band = s.notices.sticky.band) ∧
      (entry → e.transfer.state = .off ∧ e.transfer.current = 0 ∧ e.transfer.rest = 0 ∧ e.notices.sticky.heat = true ∧
        ∀ c, (e.cell c).pathOpen = true ∧ (e.cell c).setPoint = 0 ∧ (e.cell c).holds.heat = true ∧
          (e.cell c).renewal = (s.cell c).renewal) ∧
      (¬ entry → ¬ exit_ → e.notices.sticky.heat = s.notices.sticky.heat ∧ ∀ c, let x := s.cell c
        (e.cell c).holds.heat = x.holds.heat ∧ (e.cell c).holds.quiet = x.holds.quiet ∧
        (e.cell c).renewal = x.renewal ∧
        (x.charge = .tripped ∨ (e.cell c).charge ≠ .tripped → (e.cell c).pathOpen = x.pathOpen)) ∧
      (exit_ → s.control.startup = false → e.notices.sticky.heat = true ∧
        e.transfer.state = .rest ∧ e.transfer.current = 0 ∧ e.transfer.rest = s.xrest ∧
        (∀ c, (e.cell c).holds.heat = false ∧ (e.cell c).renewal = ((s.cell c).renewal || decide fresh) ∧
          (e.cell c).holds.quiet =
            (s.control.qreq && ((s.cell c).holds.quiet || decide (s.qpolCharge = .stopEffective))) ∧
          ((e.cell c).charge ≠ .tripped → (e.cell c).pathOpen = false) ∧
          ((e.cell c).charge = .tripped → (s.cell c).pathOpen = true → (e.cell c).pathOpen = true)) ∧
        (s.control.qreq = true → s.qpolProbe = .stopEffective → e.seq.state = .frozen) ∧
        (s.control.qreq = false → s.seq.state = .frozen → s.seq.kept ≠ .frozen → e.seq.state ≠ .frozen) ∧
        (s.fold.firstScan = true ∨ e.fold.folded = s.fold.folded →
          (s.control.qreq = true → SequencerStandsBut s e) ∧
          (s.control.qreq = true → s.qpolProbe = .stopEffective → s.seq.state ≠ .frozen →
            e.seq = { s.seq with state := .frozen, kept := s.seq.state, held := none }) ∧
          (s.control.qreq = true → s.qpolProbe ≠ .stopEffective ∨ s.seq.state = .frozen → e.seq = s.seq) ∧
          (s.control.qreq = false → ThawedAtExit s e))))

/-- What a channel of the converter reads of its input (R28): the level within the channel's range, or, of a thermistor
(channels 4, 5 and 13), -40 when it is open and 125 when it is shorted. -/
def ChannelReads (ch : Nat) (input : Analog) (v : Int) : Prop :=
  match input with
  | .level x => v = min (channelRange ch).2 (max (channelRange ch).1 x)
  | .thermistorOpen => (ch = 4 ∨ ch = 5 ∨ ch = 13) ∧ v = -40
  | .thermistorShorted => (ch = 4 ∨ ch = 5 ∨ ch = 13) ∧ v = 125

/-- A probe reading, of a level or of a thermistor that is open or shorted, is summed while the sample needs more; the
reading after a discard is dropped; one dropped at the converter reaches no one; the last one forms the result, which becomes LAST and is written where the window allows, or,
while FROZEN, makes forming it the held step. (On a channel without a thermistor an open or shorted one changes nothing: log
entry 29.) -/
def Obligations.ProbeConversionSums : Prop :=
  (∀ (s : State) (ch n target : Nat) (g : Trigger) (input : Analog) (x : Int), ChannelReads ch input x →
    s.converter.inFlight = .probe ch false →
    s.seq.effective = .convert → s.seq.item = some (.sample ch n g target) → s.seq.discard = false →
    s.seq.taken + 1 < n →
    exec (.probeConversionCompletion input) s = .next ({ s with
      converter := { s.converter with inFlight := .none }
      seq := { s.seq with sum := s.seq.sum + x, taken := s.seq.taken + 1 } } : State).settle) ∧
  (∀ (s : State) (ch : Nat) (input : Analog) (x : Int), ChannelReads ch input x →
    s.converter.inFlight = .probe ch false → s.seq.discard = true →
    exec (.probeConversionCompletion input) s = .next ({ s with
      converter := { s.converter with inFlight := .none }
      seq := { s.seq with discard := false } } : State).settle) ∧
  (∀ (s : State) (ch : Nat) (input : Analog) (x : Int), ChannelReads ch input x →
    s.converter.inFlight = .probe ch true →
    exec (.probeConversionCompletion input) s =
      .next ({ s with converter := { s.converter with inFlight := .none } } : State).settle) ∧
  (∀ (s : State) (ch n target : Nat) (g : Trigger) (input : Analog) (x : Int), ChannelReads ch input x →
    s.converter.inFlight = .probe ch false →
    s.seq.state = .convert → s.seq.item = some (.sample ch n g target) → s.seq.discard = false →
    s.seq.taken + 1 = n →
    let result := (s.seq.sum + x).tdiv n
    exec (.probeConversionCompletion input) s = .next (({ s with
      converter := { s.converter with inFlight := .none }
      seq := { s.seq with sum := s.seq.sum + x, taken := s.seq.taken + 1, last := result } } : State).writeResult target
        (wordOf result)).settle) ∧
  (∀ (s : State) (ch n target : Nat) (g : Trigger) (input : Analog) (x : Int), ChannelReads ch input x →
    s.converter.inFlight = .probe ch false →
    s.seq.state = .frozen → s.seq.kept = .convert → s.seq.item = some (.sample ch n g target) →
    s.seq.discard = false → s.seq.taken + 1 = n →
    exec (.probeConversionCompletion input) s = .next ({ s with
      converter := { s.converter with inFlight := .none }
      seq := { s.seq with sum := s.seq.sum + x, taken := s.seq.taken + 1, held := some .formResult } } : State).settle) ∧
  (∀ (s : State) (ch : Nat) (dropped : Bool) (input : Analog), s.converter.inFlight = .probe ch dropped →
    (∀ x, ¬ ChannelReads ch input x) → exec (.probeConversionCompletion input) s = .next s)

/-! ### The counters -/

/-- One cell's Q after an INTEGRATE: 0 by an empty mark, otherwise Q + k clamped to 0..Cap_q. -/
def integratedQ (s : State) (c : CellId) (current : Int) (t : Nat) (empty : Bool) : Nat :=
  if empty then 0
  else (min ((s.cap c * 100 : Nat) : Int) (max 0 ((s.q c : Int) + ((s.f c : Int) + current * t).fdiv 36000))).toNat

/-- One cell's F after an INTEGRATE: 0 by an empty mark, otherwise the remainder of the floor division. -/
def integratedF (s : State) (c : CellId) (current : Int) (t : Nat) (empty : Bool) : Nat :=
  if empty then 0
  else ((s.f c : Int) + current * t - 36000 * ((s.f c : Int) + current * t).fdiv 36000).toNat

/-- What an allocation takes at its counter point, on the counts and the channels as the transaction leaves them: Q of both
cells and the profile outputs (R63, R64, R80, R87). -/
def CounterPointTaken (e : State) (cp : CounterPoint) : Prop :=
  let flat := fun c => ({ ceiling := e.flatCeil c, vcap := e.flatVcap } : Output)
  let works := fun c => (e.channel c).state = .running ∨ (e.channel c).state = .holding ∨ (e.channel c).state = .starved
  ∀ c, let x := e.channel c; let a := e.channel .a; let out := cp.output.get c
    cp.q.get c = e.q c ∧
    (works c → out = { ceiling := x.ceiling, vcap := x.vcap }) ∧
    (x.state = .stopped ∨ x.state = .starting → out = flat c) ∧
    (x.state = .following → works .a → out = { ceiling := min 8000 (a.ceiling * e.followRatio / 256), vcap := a.vcap }) ∧
    (x.state = .following → ¬ works .a → out = flat c)

/-- An INTEGRATE integrates both cells in one transaction, by the sum, the floor and the remainder of R38; no charge is
lost, and no other word is written. One that is no longer awaited leaves the gauge list and the allocation. One that is
awaited is counted by the allocation in flight, and its own is the counter point. -/
def Obligations.GaugeIntegrates : Prop :=
  (∀ (s : State) (iA iB : Int) (t : Nat) (eA eB : Bool), s.memoryCanonical →
    s.arbiter.underWay = some (.gauge (.integrate iA iB t eA eB)) →
    ∃ e : State, exec .gaugeIntegrate s = .next e.settle ∧
      e.q .a = integratedQ s .a iA t eA ∧ e.f .a = integratedF s .a iA t eA ∧
      e.q .b = integratedQ s .b iB t eB ∧ e.f .b = integratedF s .b iB t eB ∧
      (∀ i, isChargeWord i = false → i < 0x1000 → e.readWord i = s.readWord i) ∧
      e.gauge = (if s.arbiter.awaited then s.gauge.tail else s.gauge) ∧ e.arbiter.underWay = none ∧
      e.cells = s.cells ∧ e.timer = s.timer ∧ e.port = s.port ∧ e.transfer = s.transfer ∧ e.control = s.control ∧
      e.selector = s.selector ∧ e.bands = s.bands ∧ e.refresh = s.refresh ∧ e.fold = s.fold ∧
      (s.arbiter.awaited = false ∨ s.allocator.inFlight = none → e.allocator = s.allocator) ∧
      (s.arbiter.awaited = true → ∀ al, s.allocator.inFlight = some al →
        (al.counter.isSome = true → e.allocator = s.allocator) ∧
        (al.counter = none → 1 < al.integratesAhead → e.allocator = { s.allocator with
          inFlight := some { al with integratesAhead := al.integratesAhead - 1 } }) ∧
        (al.counter = none → al.integratesAhead ≤ 1 → ∃ cp, CounterPointTaken e cp ∧ e.allocator = { s.allocator with
          inFlight := some { al with integratesAhead := 0, counter := some cp } }))) ∧
  (∀ (f : Nat) (current : Int) (t : Nat), let a := (f : Int) + current * t
    a = 36000 * quantaOf f current t + (remainderOf f current t : Int) ∧ remainderOf f current t < 36000) ∧
  (∀ (f : Nat) (current : Int), f < 36000 → -8000 ≤ current → current ≤ 8000 →
    -1 ≤ quantaOf f current 4 ∧ quantaOf f current 4 ≤ 1 ∧ -8 ≤ quantaOf f current 32 ∧ quantaOf f current 32 ≤ 8)

/-- The working fields a channel takes from a record (R68, R72); `ceiling` is what "continue" stands for. -/
def takesRecord (x : Channel) (g : Segment) (ceiling : Nat) : Channel :=
  { x with
    working := g.index, ceiling := g.start.getD ceiling, slope := g.slope, stepQ := g.stepQ, vcap := g.vcap
    quantaLeft := g.stepQ, stepsLeft := g.steps, endMark := g.last
    state := if g.steps = 0 then .holding else .running }

/-- The request of the record after one taken in takes s to t (R65): none where the record ends the table, and the overrun
where the next would pass word index 0xFFF (R73). -/
def NextFetch (s : State) (c : CellId) (g : Segment) (t : State) : Prop :=
  let x := s.channel c
  (g.last = true ∨ g.steps = 0 → t = s) ∧
  (g.last = false → g.steps ≠ 0 → x.nextIndex ≤ 0xFFA → t = { s with
    channels := s.channels.set c { x with fetch := some x.nextIndex, nextIndex := x.nextIndex + 6 }
    arbiter := { s.arbiter with fetch := s.arbiter.fetch.set c (some x.nextIndex) } }) ∧
  (g.last = false → g.steps ≠ 0 → 0xFFA < x.nextIndex → t = { s with
    channels := s.channels.set c { x with overrun := true, endMark := true } })

/-- A swap to a record takes s to t (R72): "continue" keeps the ceiling, the staged record is used up, the SWAP trigger of the
channel is sent (R147), and the next fetch is requested. -/
def SwappedIn (s : State) (c : CellId) (g : Segment) (t : State) : Prop :=
  let x := s.channel c
  ∃ u : State, TriggerTaken (match c with
      | .a => .swapA
      | .b => .swapB)
    { s with channels := s.channels.set c { takesRecord x g x.ceiling with stagedValid := false } } u ∧ NextFetch u c g t

/-- A batch goes to its channel quantum by quantum: in RUNNING a quantum counts down, the last of a step moves the ceiling
by the slope, and the last step ends the segment, to HOLDING, to the staged record, or to STARVED; in STARVED it is
counted; in every other state it is set aside. An INTEGRATE that is awaited hands each channel a batch of k where k is above
0 and the cell has no empty mark, and the state, but for the counters' words, the gauge list, the allocator and the arbiter,
is what taking the two batches leaves; one that is no longer awaited hands none. -/
def Obligations.BatchesStepTheChannel : Prop :=
  (∀ (s : State) (c : CellId), s.takeBatch c 0 = s ∧ ∀ k, s.takeBatch c (k + 1) = (s.takeQuantum c).takeBatch c k) ∧
  (∀ (s : State) (c : CellId), let x := s.channel c
    let stepped : Channel :=
      { x with ceiling := (min 8000 (max 0 ((x.ceiling : Int) + x.slope))).toNat
               stepsLeft := x.stepsLeft - 1, quantaLeft := x.stepQ }
    (x.state = .running → 1 < x.quantaLeft →
      s.takeQuantum c = { s with channels := s.channels.set c { x with quantaLeft := x.quantaLeft - 1 } }) ∧
    (x.state = .running → x.quantaLeft ≤ 1 → 1 < x.stepsLeft →
      s.takeQuantum c = { s with channels := s.channels.set c stepped }) ∧
    (x.state = .running → x.quantaLeft ≤ 1 → x.stepsLeft ≤ 1 → x.endMark = true →
      s.takeQuantum c = { s with channels := s.channels.set c { stepped with state := .holding } }) ∧
    (x.state = .running → x.quantaLeft ≤ 1 → x.stepsLeft ≤ 1 → x.endMark = false → x.stagedValid = false →
      s.takeQuantum c = { s with
        channels := s.channels.set c { stepped with state := .starved }
        notices := { s.notices with sticky := s.notices.sticky.set (starveCauseOf c) true } }) ∧
    (x.state = .running → x.quantaLeft ≤ 1 → x.stepsLeft ≤ 1 → x.endMark = false → x.stagedValid = true →
      SwappedIn { s with channels := s.channels.set c stepped } c x.staged (s.takeQuantum c)) ∧
    (x.state = .starved → x.starvedCount ≤ 65535 → s.takeQuantum c = { s with
      channels := s.channels.set c { x with starvedCount := min 65535 (x.starvedCount + 1) } }) ∧
    (x.state ≠ .running → x.state ≠ .starved → s.takeQuantum c = s)) ∧
  (∀ (s : State) (iA iB : Int) (t : Nat) (eA eB : Bool),
    s.arbiter.underWay = some (.gauge (.integrate iA iB t eA eB)) →
    let kA := if eA then 0 else (quantaOf (s.f .a) iA t).toNat
    let kB := if eB then 0 else (quantaOf (s.f .b) iB t).toNat
    ∃ e : State, exec .gaugeIntegrate s = .next e.settle ∧
      (s.arbiter.awaited = true →
        e.channels = ((s.takeBatch .a kA).takeBatch .b kB).channels ∧
        (let taken := (({ s with mem := e.mem, gauge := s.gauge.tail } : State).takeBatch .a kA).takeBatch .b kB;
          e = { taken with
            allocator := e.allocator
            arbiter := { taken.arbiter with underWay := none, awaited := false, gauge := !s.gauge.tail.isEmpty } }) ∧
        ((∀ c, (s.channel c).state ≠ .running ∧ (s.channel c).state ≠ .starved) → e.channels = s.channels) ∧
        ((s.channel .a).state = .running → 0 < kA → kA < (s.channel .a).quantaLeft →
          e.channel .a = { s.channel .a with quantaLeft := (s.channel .a).quantaLeft - kA }) ∧
        ((s.channel .b).state = .running → 0 < kB → kB < (s.channel .b).quantaLeft →
          e.channel .b = { s.channel .b with quantaLeft := (s.channel .b).quantaLeft - kB })) ∧
      (s.arbiter.awaited = false → e = { s with
        mem := e.mem
        arbiter := { s.arbiter with underWay := none, awaited := false, gauge := !s.gauge.isEmpty } }))

/-- FULL_x sets Q to Cap_q, PRESET_x to the preset value clamped to 0..Cap_q, each with F 0, and the entry leaves the list,
unless it is no longer awaited. The other cell's Q and F stand, but for a Q above its Cap_q, which is clamped to it, and an
F above 35999 (log entry 24). Every other word, and everything else but the arbiter, stands. -/
def Obligations.GaugeCalibrates : Prop :=
  (∀ (s : State) (c : CellId), s.memoryCanonical → s.arbiter.underWay = some (.gauge (.full c)) →
    let left := if s.arbiter.awaited then s.gauge.tail else s.gauge
    let d := otherCell c
    ∃ e : State, exec .gaugeFull s = .next e.settle ∧ e.q c = s.cap c * 100 ∧ e.f c = 0 ∧
      e.q d = min (s.q d) (s.cap d * 100) ∧ e.f d = min (s.f d) 35999 ∧
      (∀ i, isChargeWord i = false → i < 0x1000 → e.readWord i = s.readWord i) ∧
      e = { s with mem := e.mem, gauge := left,
                   arbiter := { s.arbiter with underWay := none, awaited := false, gauge := !left.isEmpty } }) ∧
  (∀ (s : State) (c : CellId), s.memoryCanonical → s.arbiter.underWay = some (.gauge (.preset c)) →
    let left := if s.arbiter.awaited then s.gauge.tail else s.gauge
    let d := otherCell c
    ∃ e : State, exec .gaugePreset s = .next e.settle ∧ e.q c = min (s.preset c) (s.cap c * 100) ∧ e.f c = 0 ∧
      e.q d = min (s.q d) (s.cap d * 100) ∧ e.f d = min (s.f d) 35999 ∧
      (∀ i, isChargeWord i = false → i < 0x1000 → e.readWord i = s.readWord i) ∧
      e = { s with mem := e.mem, gauge := left,
                   arbiter := { s.arbiter with underWay := none, awaited := false, gauge := !left.isEmpty } })

/-! ### The allocation -/

/-- The transfer current of R114 for a source cell, from the Lims, set-points and ceilings of the allocation and the
I_HINGE_MAX it read; XMAX is halved in QUIET at a QPOL_XFER of 0 (R122). -/
def transferCurrentOf (s : State) (res : ShareResult) (hinge : Nat) (src : CellId) : Nat :=
  let xmax := if s.control.state = .quiet ∧ s.readWord 0x0B1 = 0 then s.xmax / 2 else s.xmax
  let supplied := (-(res.cells.get src).setPoint).toNat
  let flex := match src with
    | .a => hinge
    | .b => hinge - supplied
  min (min xmax (res.d.natAbs * s.xk / 16))
    (min ((res.cells.get src).lim - supplied) (min (res.cells.get (otherCell src)).stage.e flex))

/-- The eligibility test of R115 for a source cell; a QPOL_XFER of 1 is STOP-effective in QUIET (R122). -/
def transferEligibleFrom (s : State) (al : Allocation) (res : ShareResult) (src : CellId) : Prop :=
  s.xferEn = 1 ∧ al.snap.source = .none ∧ s.selector.selected = .none ∧
  (s.control.state = .run ∨ s.control.state = .quiet) ∧ ¬ (s.control.state = .quiet ∧ s.readWord 0x0B1 = 1) ∧
  s.transfer.windowStop = false ∧
  (∀ c, let found := (res.cells.get c).stage.found; let x := s.cell c
    found ≠ .absent ∧ found ≠ .tripped ∧ x.charge ≠ .tripped ∧ al.becameAbsent.get c = false ∧
      x.holds.window = false ∧ x.holds.quiet = false) ∧
  (al.snap.cells.get src).band.allow.o = true ∧ (al.snap.cells.get (otherCell src)).band.allow.i = true

/-- The RUN state whose source cell is this one. -/
def runFrom : CellId → TransferState
  | .a => .runAB
  | .b => .runBA

/-- The transfer converter at an allocation completion (R113, R116 to R118): the start test in OFF, the continue test with
its stop conditions in their order in RUN, and the rest count in REST. -/
def TransferFollows (s : State) (al : Allocation) (res : ShareResult) (hinge : Nat) (t : Transfer) : Prop :=
  let heads := fun (src : CellId) => match src with
    | .a => 0 < res.d
    | .b => res.d < 0
  let gap := res.d.natAbs
  let current := transferCurrentOf s res hinge
  let room := fun (src : CellId) =>
    (al.snap.cells.get (otherCell src)).vcell < (res.cells.get (otherCell src)).stage.vlim
  let starts := fun (src : CellId) =>
    heads src ∧ transferEligibleFrom s al res src ∧ s.xstart ≤ gap ∧ s.xmin ≤ current src ∧ room src
  let rests := fun (cause : StopCause) =>
    t = { s.transfer with state := .rest, current := 0, rest := s.xrest, stopCause := cause }
  (s.transfer.state = .off →
    (∀ src, starts src → t = { s.transfer with state := runFrom src, current := current src }) ∧
    ((∀ src, ¬ starts src) → t = { s.transfer with current := 0 })) ∧
  (∀ src, s.transfer.state = runFrom src →
    let fits := heads src ∧ transferEligibleFrom s al res src
    (¬ heads src → rests .reversed) ∧ (heads src → ¬ fits → rests .ineligible) ∧
    (fits → gap ≤ s.xstop → rests .balanced) ∧
    (fits → s.xstop < gap → current src < s.xmin → rests .lowCurrent) ∧
    (fits → s.xstop < gap → s.xmin ≤ current src → ¬ room src → rests .receiverLimit) ∧
    (fits → s.xstop < gap → s.xmin ≤ current src → room src → t = { s.transfer with current := current src })) ∧
  (s.transfer.state = .rest → t = { s.transfer with
    state := if s.transfer.rest ≤ 1 then .off else .rest, current := 0, rest := s.transfer.rest - 1 })

/-- A hold reason present that was not in the snapshot (R4, R6). -/
def holdIsNew (x h : Holds) : Bool :=
  (x.band && !h.band) || (x.window && !h.window) || (x.quiet && !h.quiet) || (x.heat && !h.heat)

/-- A cell path at an allocation completion takes x to y: the first case of R6 that fits, with what R96 writes. In case 5 a
supply set-point that stands is kept or becomes 0, which is free (log entry 13); that a cell found ABSENT that is ABSENT
stays so at a new hold is log entry 14. -/
def CellFollows (al : Allocation) (sh : CellShare) (c : CellId) (x y : CellPath) : Prop :=
  let snap := al.snap.cells.get c
  let case1 := x.charge = .tripped ∨ (x.charge = .absent ∧ al.becameAbsent.get c = true)
  let case2 := x.charge = .idle ∧ al.released.get c = true
  let case3 := holdIsNew x.holds snap.holds = true ∧ ¬ (x.charge = .absent ∧ sh.stage.found = .absent)
  let taken := { x with tp := sh.stage.tp, renewal := x.renewal && !snap.renewal }
  let found := { taken with charge := sh.stage.found, termCount := sh.stage.termCount }
  (case1 ∨ case2 → y = { x with setPoint := 0 }) ∧
  (¬ case1 → ¬ case2 → case3 → y = { taken with charge := .held, setPoint := 0, termCount := 0 }) ∧
  (¬ case1 → ¬ case2 → ¬ case3 →
    (x.pathOpen = true → y = { found with setPoint := 0 }) ∧
    (x.pathOpen = false → 0 < sh.setPoint → al.sourceLost = true → y = { found with setPoint := y.setPoint } ∧
      (0 ≤ x.setPoint → y.setPoint = 0) ∧ (x.setPoint < 0 → y.setPoint = 0 ∨ y.setPoint = x.setPoint)) ∧
    (x.pathOpen = false → sh.setPoint ≤ 0 ∨ al.sourceLost = false → y = { found with setPoint := sh.setPoint }))

/-- A cell that terminated takes FULL at the completion, in cases 4 to 6 of R6 (R2). -/
def takesFull (s : State) (al : Allocation) (sh : CellShare) (c : CellId) : Bool :=
  let x := s.cell c
  sh.stage.terminated && x.charge != .tripped && !(x.charge == .absent && al.becameAbsent.get c) &&
    !(x.charge == .idle && al.released.get c) && !holdIsNew x.holds (al.snap.cells.get c).holds

/-- An allocation past its counter point completes. Its stages not worked before are worked now (log entry 10); each cell
path takes the first case of R6 that fits, and FULL_x where the charge ended, FULL_A first (log entry 45), with which GAUGE
waits; FULL_x and SHORTFALL are the only notices, each where its event falls (R2, R41, R107); the weights, the flag and the published results are written, the transfer converter and the selector follow, and a refresh is requested as
QPOL_REFRESH has it. I_HINGE_MAX is read with the charge split, for the transfer and for Lim_B too, and whatever P_avail is
(log entry 44); CAP_x is read with the charge split or before it (log entry 39). The model's free counter moves on (log
entry 38). -/
def Obligations.AllocationCompletes : Prop :=
  ∀ (s : State) (al : Allocation) (cp : CounterPoint), s.allocator.inFlight = some al → al.counter = some cp →
    let b := al.budget.getD (s.budgetRead al.snap)
    let sp := al.chargeSplit.getD s.chargeSplitRead
    let res := share al.snap cp (al.capacity.getD s.capacityRead) b (al.ceilings.getD s.ceilingRead) sp
      (al.supplySplit.getD s.supplySplitRead)
    let takes := fun c => takesFull s al (res.cells.get c) c
    let fulls := fun c =>
      if takes c = true ∧ (s.gauge.filter (GaugeEntry.concerns c)).getLast? ≠ some (.full c) then [GaugeEntry.full c] else []
    ∃ e : State, exec .allocationCompletion s = .next e.settle ∧
      e.mem = s.mem ∧ e.channels = s.channels ∧ e.timer = s.timer ∧ e.seq = s.seq ∧ e.control = s.control ∧
      e.bands = s.bands ∧ e.fold = s.fold ∧ e.converter = s.converter ∧ e.port = s.port ∧
      (∀ c, CellFollows al (res.cells.get c) c (s.cell c) (e.cell c)) ∧
      e.gauge = s.gauge ++ fulls .a ++ fulls .b ∧
      e.notices = { s.notices with sticky := { s.notices.sticky with
        fullA := s.notices.sticky.fullA || takes .a
        fullB := s.notices.sticky.fullB || takes .b
        shortfall := s.notices.sticky.shortfall || (res.shortfall && !s.allocator.shortfall) } } ∧
      e.pending = s.pending ∧ e.freeCounter = s.freeCounter + 1 ∧
      e.allocator = { s.allocator with
        inFlight := none, shortfall := res.shortfall, w := res.w, v := res.v, published := e.allocator.published } ∧
      (let p := e.allocator.published;
        p.pIn = res.pIn ∧ p.pLoad = res.pLoad ∧ p.pAvail = res.pAvail ∧ p.pPre = res.pPre ∧ p.r = res.r ∧ p.d = res.d ∧
        p.source = al.snap.source ∧
        ∀ c, let sh := res.cells.get c;
          p.cells.get c = { e := sh.stage.e, vlim := sh.stage.vlim, g := sh.stage.g, demand := sh.demand,
                            granted := sh.granted, setPoint := sh.setPoint, s := res.s.get c,
                            output := some (cp.output.get c) }) ∧
      TransferFollows s al res sp.iHingeMax e.transfer ∧
      e.selector = { s.selector with
        phase := if s.selector.phase = .held then .done else s.selector.phase
        contract := { s.selector.contract with vC := b.vC, iC := b.iC } } ∧
      (let quiet := s.control.state = .quiet; let policy := (s.readWord 0x0B3).toNat;
        let asks := ¬ quiet ∨ 2 ≤ policy ∨ (policy = 0 ∧ 8 ≤ s.refresh.count + 1)
        e.arbiter = { s.arbiter with
          gauge := if fulls .a ++ fulls .b = [] then s.arbiter.gauge
            else !(s.arbiter.gaugeUnderWay && s.arbiter.awaited)
          refresh := if asks then true else s.arbiter.refresh } ∧
        (asks → e.refresh = { image := e.statusImage, marks := [true, true, true, true], count := 0 }) ∧
        (quiet → policy = 1 → e.refresh = s.refresh) ∧
        (quiet → policy = 0 → s.refresh.count + 1 < 8 → e.refresh = { s.refresh with count := s.refresh.count + 1 }))

/-- The charge state each allocation finds, by the first test of R1 that holds, with E, Vlim, the taper step and G by their
formulas; the count of TAPER at or below ITERM ends the charge. (A cell whose charge ends has G 0 in that allocation: log
entry 40.) -/
def Obligations.ChargeStateTests : Prop :=
  ∀ (x : CellSnapshot) (out : Output) (c : CellId) (reduced : Bool) (pIn : Nat) (pAvail : Int) (rd : CeilingRead),
    let st := ceilingStage x out c reduced pIn pAvail rd
    let bound := min (out.ceiling * x.band.derate / 256) (rd.imaxChg.get c)
    let t1 := x.charge = .tripped
    let t2 := x.vpin < 1500
    let t3 := x.holds.band = true ∨ x.holds.window = true ∨ x.holds.quiet = true ∨ x.holds.heat = true
    let t4 := x.charge = .full ∧ st.vlim - rd.vrech ≤ x.vcell
    let t5 := pIn = 0 ∨ pAvail ≤ 0
    let t6 := x.vcell < rd.vpre
    let charging := ¬ t1 ∧ ¬ t2 ∧ ¬ t3 ∧ ¬ t4 ∧ ¬ t5 ∧ ¬ t6
    let keeps := x.charge = .bulk ∨ x.charge = .taper ∨ x.charge = .idle
    let tp := min (if keeps ∧ x.renewal = false then x.tp else st.e) st.e
    let step := max rd.taperMin (tp / 16)
    let count := if st.tp < st.e ∧ st.tp ≤ rd.iterm then x.termCount + 1 else 0
    let ends := st.tp < st.e ∧ st.tp ≤ rd.iterm ∧ rd.termCount ≤ count
    st.e = (if reduced then bound / 2 else bound) ∧ st.vlim = out.vcap - x.band.vcapDrop ∧
    (t1 → st.found = .tripped) ∧ (¬ t1 → t2 → st.found = .absent) ∧ (¬ t1 → ¬ t2 → t3 → st.found = .held) ∧
    (¬ t1 → ¬ t2 → ¬ t3 → t4 → st.found = .full) ∧ (¬ t1 → ¬ t2 → ¬ t3 → ¬ t4 → t5 → st.found = .idle) ∧
    (¬ t1 → ¬ t2 → ¬ t3 → ¬ t4 → ¬ t5 → t6 →
      st.found = .precharge ∧ st.g = min (rd.ipre.get c) (rd.imaxChg.get c)) ∧
    (¬ charging → st.tp = (if x.renewal then st.e else x.tp) ∧ st.termCount = 0 ∧ st.terminated = false ∧
      (st.found ≠ .precharge → st.g = 0)) ∧
    (charging →
      st.tp = (if st.vlim ≤ x.vcell then tp - step
        else if x.vcell < st.vlim - rd.taperHyst then min st.e (tp + step)
        else tp) ∧
      (st.terminated = true ↔ ends) ∧
      (st.tp = st.e → st.found = .bulk ∧ st.g = st.e ∧ st.termCount = 0) ∧
      (st.tp < st.e → ¬ ends → st.found = .taper ∧ st.g = st.tp ∧ st.termCount = count) ∧
      (ends → st.found = .full ∧ st.g = 0 ∧ st.termCount = 0) ∧ st.tp ≤ st.e) ∧
    st.e ≤ rd.imaxChg.get c

/-- A power shared by a weight of 1024 between the cells that may take one, each up to its most (R100, R106). -/
def PowerShared (power weight : Nat) (mostA mostB : Option Nat) (a b : Nat) : Prop :=
  (mostA = none → mostB = none → a = 0 ∧ b = 0) ∧
  (∀ x, mostA = some x → mostB = none → a = min x power ∧ b = 0) ∧
  (∀ y, mostA = none → mostB = some y → a = 0 ∧ b = min y power) ∧
  (∀ x y, mostA = some x → mostB = some y →
    b = min y (power - min x (power * weight / 1024)) ∧ a = min x (power - b))

/-- What a share computation gives beside its stages: the states of charge, the budget, the weights, and the split that the
sign of P_avail chooses (R46, R90, R91, R97 to R108). -/
def SharedByFormula (snap : Snapshot) (cp : CounterPoint) (capQ : PerCell Nat) (b : BudgetRead) (ce : CeilingRead)
    (sp : ChargeSplitRead) (su : SupplySplitRead) (res : ShareResult) : Prop :=
  let iC := if snap.dieWarning then b.iC / 2 else b.iC
  let k := (res.d * sp.balGain).tdiv 16
  let vcell := fun (c : CellId) => (snap.cells.get c).vcell
  let found := fun (c : CellId) => (res.cells.get c).stage.found
  let granted := fun (c : CellId) => (res.cells.get c).granted
  let setPoint := fun (c : CellId) => (res.cells.get c).setPoint
  let lim := fun (c : CellId) => match c with
    | .a => su.imaxDis.a
    | .b => min su.imaxDis.b sp.iHingeMax
  let pre := fun c => found c = .precharge
  let shares := fun c => found c = .bulk ∨ found c = .taper
  let volts := fun c => if pre c then max (vcell c) 2000 else vcell c
  let dem := fun (c : CellId) => (res.cells.get c).demand
  let pd := fun c => volts c * dem c / 1000
  let mostCharge := fun c => if shares c then some (pd c) else none
  let eligible := fun (c : CellId) =>
    found c ≠ .absent ∧ found c ≠ .tripped ∧ (snap.cells.get c).band.allow.s = true ∧ ce.vpre < vcell c
  let mostSupply := fun c => if eligible c then some (vcell c * lim c / 1000) else none
  let avail := res.pAvail.toNat
  let need := (-res.pAvail).toNat
  res.pIn = (match snap.source with
    | .none => 0
    | _ => b.vC * iC / 1000 * b.convGain / 256) ∧
  res.pLoad = snap.vSys * snap.iSys / 1000 ∧ res.pAvail = (res.pIn : Int) - (res.pLoad : Int) ∧
  (∀ c, res.s.get c = min 1024 (cp.q.get c * 1024 / capQ.get c)) ∧ res.d = (res.s.a : Int) - (res.s.b : Int) ∧
  ((res.w.a : Int) = min 960 (max 64 (512 - k)) ∧ res.w.b = 1024 - res.w.a ∧
    (res.v.a : Int) = min 960 (max 64 (512 + k)) ∧ res.v.b = 1024 - res.v.a) ∧
  (∀ c, (res.cells.get c).stage =
    ceilingStage (snap.cells.get c) (cp.output.get c) c snap.chargeReduced res.pIn res.pAvail ce ∧
    dem c = (res.cells.get c).stage.g ∧ (res.cells.get c).lim = lim c) ∧
  (0 < res.pAvail →
    res.pPre = (if pre .a then pd .a else 0) + (if pre .b then pd .b else 0) ∧ res.r = avail - res.pPre ∧
    (∃ a b, PowerShared res.r res.w.a (mostCharge .a) (mostCharge .b) a b ∧ ∀ c,
      (pre c → granted c = if res.pPre ≤ avail then pd c else avail * pd c / res.pPre) ∧
      (shares c → granted c = match c with
        | .a => a
        | .b => b) ∧
      (¬ pre c → ¬ shares c → granted c = 0)) ∧
    setPoint .a = (min (granted .a * 1000 / volts .a) (dem .a) : Nat) ∧
    setPoint .b = (min (min (granted .b * 1000 / volts .b) (dem .b)) sp.iHingeMax : Nat)) ∧
  (res.pAvail ≤ 0 → res.pPre = 0 ∧ res.r = 0) ∧
  (res.pAvail < 0 →
    PowerShared need res.v.a (mostSupply .a) (mostSupply .b) (granted .a) (granted .b) ∧
    (∀ c, setPoint c = -((granted c * 1000 / vcell c : Nat) : Int)) ∧
    (res.shortfall = true ↔ (¬ eligible .a ∧ ¬ eligible .b) ∨ (mostSupply .a).getD 0 + (mostSupply .b).getD 0 < need))

/-- The share computation by its formulas, on the settings words as each stage reads them, with a state of charge of 1024
where Q stands above a Cap_q lowered since the counter point (R40; when CAP_x is read: log entry 39); and the laws of the
set-points: a charge set-point is at or below its demand, and cell B's at or below I_HINGE_MAX; a supply set-point's
magnitude is at or below the cell's limit; the powers granted sum to at most P_avail, or the need; no shortfall but where
P_avail is below 0. All words of a stage are read at one state, VPRE with the ceilings for the supply split too, and
I_HINGE_MAX with the charge split for Lim_B too (log entry 44), but for CAP_x, which may be read before the charge split
(log entry 39). -/
def Obligations.ShareStaysWithinLimits : Prop :=
  (∀ (snap : Snapshot) (cp : CounterPoint) (capQ : PerCell Nat) (b : BudgetRead) (ce : CeilingRead)
    (sp : ChargeSplitRead) (su : SupplySplitRead), let res := share snap cp capQ b ce sp su
    SharedByFormula snap cp capQ b ce sp su res ∧
    (∀ c, capQ.get c < cp.q.get c → 0 < capQ.get c → res.s.get c = 1024) ∧
    (64 ≤ res.w.a ∧ res.w.a ≤ 960 ∧ 64 ≤ res.v.a ∧ res.v.a ≤ 960) ∧
    (0 < res.pAvail →
      (∀ c, 0 ≤ (res.cells.get c).setPoint ∧ (res.cells.get c).setPoint ≤ ((res.cells.get c).demand : Int)) ∧
      res.cells.b.setPoint ≤ (sp.iHingeMax : Int) ∧
      ((res.cells.a.granted + res.cells.b.granted : Nat) : Int) ≤ res.pAvail ∧ res.shortfall = false) ∧
    (res.pAvail = 0 → (∀ c, (res.cells.get c).setPoint = 0 ∧ (res.cells.get c).granted = 0) ∧ res.shortfall = false) ∧
    (res.pAvail < 0 →
      -(su.imaxDis.a : Int) ≤ res.cells.a.setPoint ∧ res.cells.a.setPoint ≤ 0 ∧
      -((min su.imaxDis.b sp.iHingeMax : Nat) : Int) ≤ res.cells.b.setPoint ∧ res.cells.b.setPoint ≤ 0 ∧
      ((res.cells.a.granted + res.cells.b.granted : Nat) : Int) ≤ -res.pAvail)) ∧
  (∀ (s : State) (snap : Snapshot), let w := fun i => (s.readWord i).toNat
    s.budgetRead snap = { convGain := min 256 (max 128 (w 0x088))
                          vC := match snap.source, snap.pair with
                            | .none, _ => 0
                            | .wired, .w0 => min 12000 (max 4500 (w 0x080))
                            | .wired, .w1 => min 12000 (max 4500 (w 0x082))
                            | .coil, _ => min 12000 (max 4500 (w 0x085))
                          iC := match snap.source, snap.pair with
                            | .none, _ => 0
                            | .wired, .w0 => min 5000 (w 0x081)
                            | .wired, .w1 => min 5000 (w 0x083)
                            | .coil, _ => min 1500 (w 0x086) } ∧
    s.capacityRead = { a := min 8000 (max 100 (w 0x08A)) * 100, b := min 8000 (max 100 (w 0x08B)) * 100 } ∧
    s.ceilingRead = { imaxChg := { a := min 8000 (w 0x08C), b := min 8000 (w 0x08D) }
                      ipre := { a := min 500 (w 0x097), b := min 500 (w 0x098) }
                      vpre := min 3400 (max 2500 (w 0x096)), vrech := min 300 (max 50 (w 0x099))
                      iterm := min 500 (max 20 (w 0x09A)), termCount := min 1024 (max 1 (w 0x09B))
                      taperMin := min 100 (max 1 (w 0x09C)), taperHyst := min 100 (max 5 (w 0x09D)) } ∧
    s.chargeSplitRead = { balGain := min 16 (w 0x09F), iHingeMax := min 8000 (w 0x090) } ∧
    s.supplySplitRead = { imaxDis := { a := min 8000 (w 0x08E), b := min 8000 (w 0x08F) } })

/-! ### The completions of the part's own transactions -/

/-- The code of a value: its place in the list of 10.9.2. -/
def placeIn {α : Type} [BEq α] (values : List α) (x : α) : Nat := values.idxOf x

/-- A bit of a status word. -/
def flagBit (place : Nat) (b : Bool) : Nat := if b then 2 ^ place else 0

/-- The general block as its owners hold it, word by word in the order of 10.9.2. -/
def generalBlock (s : State) : List Word :=
  let nat : Nat → Word := BitVec.ofNat 16
  let int : Int → Word := BitVec.ofInt 16
  let r := s.latestReadings
  let x := s.selector
  let p := s.allocator.published
  let source := placeIn [Source.none, .wired, .coil]
  let detection := fun (d : Detection) =>
    nat (placeIn [DetectionState.detached, .settling, .attached] d.state + 256 * d.settle)
  [nat s.timer.count, nat (placeIn [PartState.run, .quiet, .shipEntry, .ship, .heat] s.control.state),
   nat (placeIn [ShipResult.none, .accepted, .refused] s.control.shipResult),
   nat (flagBit 0 s.fold.folded + flagBit 1 s.control.dieWarning + flagBit 2 s.allocator.shortfall),
   int r.tDie, int r.tHinge, int r.vWired, int r.vCoil, int r.iIn, int r.vSys, int r.iSys,
   detection x.wired, detection x.coil, nat (source x.selected), nat (source p.source),
   nat (placeIn [ChangeoverPhase.none, .wait, .held, .done] x.phase +
     256 * placeIn [none, some Input.wired, some .coil] x.target),
   nat (source x.contract.source + flagBit 8 (x.contract.pair = .w1) + flagBit 9 (x.lastPair = .w1)),
   nat x.contract.vC, nat x.contract.iC, nat p.pIn, nat p.pLoad, int (p.pAvail / 0x10000), int p.pAvail,
   nat s.control.shipStep, 0, 0, 0, 0, 0, 0, 0, nat s.converter.lateCount]

/-- The block of a cell as its owners hold it, by offset (10.9.2). Q and F, which the counters write, are 0 in the image.
The ceiling and VCAP are the output the allocation took (R83), of a STOPPED channel too (log entry 43), or, after a reset,
the channel's own (log entry 23). -/
def cellBlock (s : State) (c : CellId) : List Word :=
  let nat : Nat → Word := BitVec.ofNat 16
  let int : Int → Word := BitVec.ofInt 16
  let r := s.latestReadings
  let x := s.cell c
  let b := s.bands.get c
  let p := s.allocator.published.cells.get c
  let ch := s.channel c
  let out := p.output.getD { ceiling := ch.ceiling, vcap := ch.vcap }
  let trip := fun (f : TripRecord → Nat) => (x.trip.map f).getD 0
  let tripInt := fun (f : TripRecord → Int) => (x.trip.map f).getD 0
  [0, 0, 0,
   nat (placeIn [ChargeState.absent, .idle, .precharge, .bulk, .taper, .full, .held, .tripped] x.charge +
     256 * b.index.getD 255),
   int x.setPoint, int (r.vpin c), int (r.current c), int (r.temperature c), nat x.vcell, int b.teff,
   nat p.e, nat p.vlim, nat p.g, nat x.tp, nat x.termCount, nat p.demand, nat p.granted, nat p.s,
   nat (trip (fun t => 1 + placeIn [TripCause.ov, .occ, .ocd, .ot, .hinge] t.cause) +
     trip (fun t => flagBit 3 (t.detection = .scan)) +
     16 * placeIn [ReleaseResult.none, .released, .refused, .notTripped] x.releaseResult + 256 * x.tripCount),
   int (tripInt TripRecord.vpin), int (tripInt TripRecord.current), int (tripInt TripRecord.temperature),
   nat (trip TripRecord.periodCount),
   nat (flagBit 0 x.holds.band + flagBit 1 x.holds.window + flagBit 2 x.holds.quiet + flagBit 3 x.holds.heat +
     flagBit 4 x.pathOpen + flagBit 5 x.emptyLatch +
     256 * placeIn [ChannelState.stopped, .starting, .running, .holding, .starved, .following] ch.state +
     flagBit 11 ch.stagedValid + flagBit 12 ch.overrun + flagBit 13 ch.endMark + flagBit 14 x.renewal),
   nat out.ceiling, nat out.vcap, nat ch.working, nat ch.stepsLeft, nat ch.quantaLeft, nat (ch.fetch.getD 0),
   nat ch.nextIndex, nat ch.starvedCount]

/-- The transfer, sequencer and allocation block as its owners hold it, word by word in the order of 10.9.2. -/
def transferBlock (s : State) : List Word :=
  let nat : Nat → Word := BitVec.ofNat 16
  let int : Int → Word := BitVec.ofInt 16
  let t := s.transfer
  let q := s.seq
  let al := s.allocator
  let seq := placeIn [SeqState.idle, .fetch, .triggerWait, .convert, .pause, .write, .frozen]
  [nat (placeIn [TransferState.off, .runAB, .runBA, .rest] t.state +
     256 * placeIn [StopCause.none, .ineligible, .balanced, .reversed, .lowCurrent, .receiverLimit, .cell, .source,
       .window, .heat, .ship] t.stopCause + flagBit 15 t.windowStop),
   nat t.current, nat t.rest, int s.latestReadings.iXfer, int al.published.d,
   nat al.w.a, nat al.w.b, nat al.v.a, nat al.v.b, nat al.published.pPre, nat al.published.r, nat al.skipped,
   nat (seq q.state + 16 * seq q.kept + 256 * q.done.length + flagBit 15 q.slot.isSome),
   nat (q.current.getD 0), nat q.itemIndex, int q.last, nat (q.slot.getD 0),
   nat (q.flags.toNat + 256 * q.budget), nat (q.writeFaults + 256 * q.doneOverrun), nat s.refresh.count,
   0, 0, 0, 0, 0, 0, 0, 0, 0, 0, 0, 0]

/-- The image of a refresh holds the words of 10.9.2 as their owners hold them (a channel's output by log entries 23 and 43,
the pair of a contract that is not wired by log entry 47). A block granted to the refresh takes its words from the image,
but for Q and F, and every other word stands; its completion ends the transaction, and REFRESH waits again while a mark
remains. -/
def Obligations.RefreshWritesItsBlock : Prop :=
  (∀ s : State, s.statusImage = generalBlock s ++ cellBlock s .a ++ cellBlock s .b ++ transferBlock s) ∧
  (∀ i, isChargeWord i = true ↔ i ∈ [0x020, 0x021, 0x022, 0x040, 0x041, 0x042]) ∧
  (∀ (image : List Word) (block : Nat) (m : Memory) (i : Nat), Memory.wf m = true → block < 4 → i < 0x1000 →
    Memory.readWord (writeBlock image block m) i =
      if i / 32 = block ∧ isChargeWord i = false then image.getD i 0 else Memory.readWord m i) ∧
  (∀ (s : State) (b : Nat), s.arbiter.underWay = some (.refresh b) →
    exec .refreshBlockWrite s = .next ({ s with
      arbiter := { s.arbiter with underWay := none, awaited := false,
                                  refresh := s.refresh.marks.any id } } : State).settle)

/-- A segment record is clamped as R62 has it. A profile fetch completes by the state of its channel: STARTING installs
segment 0, RUNNING stages it, STARVED swaps it in. A completion whose channel's ignore mark is set clears the mark alone,
and one under way at a POR is awaited by no one (log entry 49). -/
def Obligations.ProfileFetchCompletes : Prop :=
  (∀ (i : Nat) (ws : List Word), let w := fun k => ws.getD k 0
    segmentOf i ws = { index := i, start := if w 0 = 0xFFFF then none else some (min 8000 (w 0).toNat)
                       slope := min 511 (max (-512) (w 1).toInt), stepQ := min 4096 (max 1 (w 2).toNat)
                       steps := min 4095 (w 3).toNat, vcap := min 4600 (max 3600 (w 4).toNat)
                       last := (w 5).getLsbD 0 }) ∧
  (∀ (s : State) (c : CellId) (i : Nat) (ws : List Word), s.arbiter.underWay = some (.fetch c i ws) →
    let x := s.channel c
    let ended : State := { s with arbiter := { s.arbiter with underWay := none, awaited := false } }
    let taken : State := { ended with channels := s.channels.set c { x with fetch := none } }
    let g := segmentOf i ws
    (x.ignore = true → exec .profileFetchCompletion s =
      .next ({ ended with channels := s.channels.set c { x with ignore := false } } : State).settle) ∧
    (x.ignore = false → s.arbiter.awaited = false → exec .profileFetchCompletion s = .next ended.settle) ∧
    (x.ignore = false → s.arbiter.awaited = true → x.state = .running → exec .profileFetchCompletion s =
      .next ({ ended with channels := s.channels.set c { x with fetch := none, staged := g, stagedValid := true } } :
        State).settle) ∧
    (x.ignore = false → s.arbiter.awaited = true → x.state = .starting →
      ∃ t, NextFetch { ended with channels := s.channels.set c (takesRecord { x with fetch := none } g 0) } c g t ∧
        exec .profileFetchCompletion s = .next t.settle) ∧
    (x.ignore = false → s.arbiter.awaited = true → x.state = .starved →
      ∃ t, SwappedIn taken c g t ∧ exec .profileFetchCompletion s = .next t.settle) ∧
    (x.ignore = false → s.arbiter.awaited = true → x.state = .stopped ∨ x.state = .holding ∨ x.state = .following →
      exec .profileFetchCompletion s = .next taken.settle))

/-- The item that four words spell (9.1.2, 10.9.5). -/
def spelledItem (w : Nat → Word) : Item :=
  let w0 := (w 0).toNat
  let target := (w 3).toNat
  match w0 % 16 with
  | 0 => .endItem
  | 1 => .sample (w0 / 16 % 16) (min 16 (max 1 (w0 / 256 % 32)))
      ([.now, .period, .fold, .swapA, .swapB].getD (w0 / 8192) .now) target
  | 2 => .compare (w0 / 16 % 8) ([.note, .holdA, .holdB, .stopXfer].getD (w0 / 256 % 4) .note) (w 1).toInt (w 2).toInt
  | 3 => .wait (w 1).toNat
  | 4 => .mark ([.periodCount, .foldState, .chargeA, .chargeB, .transfer, .last, .bands, .source].getD (w0 / 16 % 8) .source)
      target
  | 5 => .branch ([.lastBelow, .lastAtOrAbove, .folded, .unfolded, .flagSet, .flagClear, .sourceNone,
      .sourceNotNone].getD (w0 / 16 % 8) .sourceNotNone) (w 1).toInt target
  | 6 => .jump target
  | 7 => .setw (w 1) target
  | k => .bad k

/-- An item fetched is carried out by its kind; while FROZEN it is kept as the held step (and is counted by the budget at
the thaw: log entry 22), and a completion no longer awaited is ignored. -/
def Obligations.ItemFetchCompletes : Prop :=
  (∀ ws : List Word, itemOf ws = spelledItem fun k => ws.getD k 0) ∧
  (∀ (s : State) (i : Nat) (ws : List Word), s.arbiter.underWay = some (.seqFetch i ws) → s.arbiter.awaited = true →
    s.seq.state ≠ .frozen →
    exec .itemFetchCompletion s = .next (({ s with
      seq := { s.seq with item := some (itemOf ws), inFlight := .none }
      arbiter := { s.arbiter with underWay := none, awaited := false } } : State).carryOut (itemOf ws)).settle) ∧
  (∀ (s : State) (i : Nat) (ws : List Word), s.arbiter.underWay = some (.seqFetch i ws) → s.arbiter.awaited = true →
    s.seq.state = .frozen →
    exec .itemFetchCompletion s = .next ({ s with
      seq := { s.seq with item := some (itemOf ws), inFlight := .none, held := some .carryOut }
      arbiter := { s.arbiter with underWay := none, awaited := false } } : State).settle) ∧
  (∀ (s : State) (i : Nat) (ws : List Word), s.arbiter.underWay = some (.seqFetch i ws) → s.arbiter.awaited = false →
    exec .itemFetchCompletion s =
      .next ({ s with arbiter := { s.arbiter with underWay := none, awaited := false } } : State).settle)

/-- A write of the sequencer that completes makes it go on to the next item, or, while FROZEN, makes that the held step; a
completion no longer awaited is ignored. -/
def Obligations.SeqWriteCompletes : Prop :=
  (∀ (s : State) (i : Nat) (v : Word), s.arbiter.underWay = some (.seqWrite i v) → s.arbiter.awaited = true →
    s.seq.state ≠ .frozen →
    exec .seqWriteCompletion s = .next (({ s with
      seq := { s.seq with inFlight := .none }
      arbiter := { s.arbiter with underWay := none, awaited := false } } : State).finishItem
        (s.seq.itemIndex + 4)).settle) ∧
  (∀ (s : State) (i : Nat) (v : Word), s.arbiter.underWay = some (.seqWrite i v) → s.arbiter.awaited = true →
    s.seq.state = .frozen →
    exec .seqWriteCompletion s = .next ({ s with
      seq := { s.seq with inFlight := .none, held := some (.goOn (s.seq.itemIndex + 4)) }
      arbiter := { s.arbiter with underWay := none, awaited := false } } : State).settle) ∧
  (∀ (s : State) (i : Nat) (v : Word), s.arbiter.underWay = some (.seqWrite i v) → s.arbiter.awaited = false →
    exec .seqWriteCompletion s =
      .next ({ s with arbiter := { s.arbiter with underWay := none, awaited := false } } : State).settle)

/-! ### The grants -/

/-- The arbiter grants nothing while a transaction is under way; otherwise it grants the first waiting request in the
order GAUGE, FETCH_A, FETCH_B, LINK, SEQ_FETCH, SEQ_WRITE, REFRESH, reading or writing memory as that requester may. Before
a write of the sequencer the stages of the allocation in flight are worked freely (log entries 10 and 39). -/
def Obligations.ArbiterGrantsInOrder : Prop :=
  ∀ s : State, s.converter.inFlight ≠ .none → let ar := s.arbiter
    (ar.underWay.isSome = true → s.settle = s) ∧
    (ar.underWay = none → ar.gauge = true → ∀ e rest, s.gauge = e :: rest →
      s.settle = { s with arbiter := { ar with gauge := false, underWay := some (.gauge e), awaited := true } }) ∧
    (ar.underWay = none → ar.gauge = false → ∀ i, ar.fetch.a = some i →
      s.settle = { s with arbiter := { ar with
        fetch := { ar.fetch with a := none }
        underWay := some (.fetch .a i ((List.range 6).map fun k => s.readWord (i + k))), awaited := true } }) ∧
    (ar.underWay = none → ar.gauge = false → ar.fetch.a = none → ∀ i, ar.fetch.b = some i →
      s.settle = { s with arbiter := { ar with
        fetch := { ar.fetch with b := none }
        underWay := some (.fetch .b i ((List.range 6).map fun k => s.readWord (i + k))), awaited := true } }) ∧
    (ar.underWay = none → ar.gauge = false → ar.fetch.a = none → ar.fetch.b = none → ar.link = true →
      ∀ earlier r later, s.port.ops = earlier ++ .run r :: later → (∀ op ∈ earlier, Completed op) →
      r.phase = .waiting → r.dir = .read →
      s.settle = { s with
        arbiter := { ar with link := false, underWay := some (.link .read), awaited := true }
        port := { s.port with ops := earlier ++ .run { r with
          phase := .granted
          words := (List.range r.length).map fun k => s.readWord (r.start + k) } :: later } }) ∧
    (ar.underWay = none → ar.gauge = false → ar.fetch.a = none → ar.fetch.b = none → ar.link = false →
      ∀ i, ar.seqFetch = some i →
      s.settle = { s with arbiter := { ar with
        seqFetch := none
        underWay := some (.seqFetch i ((List.range 4).map fun k => s.readWord (i + k))), awaited := true } }) ∧
    (ar.underWay = none → ar.gauge = false → ar.fetch.a = none → ar.fetch.b = none → ar.link = false →
      ar.seqFetch = none → ∀ i v, ar.seqWrite = some (i, v) →
      ∃ t : State, StagesWorked { s with
          arbiter := { ar with seqWrite := none, underWay := some (.seqWrite i v), awaited := true } } t ∧
        s.settle = { t with mem := if 0x080 ≤ i ∧ i < 0x1000 then Memory.writeWord s.mem i v else s.mem }) ∧
    (ar.underWay = none → ar.gauge = false → ar.fetch.a = none → ar.fetch.b = none → ar.link = false →
      ar.seqFetch = none → ar.seqWrite = none → ar.refresh = true → ∀ b, lowestMark s.refresh.marks = some b →
      s.settle = { s with
        arbiter := { ar with refresh := false, underWay := some (.refresh b), awaited := true }
        refresh := { s.refresh with marks := s.refresh.marks.set b false }
        mem := writeBlock s.refresh.image b s.mem }) ∧
    (ar.underWay = none → ar.gauge = false → ar.fetch.a = none → ar.fetch.b = none → ar.link = false →
      ar.seqFetch = none → ar.seqWrite = none → ar.refresh = false → s.settle = s)

/-- With the arbiter busy, the converter grants nothing while a conversion is in flight, else the scan's next channel, else
a pending probe conversion unless the sequencer is FROZEN. -/
def Obligations.ConverterGrantsScanFirst : Prop :=
  ∀ s : State, s.arbiter.underWay.isSome = true → let cv := s.converter
    (cv.inFlight ≠ .none → s.settle = s) ∧
    (cv.inFlight = .none → 0 < cv.scanPending →
      s.settle = { s with converter := { cv with inFlight := .scan, scanPending := cv.scanPending - 1 } }) ∧
    (cv.inFlight = .none → cv.scanPending = 0 → 0 < cv.probePending → s.seq.state ≠ .frozen →
      s.settle = { s with converter := { cv with
        inFlight := .probe cv.probeChannel false, probePending := cv.probePending - 1 } }) ∧
    (cv.inFlight = .none → cv.scanPending = 0 → (cv.probePending = 0 ∨ s.seq.state = .frozen) → s.settle = s)

/-! ### Bands -/

/-- The plain lookup gives the lowest band whose UPPER is at or above T_eff, or 7; on the default table it gives the bands
of the manual. -/
def Obligations.PlainLookup : Prop :=
  (∀ (uppers : List Int) (teff : Int), let i := plainLookup uppers teff
    (i ≤ 7 ∧ ∀ j, j < i → uppers.getD j 0 < teff) ∧ ((∃ j, j < 8 ∧ teff ≤ uppers.getD j 0) → teff ≤ uppers.getD i 0) ∧
    ((∀ j, j < 8 → uppers.getD j 0 < teff) → i = 7)) ∧
  (let u := State.reset.uppers;
    plainLookup u (-40) = 0 ∧ plainLookup u 0 = 0 ∧ plainLookup u 1 = 1 ∧ plainLookup u 38 = 3 ∧
    plainLookup u 39 = 4 ∧ plainLookup u 125 = 7 ∧ plainLookup u 140 = 7)

/-- A cell with no band takes the plain lookup; one in band i keeps it while T_eff lies above UPPER of i - 1 less 2 and at
or below UPPER of i plus 2, with no lower bound for band 0 and no upper bound for band 7, and takes the plain lookup
outside. -/
def Obligations.BandWindow : Prop :=
  ∀ (uppers : List Int) (teff : Int),
    nextBand uppers none teff = plainLookup uppers teff ∧
    ∀ i, i ≤ 7 →
      let within := (i = 0 ∨ uppers.getD (i - 1) 0 - 2 < teff) ∧ (i = 7 ∨ teff ≤ uppers.getD i 0 + 2)
      (within → nextBand uppers (some i) teff = i) ∧
      (¬ within → nextBand uppers (some i) teff = plainLookup uppers teff)
end

