-- ==== Sys2Proof/Laws/State.lean ====
section
/-! SUPPORT. The updates of State: what each sets, and that it leaves every other field, each true by computation. -/

namespace Sys2Proof.Machine

@[simp] theorem State.setCell_fields (s : State) (c : CellId) (x : CellPath) :
    (s.setCell c x).fold = s.fold ∧ (s.setCell c x).timer = s.timer ∧ (s.setCell c x).converter = s.converter ∧
    (s.setCell c x).gauge = s.gauge ∧ (s.setCell c x).bands = s.bands ∧ (s.setCell c x).channels = s.channels ∧
    (s.setCell c x).allocator = s.allocator ∧ (s.setCell c x).transfer = s.transfer ∧
    (s.setCell c x).selector = s.selector ∧ (s.setCell c x).seq = s.seq ∧ (s.setCell c x).mem = s.mem ∧
    (s.setCell c x).arbiter = s.arbiter ∧ (s.setCell c x).refresh = s.refresh ∧ (s.setCell c x).port = s.port ∧
    (s.setCell c x).notices = s.notices ∧ (s.setCell c x).control = s.control ∧
    (s.setCell c x).pending = s.pending ∧ (s.setCell c x).freeCounter = s.freeCounter := by repeat' constructor

@[simp] theorem State.setBand_fields (s : State) (c : CellId) (x : BandRecord) :
    (s.setBand c x).cells = s.cells ∧ (s.setBand c x).fold = s.fold ∧ (s.setBand c x).timer = s.timer ∧
    (s.setBand c x).converter = s.converter ∧ (s.setBand c x).gauge = s.gauge ∧
    (s.setBand c x).channels = s.channels ∧ (s.setBand c x).allocator = s.allocator ∧
    (s.setBand c x).transfer = s.transfer ∧ (s.setBand c x).selector = s.selector ∧ (s.setBand c x).seq = s.seq ∧
    (s.setBand c x).mem = s.mem ∧ (s.setBand c x).arbiter = s.arbiter ∧ (s.setBand c x).refresh = s.refresh ∧
    (s.setBand c x).port = s.port ∧ (s.setBand c x).notices = s.notices ∧ (s.setBand c x).control = s.control ∧
    (s.setBand c x).pending = s.pending ∧ (s.setBand c x).freeCounter = s.freeCounter := by repeat' constructor

@[simp] theorem State.setChannel_fields (s : State) (c : CellId) (x : Channel) :
    (s.setChannel c x).cells = s.cells ∧ (s.setChannel c x).fold = s.fold ∧ (s.setChannel c x).timer = s.timer ∧
    (s.setChannel c x).converter = s.converter ∧ (s.setChannel c x).gauge = s.gauge ∧
    (s.setChannel c x).bands = s.bands ∧ (s.setChannel c x).allocator = s.allocator ∧
    (s.setChannel c x).transfer = s.transfer ∧ (s.setChannel c x).selector = s.selector ∧
    (s.setChannel c x).seq = s.seq ∧ (s.setChannel c x).mem = s.mem ∧ (s.setChannel c x).arbiter = s.arbiter ∧
    (s.setChannel c x).refresh = s.refresh ∧ (s.setChannel c x).port = s.port ∧
    (s.setChannel c x).notices = s.notices ∧ (s.setChannel c x).control = s.control ∧
    (s.setChannel c x).pending = s.pending ∧ (s.setChannel c x).freeCounter = s.freeCounter := by repeat' constructor

@[simp] theorem State.writeWord_fields (s : State) (i : Nat) (w : Word) :
    (s.writeWord i w).mem = Memory.writeWord s.mem i w ∧ (s.writeWord i w).cells = s.cells ∧
    (s.writeWord i w).fold = s.fold ∧ (s.writeWord i w).timer = s.timer ∧
    (s.writeWord i w).converter = s.converter ∧ (s.writeWord i w).gauge = s.gauge ∧
    (s.writeWord i w).bands = s.bands ∧ (s.writeWord i w).channels = s.channels ∧
    (s.writeWord i w).allocator = s.allocator ∧ (s.writeWord i w).transfer = s.transfer ∧
    (s.writeWord i w).selector = s.selector ∧ (s.writeWord i w).seq = s.seq ∧
    (s.writeWord i w).arbiter = s.arbiter ∧ (s.writeWord i w).refresh = s.refresh ∧
    (s.writeWord i w).port = s.port ∧ (s.writeWord i w).notices = s.notices ∧
    (s.writeWord i w).control = s.control ∧ (s.writeWord i w).pending = s.pending ∧
    (s.writeWord i w).freeCounter = s.freeCounter := by repeat' constructor

@[simp] theorem State.setArbiter_fields (s : State) (x : Arbiter) :
    (s.setArbiter x).arbiter = x ∧ (s.setArbiter x).cells = s.cells ∧ (s.setArbiter x).fold = s.fold ∧
    (s.setArbiter x).timer = s.timer ∧ (s.setArbiter x).converter = s.converter ∧
    (s.setArbiter x).gauge = s.gauge ∧ (s.setArbiter x).bands = s.bands ∧ (s.setArbiter x).channels = s.channels ∧
    (s.setArbiter x).allocator = s.allocator ∧ (s.setArbiter x).transfer = s.transfer ∧
    (s.setArbiter x).selector = s.selector ∧ (s.setArbiter x).seq = s.seq ∧ (s.setArbiter x).mem = s.mem ∧
    (s.setArbiter x).refresh = s.refresh ∧ (s.setArbiter x).port = s.port ∧ (s.setArbiter x).notices = s.notices ∧
    (s.setArbiter x).control = s.control ∧ (s.setArbiter x).pending = s.pending ∧
    (s.setArbiter x).freeCounter = s.freeCounter := by repeat' constructor

@[simp] theorem State.setSticky_fields (s : State) (c : StickyCause) (v : Bool) :
    (s.setSticky c v).notices = { s.notices with sticky := s.notices.sticky.set c v } ∧
    (s.setSticky c v).cells = s.cells ∧ (s.setSticky c v).fold = s.fold ∧ (s.setSticky c v).timer = s.timer ∧
    (s.setSticky c v).converter = s.converter ∧ (s.setSticky c v).gauge = s.gauge ∧
    (s.setSticky c v).bands = s.bands ∧ (s.setSticky c v).channels = s.channels ∧
    (s.setSticky c v).allocator = s.allocator ∧ (s.setSticky c v).transfer = s.transfer ∧
    (s.setSticky c v).selector = s.selector ∧ (s.setSticky c v).seq = s.seq ∧ (s.setSticky c v).mem = s.mem ∧
    (s.setSticky c v).arbiter = s.arbiter ∧ (s.setSticky c v).refresh = s.refresh ∧
    (s.setSticky c v).port = s.port ∧ (s.setSticky c v).control = s.control ∧
    (s.setSticky c v).pending = s.pending ∧ (s.setSticky c v).freeCounter = s.freeCounter := by repeat' constructor

@[simp] theorem State.raise_fields (s : State) (c : StickyCause) :
    (s.raise c).notices = { s.notices with sticky := s.notices.sticky.set c true } ∧ (s.raise c).cells = s.cells ∧
    (s.raise c).fold = s.fold ∧ (s.raise c).timer = s.timer ∧ (s.raise c).converter = s.converter ∧
    (s.raise c).gauge = s.gauge ∧ (s.raise c).bands = s.bands ∧ (s.raise c).channels = s.channels ∧
    (s.raise c).allocator = s.allocator ∧ (s.raise c).transfer = s.transfer ∧ (s.raise c).selector = s.selector ∧
    (s.raise c).seq = s.seq ∧ (s.raise c).mem = s.mem ∧ (s.raise c).arbiter = s.arbiter ∧
    (s.raise c).refresh = s.refresh ∧ (s.raise c).port = s.port ∧ (s.raise c).control = s.control ∧
    (s.raise c).pending = s.pending ∧ (s.raise c).freeCounter = s.freeCounter := by repeat' constructor

@[simp] theorem State.setTransfer_fields (s : State) (x : Transfer) :
    (s.setTransfer x).transfer = x ∧ (s.setTransfer x).cells = s.cells ∧ (s.setTransfer x).fold = s.fold ∧
    (s.setTransfer x).timer = s.timer ∧ (s.setTransfer x).converter = s.converter ∧
    (s.setTransfer x).gauge = s.gauge ∧ (s.setTransfer x).bands = s.bands ∧
    (s.setTransfer x).channels = s.channels ∧ (s.setTransfer x).allocator = s.allocator ∧
    (s.setTransfer x).selector = s.selector ∧ (s.setTransfer x).seq = s.seq ∧ (s.setTransfer x).mem = s.mem ∧
    (s.setTransfer x).arbiter = s.arbiter ∧ (s.setTransfer x).refresh = s.refresh ∧
    (s.setTransfer x).port = s.port ∧ (s.setTransfer x).notices = s.notices ∧
    (s.setTransfer x).control = s.control ∧ (s.setTransfer x).pending = s.pending ∧
    (s.setTransfer x).freeCounter = s.freeCounter := by repeat' constructor

@[simp] theorem State.setSelector_fields (s : State) (x : Selector) :
    (s.setSelector x).selector = x ∧ (s.setSelector x).cells = s.cells ∧ (s.setSelector x).fold = s.fold ∧
    (s.setSelector x).timer = s.timer ∧ (s.setSelector x).converter = s.converter ∧
    (s.setSelector x).gauge = s.gauge ∧ (s.setSelector x).bands = s.bands ∧
    (s.setSelector x).channels = s.channels ∧ (s.setSelector x).allocator = s.allocator ∧
    (s.setSelector x).transfer = s.transfer ∧ (s.setSelector x).seq = s.seq ∧ (s.setSelector x).mem = s.mem ∧
    (s.setSelector x).arbiter = s.arbiter ∧ (s.setSelector x).refresh = s.refresh ∧
    (s.setSelector x).port = s.port ∧ (s.setSelector x).notices = s.notices ∧
    (s.setSelector x).control = s.control ∧ (s.setSelector x).pending = s.pending ∧
    (s.setSelector x).freeCounter = s.freeCounter := by repeat' constructor

@[simp] theorem State.setSeq_fields (s : State) (x : Sequencer) :
    (s.setSeq x).seq = x ∧ (s.setSeq x).cells = s.cells ∧ (s.setSeq x).fold = s.fold ∧
    (s.setSeq x).timer = s.timer ∧ (s.setSeq x).converter = s.converter ∧ (s.setSeq x).gauge = s.gauge ∧
    (s.setSeq x).bands = s.bands ∧ (s.setSeq x).channels = s.channels ∧ (s.setSeq x).allocator = s.allocator ∧
    (s.setSeq x).transfer = s.transfer ∧ (s.setSeq x).selector = s.selector ∧ (s.setSeq x).mem = s.mem ∧
    (s.setSeq x).arbiter = s.arbiter ∧ (s.setSeq x).refresh = s.refresh ∧ (s.setSeq x).port = s.port ∧
    (s.setSeq x).notices = s.notices ∧ (s.setSeq x).control = s.control ∧ (s.setSeq x).pending = s.pending ∧
    (s.setSeq x).freeCounter = s.freeCounter := by repeat' constructor

@[simp] theorem State.setGauge_fields (s : State) (x : List GaugeEntry) :
    (s.setGauge x).gauge = x ∧ (s.setGauge x).cells = s.cells ∧ (s.setGauge x).fold = s.fold ∧
    (s.setGauge x).timer = s.timer ∧ (s.setGauge x).converter = s.converter ∧ (s.setGauge x).bands = s.bands ∧
    (s.setGauge x).channels = s.channels ∧ (s.setGauge x).allocator = s.allocator ∧
    (s.setGauge x).transfer = s.transfer ∧ (s.setGauge x).selector = s.selector ∧ (s.setGauge x).seq = s.seq ∧
    (s.setGauge x).mem = s.mem ∧ (s.setGauge x).arbiter = s.arbiter ∧ (s.setGauge x).refresh = s.refresh ∧
    (s.setGauge x).port = s.port ∧ (s.setGauge x).notices = s.notices ∧ (s.setGauge x).control = s.control ∧
    (s.setGauge x).pending = s.pending ∧ (s.setGauge x).freeCounter = s.freeCounter := by repeat' constructor

@[simp] theorem State.setRefresh_fields (s : State) (x : Refresh) :
    (s.setRefresh x).refresh = x ∧ (s.setRefresh x).cells = s.cells ∧ (s.setRefresh x).fold = s.fold ∧
    (s.setRefresh x).timer = s.timer ∧ (s.setRefresh x).converter = s.converter ∧
    (s.setRefresh x).gauge = s.gauge ∧ (s.setRefresh x).bands = s.bands ∧ (s.setRefresh x).channels = s.channels ∧
    (s.setRefresh x).allocator = s.allocator ∧ (s.setRefresh x).transfer = s.transfer ∧
    (s.setRefresh x).selector = s.selector ∧ (s.setRefresh x).seq = s.seq ∧ (s.setRefresh x).mem = s.mem ∧
    (s.setRefresh x).arbiter = s.arbiter ∧ (s.setRefresh x).port = s.port ∧ (s.setRefresh x).notices = s.notices ∧
    (s.setRefresh x).control = s.control ∧ (s.setRefresh x).pending = s.pending ∧
    (s.setRefresh x).freeCounter = s.freeCounter := by repeat' constructor

@[simp] theorem State.setPort_fields (s : State) (x : Port) :
    (s.setPort x).port = x ∧ (s.setPort x).cells = s.cells ∧ (s.setPort x).fold = s.fold ∧
    (s.setPort x).timer = s.timer ∧ (s.setPort x).converter = s.converter ∧ (s.setPort x).gauge = s.gauge ∧
    (s.setPort x).bands = s.bands ∧ (s.setPort x).channels = s.channels ∧ (s.setPort x).allocator = s.allocator ∧
    (s.setPort x).transfer = s.transfer ∧ (s.setPort x).selector = s.selector ∧ (s.setPort x).seq = s.seq ∧
    (s.setPort x).mem = s.mem ∧ (s.setPort x).arbiter = s.arbiter ∧ (s.setPort x).refresh = s.refresh ∧
    (s.setPort x).notices = s.notices ∧ (s.setPort x).control = s.control ∧ (s.setPort x).pending = s.pending ∧
    (s.setPort x).freeCounter = s.freeCounter := by repeat' constructor

@[simp] theorem State.setAllocator_fields (s : State) (x : Allocator) :
    (s.setAllocator x).allocator = x ∧ (s.setAllocator x).cells = s.cells ∧ (s.setAllocator x).fold = s.fold ∧
    (s.setAllocator x).timer = s.timer ∧ (s.setAllocator x).converter = s.converter ∧
    (s.setAllocator x).gauge = s.gauge ∧ (s.setAllocator x).bands = s.bands ∧
    (s.setAllocator x).channels = s.channels ∧ (s.setAllocator x).transfer = s.transfer ∧
    (s.setAllocator x).selector = s.selector ∧ (s.setAllocator x).seq = s.seq ∧ (s.setAllocator x).mem = s.mem ∧
    (s.setAllocator x).arbiter = s.arbiter ∧ (s.setAllocator x).refresh = s.refresh ∧
    (s.setAllocator x).port = s.port ∧ (s.setAllocator x).notices = s.notices ∧
    (s.setAllocator x).control = s.control ∧ (s.setAllocator x).pending = s.pending ∧
    (s.setAllocator x).freeCounter = s.freeCounter := by repeat' constructor

@[simp] theorem State.setControl_fields (s : State) (x : Controller) :
    (s.setControl x).control = x ∧ (s.setControl x).cells = s.cells ∧ (s.setControl x).fold = s.fold ∧
    (s.setControl x).timer = s.timer ∧ (s.setControl x).converter = s.converter ∧
    (s.setControl x).gauge = s.gauge ∧ (s.setControl x).bands = s.bands ∧ (s.setControl x).channels = s.channels ∧
    (s.setControl x).allocator = s.allocator ∧ (s.setControl x).transfer = s.transfer ∧
    (s.setControl x).selector = s.selector ∧ (s.setControl x).seq = s.seq ∧ (s.setControl x).mem = s.mem ∧
    (s.setControl x).arbiter = s.arbiter ∧ (s.setControl x).refresh = s.refresh ∧ (s.setControl x).port = s.port ∧
    (s.setControl x).notices = s.notices ∧ (s.setControl x).pending = s.pending ∧
    (s.setControl x).freeCounter = s.freeCounter := by repeat' constructor

@[simp] theorem State.setTimer_fields (s : State) (x : PeriodTimer) :
    (s.setTimer x).timer = x ∧ (s.setTimer x).cells = s.cells ∧ (s.setTimer x).fold = s.fold ∧
    (s.setTimer x).converter = s.converter ∧ (s.setTimer x).gauge = s.gauge ∧ (s.setTimer x).bands = s.bands ∧
    (s.setTimer x).channels = s.channels ∧ (s.setTimer x).allocator = s.allocator ∧
    (s.setTimer x).transfer = s.transfer ∧ (s.setTimer x).selector = s.selector ∧ (s.setTimer x).seq = s.seq ∧
    (s.setTimer x).mem = s.mem ∧ (s.setTimer x).arbiter = s.arbiter ∧ (s.setTimer x).refresh = s.refresh ∧
    (s.setTimer x).port = s.port ∧ (s.setTimer x).notices = s.notices ∧ (s.setTimer x).control = s.control ∧
    (s.setTimer x).pending = s.pending ∧ (s.setTimer x).freeCounter = s.freeCounter := by repeat' constructor

@[simp] theorem State.setConverter_fields (s : State) (x : Converter) :
    (s.setConverter x).converter = x ∧ (s.setConverter x).cells = s.cells ∧ (s.setConverter x).fold = s.fold ∧
    (s.setConverter x).timer = s.timer ∧ (s.setConverter x).gauge = s.gauge ∧ (s.setConverter x).bands = s.bands ∧
    (s.setConverter x).channels = s.channels ∧ (s.setConverter x).allocator = s.allocator ∧
    (s.setConverter x).transfer = s.transfer ∧ (s.setConverter x).selector = s.selector ∧
    (s.setConverter x).seq = s.seq ∧ (s.setConverter x).mem = s.mem ∧ (s.setConverter x).arbiter = s.arbiter ∧
    (s.setConverter x).refresh = s.refresh ∧ (s.setConverter x).port = s.port ∧
    (s.setConverter x).notices = s.notices ∧ (s.setConverter x).control = s.control ∧
    (s.setConverter x).pending = s.pending ∧ (s.setConverter x).freeCounter = s.freeCounter := by repeat' constructor

@[simp] theorem State.withPending_fields (s : State) (q : List Instr) :
    (s.withPending q).pending = q ∧ (s.withPending q).cells = s.cells ∧ (s.withPending q).fold = s.fold ∧
    (s.withPending q).timer = s.timer ∧ (s.withPending q).converter = s.converter ∧
    (s.withPending q).gauge = s.gauge ∧ (s.withPending q).bands = s.bands ∧
    (s.withPending q).channels = s.channels ∧ (s.withPending q).allocator = s.allocator ∧
    (s.withPending q).transfer = s.transfer ∧ (s.withPending q).selector = s.selector ∧
    (s.withPending q).seq = s.seq ∧ (s.withPending q).mem = s.mem ∧ (s.withPending q).arbiter = s.arbiter ∧
    (s.withPending q).refresh = s.refresh ∧ (s.withPending q).port = s.port ∧
    (s.withPending q).notices = s.notices ∧ (s.withPending q).control = s.control ∧
    (s.withPending q).freeCounter = s.freeCounter := by repeat' constructor

@[simp] theorem State.tick_fields (s : State) :
    s.tick.freeCounter = s.freeCounter + 1 ∧ (s.tick).cells = s.cells ∧ (s.tick).fold = s.fold ∧
    (s.tick).timer = s.timer ∧ (s.tick).converter = s.converter ∧ (s.tick).gauge = s.gauge ∧
    (s.tick).bands = s.bands ∧ (s.tick).channels = s.channels ∧ (s.tick).allocator = s.allocator ∧
    (s.tick).transfer = s.transfer ∧ (s.tick).selector = s.selector ∧ (s.tick).seq = s.seq ∧ (s.tick).mem = s.mem ∧
    (s.tick).arbiter = s.arbiter ∧ (s.tick).refresh = s.refresh ∧ (s.tick).port = s.port ∧
    (s.tick).notices = s.notices ∧ (s.tick).control = s.control ∧ (s.tick).pending = s.pending := by repeat' constructor

@[simp] theorem State.modAllocation_fields (s : State) (f : Allocation → Allocation) :
    (s.modAllocation f).allocator = { s.allocator with inFlight := s.allocator.inFlight.map f } ∧
    (s.modAllocation f).cells = s.cells ∧ (s.modAllocation f).fold = s.fold ∧ (s.modAllocation f).timer = s.timer ∧
    (s.modAllocation f).converter = s.converter ∧ (s.modAllocation f).gauge = s.gauge ∧
    (s.modAllocation f).bands = s.bands ∧ (s.modAllocation f).channels = s.channels ∧
    (s.modAllocation f).transfer = s.transfer ∧ (s.modAllocation f).selector = s.selector ∧
    (s.modAllocation f).seq = s.seq ∧ (s.modAllocation f).mem = s.mem ∧ (s.modAllocation f).arbiter = s.arbiter ∧
    (s.modAllocation f).refresh = s.refresh ∧ (s.modAllocation f).port = s.port ∧
    (s.modAllocation f).notices = s.notices ∧ (s.modAllocation f).control = s.control ∧
    (s.modAllocation f).pending = s.pending ∧ (s.modAllocation f).freeCounter = s.freeCounter := by repeat' constructor

@[simp] theorem PerCell.get_set_same {α : Type} (p : PerCell α) (c : CellId) (x : α) : (p.set c x).get c = x := by
  cases c <;> rfl

@[simp] theorem PerCell.get_set_other {α : Type} (p : PerCell α) (c : CellId) (x : α) :
    (p.set c x).get (otherCell c) = p.get (otherCell c) := by
  cases c <;> rfl

theorem PerCell.get_set {α : Type} (p : PerCell α) (c d : CellId) (x : α) :
    (p.set c x).get d = if d = c then x else p.get d := by
  cases c <;> cases d <;> rfl

@[simp] theorem State.cell_setCell_same (s : State) (c : CellId) (x : CellPath) : (s.setCell c x).cell c = x := by
  cases c <;> rfl

@[simp] theorem State.cell_setCell_other (s : State) (c : CellId) (x : CellPath) :
    (s.setCell c x).cell (otherCell c) = s.cell (otherCell c) := by
  cases c <;> rfl

@[simp] theorem State.channel_setChannel_same (s : State) (c : CellId) (x : Channel) :
    (s.setChannel c x).channel c = x := by
  cases c <;> rfl

@[simp] theorem State.setCell_cells (s : State) (c : CellId) (x : CellPath) :
    (s.setCell c x).cells = s.cells.set c x := rfl

@[simp] theorem State.setBand_bands (s : State) (c : CellId) (x : BandRecord) :
    (s.setBand c x).bands = s.bands.set c x := rfl

@[simp] theorem State.setChannel_channels (s : State) (c : CellId) (x : Channel) :
    (s.setChannel c x).channels = s.channels.set c x := rfl

end Sys2Proof.Machine
end

