-- ==== Sys2Proof/Laws/Frames.lean ====
section
/-! SUPPORT. What each operation leaves unchanged: every field of State that the operation does not touch. -/

namespace Sys2Proof.Machine

@[simp] theorem State.setQF_frame (s : State) (c : CellId) (q f : Nat) :
    (s.setQF c q f).cells = s.cells ∧ (s.setQF c q f).fold = s.fold ∧ (s.setQF c q f).timer = s.timer ∧
    (s.setQF c q f).converter = s.converter ∧ (s.setQF c q f).gauge = s.gauge ∧ (s.setQF c q f).bands = s.bands ∧
    (s.setQF c q f).channels = s.channels ∧ (s.setQF c q f).allocator = s.allocator ∧
    (s.setQF c q f).transfer = s.transfer ∧ (s.setQF c q f).selector = s.selector ∧ (s.setQF c q f).seq = s.seq ∧
    (s.setQF c q f).arbiter = s.arbiter ∧ (s.setQF c q f).refresh = s.refresh ∧ (s.setQF c q f).port = s.port ∧
    (s.setQF c q f).notices = s.notices ∧ (s.setQF c q f).control = s.control ∧
    (s.setQF c q f).pending = s.pending ∧ (s.setQF c q f).freeCounter = s.freeCounter := by
  simp [State.setQF]

@[simp] theorem State.requestGauge_frame (s : State) :
    (s.requestGauge).cells = s.cells ∧ (s.requestGauge).fold = s.fold ∧ (s.requestGauge).timer = s.timer ∧
    (s.requestGauge).converter = s.converter ∧ (s.requestGauge).gauge = s.gauge ∧
    (s.requestGauge).bands = s.bands ∧ (s.requestGauge).channels = s.channels ∧
    (s.requestGauge).allocator = s.allocator ∧ (s.requestGauge).transfer = s.transfer ∧
    (s.requestGauge).selector = s.selector ∧ (s.requestGauge).seq = s.seq ∧ (s.requestGauge).mem = s.mem ∧
    (s.requestGauge).refresh = s.refresh ∧ (s.requestGauge).port = s.port ∧ (s.requestGauge).notices = s.notices ∧
    (s.requestGauge).control = s.control ∧ (s.requestGauge).pending = s.pending ∧
    (s.requestGauge).freeCounter = s.freeCounter := by
  simp [State.requestGauge]

@[simp] theorem State.endTransaction_frame (s : State) :
    (s.endTransaction).cells = s.cells ∧ (s.endTransaction).fold = s.fold ∧ (s.endTransaction).timer = s.timer ∧
    (s.endTransaction).converter = s.converter ∧ (s.endTransaction).gauge = s.gauge ∧
    (s.endTransaction).bands = s.bands ∧ (s.endTransaction).channels = s.channels ∧
    (s.endTransaction).allocator = s.allocator ∧ (s.endTransaction).transfer = s.transfer ∧
    (s.endTransaction).selector = s.selector ∧ (s.endTransaction).seq = s.seq ∧ (s.endTransaction).mem = s.mem ∧
    (s.endTransaction).refresh = s.refresh ∧ (s.endTransaction).port = s.port ∧
    (s.endTransaction).notices = s.notices ∧ (s.endTransaction).control = s.control ∧
    (s.endTransaction).pending = s.pending ∧ (s.endTransaction).freeCounter = s.freeCounter := by
  simp [State.endTransaction]

@[simp] theorem State.withdrawSeq_frame (s : State) :
    (s.withdrawSeq).cells = s.cells ∧ (s.withdrawSeq).fold = s.fold ∧ (s.withdrawSeq).timer = s.timer ∧
    (s.withdrawSeq).converter = s.converter ∧ (s.withdrawSeq).gauge = s.gauge ∧ (s.withdrawSeq).bands = s.bands ∧
    (s.withdrawSeq).channels = s.channels ∧ (s.withdrawSeq).allocator = s.allocator ∧
    (s.withdrawSeq).transfer = s.transfer ∧ (s.withdrawSeq).selector = s.selector ∧ (s.withdrawSeq).mem = s.mem ∧
    (s.withdrawSeq).refresh = s.refresh ∧ (s.withdrawSeq).port = s.port ∧ (s.withdrawSeq).notices = s.notices ∧
    (s.withdrawSeq).control = s.control ∧ (s.withdrawSeq).pending = s.pending ∧
    (s.withdrawSeq).freeCounter = s.freeCounter := by
  simp [State.withdrawSeq]

@[simp] theorem State.clearCause_frame (s : State) (n : Nat) :
    (s.clearCause n).cells = s.cells ∧ (s.clearCause n).fold = s.fold ∧ (s.clearCause n).timer = s.timer ∧
    (s.clearCause n).converter = s.converter ∧ (s.clearCause n).gauge = s.gauge ∧
    (s.clearCause n).bands = s.bands ∧ (s.clearCause n).channels = s.channels ∧
    (s.clearCause n).allocator = s.allocator ∧ (s.clearCause n).transfer = s.transfer ∧
    (s.clearCause n).selector = s.selector ∧ (s.clearCause n).seq = s.seq ∧ (s.clearCause n).mem = s.mem ∧
    (s.clearCause n).arbiter = s.arbiter ∧ (s.clearCause n).refresh = s.refresh ∧ (s.clearCause n).port = s.port ∧
    (s.clearCause n).control = s.control ∧ (s.clearCause n).pending = s.pending ∧
    (s.clearCause n).freeCounter = s.freeCounter := by
  dsimp only [State.clearCause]
  (repeat' split) <;> simp

@[simp] theorem State.forceRest_frame (s : State) (x : StopCause) :
    (s.forceRest x).cells = s.cells ∧ (s.forceRest x).fold = s.fold ∧ (s.forceRest x).timer = s.timer ∧
    (s.forceRest x).converter = s.converter ∧ (s.forceRest x).gauge = s.gauge ∧ (s.forceRest x).bands = s.bands ∧
    (s.forceRest x).channels = s.channels ∧ (s.forceRest x).allocator = s.allocator ∧
    (s.forceRest x).selector = s.selector ∧ (s.forceRest x).seq = s.seq ∧ (s.forceRest x).mem = s.mem ∧
    (s.forceRest x).arbiter = s.arbiter ∧ (s.forceRest x).refresh = s.refresh ∧ (s.forceRest x).port = s.port ∧
    (s.forceRest x).notices = s.notices ∧ (s.forceRest x).control = s.control ∧
    (s.forceRest x).pending = s.pending ∧ (s.forceRest x).freeCounter = s.freeCounter := by
  dsimp only [State.forceRest]
  (repeat' split) <;> simp

@[simp] theorem State.forceOff_frame (s : State) (x : StopCause) :
    (s.forceOff x).cells = s.cells ∧ (s.forceOff x).fold = s.fold ∧ (s.forceOff x).timer = s.timer ∧
    (s.forceOff x).converter = s.converter ∧ (s.forceOff x).gauge = s.gauge ∧ (s.forceOff x).bands = s.bands ∧
    (s.forceOff x).channels = s.channels ∧ (s.forceOff x).allocator = s.allocator ∧
    (s.forceOff x).selector = s.selector ∧ (s.forceOff x).seq = s.seq ∧ (s.forceOff x).mem = s.mem ∧
    (s.forceOff x).arbiter = s.arbiter ∧ (s.forceOff x).refresh = s.refresh ∧ (s.forceOff x).port = s.port ∧
    (s.forceOff x).notices = s.notices ∧ (s.forceOff x).control = s.control ∧ (s.forceOff x).pending = s.pending ∧
    (s.forceOff x).freeCounter = s.freeCounter := by
  dsimp only [State.forceOff]
  (repeat' split) <;> simp

@[simp] theorem State.restAfterHeat_frame (s : State) :
    (s.restAfterHeat).cells = s.cells ∧ (s.restAfterHeat).fold = s.fold ∧ (s.restAfterHeat).timer = s.timer ∧
    (s.restAfterHeat).converter = s.converter ∧ (s.restAfterHeat).gauge = s.gauge ∧
    (s.restAfterHeat).bands = s.bands ∧ (s.restAfterHeat).channels = s.channels ∧
    (s.restAfterHeat).allocator = s.allocator ∧ (s.restAfterHeat).selector = s.selector ∧
    (s.restAfterHeat).seq = s.seq ∧ (s.restAfterHeat).mem = s.mem ∧ (s.restAfterHeat).arbiter = s.arbiter ∧
    (s.restAfterHeat).refresh = s.refresh ∧ (s.restAfterHeat).port = s.port ∧
    (s.restAfterHeat).notices = s.notices ∧ (s.restAfterHeat).control = s.control ∧
    (s.restAfterHeat).pending = s.pending ∧ (s.restAfterHeat).freeCounter = s.freeCounter := by
  simp [State.restAfterHeat]

@[simp] theorem State.stopTransferByWindow_frame (s : State) :
    (s.stopTransferByWindow).cells = s.cells ∧ (s.stopTransferByWindow).fold = s.fold ∧
    (s.stopTransferByWindow).timer = s.timer ∧ (s.stopTransferByWindow).converter = s.converter ∧
    (s.stopTransferByWindow).gauge = s.gauge ∧ (s.stopTransferByWindow).bands = s.bands ∧
    (s.stopTransferByWindow).channels = s.channels ∧ (s.stopTransferByWindow).allocator = s.allocator ∧
    (s.stopTransferByWindow).selector = s.selector ∧ (s.stopTransferByWindow).seq = s.seq ∧
    (s.stopTransferByWindow).mem = s.mem ∧ (s.stopTransferByWindow).arbiter = s.arbiter ∧
    (s.stopTransferByWindow).refresh = s.refresh ∧ (s.stopTransferByWindow).port = s.port ∧
    (s.stopTransferByWindow).notices = s.notices ∧ (s.stopTransferByWindow).control = s.control ∧
    (s.stopTransferByWindow).pending = s.pending ∧ (s.stopTransferByWindow).freeCounter = s.freeCounter := by
  simp [State.stopTransferByWindow]

@[simp] theorem State.putHold_frame (s : State) (c : CellId) (r : HoldReason) (v : Bool) :
    (s.putHold c r v).fold = s.fold ∧ (s.putHold c r v).timer = s.timer ∧
    (s.putHold c r v).converter = s.converter ∧ (s.putHold c r v).gauge = s.gauge ∧
    (s.putHold c r v).bands = s.bands ∧ (s.putHold c r v).channels = s.channels ∧
    (s.putHold c r v).allocator = s.allocator ∧ (s.putHold c r v).transfer = s.transfer ∧
    (s.putHold c r v).selector = s.selector ∧ (s.putHold c r v).seq = s.seq ∧ (s.putHold c r v).mem = s.mem ∧
    (s.putHold c r v).arbiter = s.arbiter ∧ (s.putHold c r v).refresh = s.refresh ∧
    (s.putHold c r v).port = s.port ∧ (s.putHold c r v).notices = s.notices ∧
    (s.putHold c r v).control = s.control ∧ (s.putHold c r v).pending = s.pending ∧
    (s.putHold c r v).freeCounter = s.freeCounter := by
  simp [State.putHold]

@[simp] theorem State.putHoldBoth_frame (s : State) (r : HoldReason) (v : Bool) :
    (s.putHoldBoth r v).fold = s.fold ∧ (s.putHoldBoth r v).timer = s.timer ∧
    (s.putHoldBoth r v).converter = s.converter ∧ (s.putHoldBoth r v).gauge = s.gauge ∧
    (s.putHoldBoth r v).bands = s.bands ∧ (s.putHoldBoth r v).channels = s.channels ∧
    (s.putHoldBoth r v).allocator = s.allocator ∧ (s.putHoldBoth r v).transfer = s.transfer ∧
    (s.putHoldBoth r v).selector = s.selector ∧ (s.putHoldBoth r v).seq = s.seq ∧ (s.putHoldBoth r v).mem = s.mem ∧
    (s.putHoldBoth r v).arbiter = s.arbiter ∧ (s.putHoldBoth r v).refresh = s.refresh ∧
    (s.putHoldBoth r v).port = s.port ∧ (s.putHoldBoth r v).notices = s.notices ∧
    (s.putHoldBoth r v).control = s.control ∧ (s.putHoldBoth r v).pending = s.pending ∧
    (s.putHoldBoth r v).freeCounter = s.freeCounter := by
  simp [State.putHoldBoth]

@[simp] theorem State.openPath_frame (s : State) (c : CellId) :
    (s.openPath c).fold = s.fold ∧ (s.openPath c).timer = s.timer ∧ (s.openPath c).converter = s.converter ∧
    (s.openPath c).gauge = s.gauge ∧ (s.openPath c).bands = s.bands ∧ (s.openPath c).channels = s.channels ∧
    (s.openPath c).allocator = s.allocator ∧ (s.openPath c).transfer = s.transfer ∧
    (s.openPath c).selector = s.selector ∧ (s.openPath c).seq = s.seq ∧ (s.openPath c).mem = s.mem ∧
    (s.openPath c).arbiter = s.arbiter ∧ (s.openPath c).refresh = s.refresh ∧ (s.openPath c).port = s.port ∧
    (s.openPath c).notices = s.notices ∧ (s.openPath c).control = s.control ∧ (s.openPath c).pending = s.pending ∧
    (s.openPath c).freeCounter = s.freeCounter := by
  simp [State.openPath]

@[simp] theorem State.closePath_frame (s : State) (c : CellId) :
    (s.closePath c).fold = s.fold ∧ (s.closePath c).timer = s.timer ∧ (s.closePath c).converter = s.converter ∧
    (s.closePath c).gauge = s.gauge ∧ (s.closePath c).bands = s.bands ∧ (s.closePath c).channels = s.channels ∧
    (s.closePath c).allocator = s.allocator ∧ (s.closePath c).transfer = s.transfer ∧
    (s.closePath c).selector = s.selector ∧ (s.closePath c).seq = s.seq ∧ (s.closePath c).mem = s.mem ∧
    (s.closePath c).arbiter = s.arbiter ∧ (s.closePath c).refresh = s.refresh ∧ (s.closePath c).port = s.port ∧
    (s.closePath c).notices = s.notices ∧ (s.closePath c).control = s.control ∧
    (s.closePath c).pending = s.pending ∧ (s.closePath c).freeCounter = s.freeCounter := by
  dsimp only [State.closePath]
  (repeat' split) <;> simp

@[simp] theorem State.computeVcell_frame (s : State) (r : Readings) (c : CellId) :
    (s.computeVcell r c).fold = s.fold ∧ (s.computeVcell r c).timer = s.timer ∧
    (s.computeVcell r c).converter = s.converter ∧ (s.computeVcell r c).gauge = s.gauge ∧
    (s.computeVcell r c).bands = s.bands ∧ (s.computeVcell r c).channels = s.channels ∧
    (s.computeVcell r c).allocator = s.allocator ∧ (s.computeVcell r c).transfer = s.transfer ∧
    (s.computeVcell r c).selector = s.selector ∧ (s.computeVcell r c).seq = s.seq ∧
    (s.computeVcell r c).mem = s.mem ∧ (s.computeVcell r c).arbiter = s.arbiter ∧
    (s.computeVcell r c).refresh = s.refresh ∧ (s.computeVcell r c).port = s.port ∧
    (s.computeVcell r c).notices = s.notices ∧ (s.computeVcell r c).control = s.control ∧
    (s.computeVcell r c).pending = s.pending ∧ (s.computeVcell r c).freeCounter = s.freeCounter := by
  simp [State.computeVcell]

@[simp] theorem State.followThresholds_frame (s : State) (c : CellId) :
    (s.followThresholds c).fold = s.fold ∧ (s.followThresholds c).timer = s.timer ∧
    (s.followThresholds c).converter = s.converter ∧ (s.followThresholds c).gauge = s.gauge ∧
    (s.followThresholds c).bands = s.bands ∧ (s.followThresholds c).channels = s.channels ∧
    (s.followThresholds c).allocator = s.allocator ∧ (s.followThresholds c).transfer = s.transfer ∧
    (s.followThresholds c).selector = s.selector ∧ (s.followThresholds c).seq = s.seq ∧
    (s.followThresholds c).mem = s.mem ∧ (s.followThresholds c).arbiter = s.arbiter ∧
    (s.followThresholds c).refresh = s.refresh ∧ (s.followThresholds c).port = s.port ∧
    (s.followThresholds c).notices = s.notices ∧ (s.followThresholds c).control = s.control ∧
    (s.followThresholds c).pending = s.pending ∧ (s.followThresholds c).freeCounter = s.freeCounter := by
  simp [State.followThresholds]

@[simp] theorem State.tripCell_frame (s : State) (c : CellId) (r : TripRecord) :
    (s.tripCell c r).fold = s.fold ∧ (s.tripCell c r).timer = s.timer ∧ (s.tripCell c r).converter = s.converter ∧
    (s.tripCell c r).gauge = s.gauge ∧ (s.tripCell c r).bands = s.bands ∧ (s.tripCell c r).channels = s.channels ∧
    (s.tripCell c r).allocator = s.allocator ∧ (s.tripCell c r).selector = s.selector ∧
    (s.tripCell c r).seq = s.seq ∧ (s.tripCell c r).mem = s.mem ∧ (s.tripCell c r).arbiter = s.arbiter ∧
    (s.tripCell c r).refresh = s.refresh ∧ (s.tripCell c r).port = s.port ∧ (s.tripCell c r).control = s.control ∧
    (s.tripCell c r).pending = s.pending ∧ (s.tripCell c r).freeCounter = s.freeCounter := by
  simp [State.tripCell]

@[simp] theorem State.fastEvent_frame (s : State) (c : CellId) (x : TripCause) :
    (s.fastEvent c x).fold = s.fold ∧ (s.fastEvent c x).timer = s.timer ∧
    (s.fastEvent c x).converter = s.converter ∧ (s.fastEvent c x).gauge = s.gauge ∧
    (s.fastEvent c x).bands = s.bands ∧ (s.fastEvent c x).channels = s.channels ∧
    (s.fastEvent c x).allocator = s.allocator ∧ (s.fastEvent c x).selector = s.selector ∧
    (s.fastEvent c x).seq = s.seq ∧ (s.fastEvent c x).mem = s.mem ∧ (s.fastEvent c x).arbiter = s.arbiter ∧
    (s.fastEvent c x).refresh = s.refresh ∧ (s.fastEvent c x).port = s.port ∧
    (s.fastEvent c x).control = s.control ∧ (s.fastEvent c x).pending = s.pending ∧
    (s.fastEvent c x).freeCounter = s.freeCounter := by
  dsimp only [State.fastEvent]
  (repeat' split) <;> simp

@[simp] theorem State.becomeAbsent_frame (s : State) (c : CellId) :
    (s.becomeAbsent c).fold = s.fold ∧ (s.becomeAbsent c).timer = s.timer ∧
    (s.becomeAbsent c).converter = s.converter ∧ (s.becomeAbsent c).gauge = s.gauge ∧
    (s.becomeAbsent c).bands = s.bands ∧ (s.becomeAbsent c).channels = s.channels ∧
    (s.becomeAbsent c).selector = s.selector ∧ (s.becomeAbsent c).seq = s.seq ∧ (s.becomeAbsent c).mem = s.mem ∧
    (s.becomeAbsent c).arbiter = s.arbiter ∧ (s.becomeAbsent c).refresh = s.refresh ∧
    (s.becomeAbsent c).port = s.port ∧ (s.becomeAbsent c).notices = s.notices ∧
    (s.becomeAbsent c).control = s.control ∧ (s.becomeAbsent c).pending = s.pending ∧
    (s.becomeAbsent c).freeCounter = s.freeCounter := by
  simp [State.becomeAbsent]

@[simp] theorem State.testCellAtScan_frame (s : State) (r : ScanRecord) (c : CellId) :
    (s.testCellAtScan r c).fold = s.fold ∧ (s.testCellAtScan r c).timer = s.timer ∧
    (s.testCellAtScan r c).converter = s.converter ∧ (s.testCellAtScan r c).gauge = s.gauge ∧
    (s.testCellAtScan r c).bands = s.bands ∧ (s.testCellAtScan r c).channels = s.channels ∧
    (s.testCellAtScan r c).selector = s.selector ∧ (s.testCellAtScan r c).seq = s.seq ∧
    (s.testCellAtScan r c).mem = s.mem ∧ (s.testCellAtScan r c).arbiter = s.arbiter ∧
    (s.testCellAtScan r c).refresh = s.refresh ∧ (s.testCellAtScan r c).port = s.port ∧
    (s.testCellAtScan r c).control = s.control ∧ (s.testCellAtScan r c).pending = s.pending ∧
    (s.testCellAtScan r c).freeCounter = s.freeCounter := by
  dsimp only [State.testCellAtScan]
  (repeat' split) <;> simp

@[simp] theorem State.setReleaseResult_frame (s : State) (c : CellId) (r : ReleaseResult) :
    (s.setReleaseResult c r).fold = s.fold ∧ (s.setReleaseResult c r).timer = s.timer ∧
    (s.setReleaseResult c r).converter = s.converter ∧ (s.setReleaseResult c r).gauge = s.gauge ∧
    (s.setReleaseResult c r).bands = s.bands ∧ (s.setReleaseResult c r).channels = s.channels ∧
    (s.setReleaseResult c r).allocator = s.allocator ∧ (s.setReleaseResult c r).transfer = s.transfer ∧
    (s.setReleaseResult c r).selector = s.selector ∧ (s.setReleaseResult c r).seq = s.seq ∧
    (s.setReleaseResult c r).mem = s.mem ∧ (s.setReleaseResult c r).arbiter = s.arbiter ∧
    (s.setReleaseResult c r).refresh = s.refresh ∧ (s.setReleaseResult c r).port = s.port ∧
    (s.setReleaseResult c r).notices = s.notices ∧ (s.setReleaseResult c r).control = s.control ∧
    (s.setReleaseResult c r).pending = s.pending ∧ (s.setReleaseResult c r).freeCounter = s.freeCounter := by
  simp [State.setReleaseResult]

@[simp] theorem State.release_frame (s : State) (c : CellId) :
    (s.release c).fold = s.fold ∧ (s.release c).timer = s.timer ∧ (s.release c).converter = s.converter ∧
    (s.release c).gauge = s.gauge ∧ (s.release c).bands = s.bands ∧ (s.release c).channels = s.channels ∧
    (s.release c).transfer = s.transfer ∧ (s.release c).selector = s.selector ∧ (s.release c).seq = s.seq ∧
    (s.release c).mem = s.mem ∧ (s.release c).arbiter = s.arbiter ∧ (s.release c).refresh = s.refresh ∧
    (s.release c).port = s.port ∧ (s.release c).notices = s.notices ∧ (s.release c).control = s.control ∧
    (s.release c).pending = s.pending ∧ (s.release c).freeCounter = s.freeCounter := by
  dsimp only [State.release]
  (repeat' split) <;> simp

@[simp] theorem State.zeroCharge_frame (s : State) (c : CellId) :
    (s.zeroCharge c).fold = s.fold ∧ (s.zeroCharge c).timer = s.timer ∧ (s.zeroCharge c).converter = s.converter ∧
    (s.zeroCharge c).gauge = s.gauge ∧ (s.zeroCharge c).bands = s.bands ∧ (s.zeroCharge c).channels = s.channels ∧
    (s.zeroCharge c).allocator = s.allocator ∧ (s.zeroCharge c).transfer = s.transfer ∧
    (s.zeroCharge c).selector = s.selector ∧ (s.zeroCharge c).seq = s.seq ∧ (s.zeroCharge c).mem = s.mem ∧
    (s.zeroCharge c).arbiter = s.arbiter ∧ (s.zeroCharge c).refresh = s.refresh ∧ (s.zeroCharge c).port = s.port ∧
    (s.zeroCharge c).notices = s.notices ∧ (s.zeroCharge c).control = s.control ∧
    (s.zeroCharge c).pending = s.pending ∧ (s.zeroCharge c).freeCounter = s.freeCounter := by
  dsimp only [State.zeroCharge]
  (repeat' split) <;> simp

@[simp] theorem State.sampleFold_frame (s : State) (b : Bool) :
    (s.sampleFold b).cells = s.cells ∧ (s.sampleFold b).timer = s.timer ∧
    (s.sampleFold b).converter = s.converter ∧ (s.sampleFold b).gauge = s.gauge ∧
    (s.sampleFold b).bands = s.bands ∧ (s.sampleFold b).channels = s.channels ∧
    (s.sampleFold b).allocator = s.allocator ∧ (s.sampleFold b).transfer = s.transfer ∧
    (s.sampleFold b).selector = s.selector ∧ (s.sampleFold b).seq = s.seq ∧ (s.sampleFold b).mem = s.mem ∧
    (s.sampleFold b).arbiter = s.arbiter ∧ (s.sampleFold b).refresh = s.refresh ∧ (s.sampleFold b).port = s.port ∧
    (s.sampleFold b).control = s.control ∧ (s.sampleFold b).pending = s.pending ∧
    (s.sampleFold b).freeCounter = s.freeCounter := by
  dsimp only [State.sampleFold]
  (repeat' split) <;> simp

@[simp] theorem State.setDetection_frame (s : State) (i : Input) (d : Detection) :
    (s.setDetection i d).cells = s.cells ∧ (s.setDetection i d).fold = s.fold ∧
    (s.setDetection i d).timer = s.timer ∧ (s.setDetection i d).converter = s.converter ∧
    (s.setDetection i d).gauge = s.gauge ∧ (s.setDetection i d).bands = s.bands ∧
    (s.setDetection i d).channels = s.channels ∧ (s.setDetection i d).allocator = s.allocator ∧
    (s.setDetection i d).transfer = s.transfer ∧ (s.setDetection i d).seq = s.seq ∧
    (s.setDetection i d).mem = s.mem ∧ (s.setDetection i d).arbiter = s.arbiter ∧
    (s.setDetection i d).refresh = s.refresh ∧ (s.setDetection i d).port = s.port ∧
    (s.setDetection i d).notices = s.notices ∧ (s.setDetection i d).control = s.control ∧
    (s.setDetection i d).pending = s.pending ∧ (s.setDetection i d).freeCounter = s.freeCounter := by
  dsimp only [State.setDetection]
  (repeat' split) <;> simp

@[simp] theorem State.detectAtScan_frame (s : State) (i : Input) (v : Int) :
    (s.detectAtScan i v).cells = s.cells ∧ (s.detectAtScan i v).fold = s.fold ∧
    (s.detectAtScan i v).timer = s.timer ∧ (s.detectAtScan i v).converter = s.converter ∧
    (s.detectAtScan i v).gauge = s.gauge ∧ (s.detectAtScan i v).bands = s.bands ∧
    (s.detectAtScan i v).channels = s.channels ∧ (s.detectAtScan i v).allocator = s.allocator ∧
    (s.detectAtScan i v).transfer = s.transfer ∧ (s.detectAtScan i v).seq = s.seq ∧
    (s.detectAtScan i v).mem = s.mem ∧ (s.detectAtScan i v).arbiter = s.arbiter ∧
    (s.detectAtScan i v).refresh = s.refresh ∧ (s.detectAtScan i v).port = s.port ∧
    (s.detectAtScan i v).control = s.control ∧ (s.detectAtScan i v).pending = s.pending ∧
    (s.detectAtScan i v).freeCounter = s.freeCounter := by
  dsimp only [State.detectAtScan]
  (repeat' split) <;> simp

@[simp] theorem State.collapse_frame (s : State) (i : Input) :
    (s.collapse i).cells = s.cells ∧ (s.collapse i).fold = s.fold ∧ (s.collapse i).timer = s.timer ∧
    (s.collapse i).converter = s.converter ∧ (s.collapse i).gauge = s.gauge ∧ (s.collapse i).bands = s.bands ∧
    (s.collapse i).channels = s.channels ∧ (s.collapse i).allocator = s.allocator ∧
    (s.collapse i).transfer = s.transfer ∧ (s.collapse i).seq = s.seq ∧ (s.collapse i).mem = s.mem ∧
    (s.collapse i).arbiter = s.arbiter ∧ (s.collapse i).refresh = s.refresh ∧ (s.collapse i).port = s.port ∧
    (s.collapse i).control = s.control ∧ (s.collapse i).pending = s.pending ∧
    (s.collapse i).freeCounter = s.freeCounter := by
  dsimp only [State.collapse]
  (repeat' split) <;> simp

@[simp] theorem State.selectSource_frame (s : State) (i : Input) :
    (s.selectSource i).cells = s.cells ∧ (s.selectSource i).fold = s.fold ∧ (s.selectSource i).timer = s.timer ∧
    (s.selectSource i).converter = s.converter ∧ (s.selectSource i).gauge = s.gauge ∧
    (s.selectSource i).bands = s.bands ∧ (s.selectSource i).channels = s.channels ∧
    (s.selectSource i).allocator = s.allocator ∧ (s.selectSource i).seq = s.seq ∧ (s.selectSource i).mem = s.mem ∧
    (s.selectSource i).arbiter = s.arbiter ∧ (s.selectSource i).refresh = s.refresh ∧
    (s.selectSource i).port = s.port ∧ (s.selectSource i).control = s.control ∧
    (s.selectSource i).pending = s.pending ∧ (s.selectSource i).freeCounter = s.freeCounter := by
  simp [State.selectSource]

@[simp] theorem State.loseSource_frame (s : State) :
    (s.loseSource).fold = s.fold ∧ (s.loseSource).timer = s.timer ∧ (s.loseSource).converter = s.converter ∧
    (s.loseSource).gauge = s.gauge ∧ (s.loseSource).bands = s.bands ∧ (s.loseSource).channels = s.channels ∧
    (s.loseSource).transfer = s.transfer ∧ (s.loseSource).seq = s.seq ∧ (s.loseSource).mem = s.mem ∧
    (s.loseSource).arbiter = s.arbiter ∧ (s.loseSource).refresh = s.refresh ∧ (s.loseSource).port = s.port ∧
    (s.loseSource).notices = s.notices ∧ (s.loseSource).control = s.control ∧ (s.loseSource).pending = s.pending ∧
    (s.loseSource).freeCounter = s.freeCounter := by
  simp [State.loseSource]

@[simp] theorem State.beginChangeover_frame (s : State) (i : Input) (b : Bool) :
    (s.beginChangeover i b).fold = s.fold ∧ (s.beginChangeover i b).timer = s.timer ∧
    (s.beginChangeover i b).converter = s.converter ∧ (s.beginChangeover i b).gauge = s.gauge ∧
    (s.beginChangeover i b).bands = s.bands ∧ (s.beginChangeover i b).channels = s.channels ∧
    (s.beginChangeover i b).transfer = s.transfer ∧ (s.beginChangeover i b).seq = s.seq ∧
    (s.beginChangeover i b).mem = s.mem ∧ (s.beginChangeover i b).arbiter = s.arbiter ∧
    (s.beginChangeover i b).refresh = s.refresh ∧ (s.beginChangeover i b).port = s.port ∧
    (s.beginChangeover i b).control = s.control ∧ (s.beginChangeover i b).pending = s.pending ∧
    (s.beginChangeover i b).freeCounter = s.freeCounter := by
  dsimp only [State.beginChangeover]
  (repeat' split) <;> simp

@[simp] theorem State.selectInChangeover_frame (s : State) (b : Option Bool) :
    (s.selectInChangeover b).cells = s.cells ∧ (s.selectInChangeover b).fold = s.fold ∧
    (s.selectInChangeover b).timer = s.timer ∧ (s.selectInChangeover b).converter = s.converter ∧
    (s.selectInChangeover b).gauge = s.gauge ∧ (s.selectInChangeover b).bands = s.bands ∧
    (s.selectInChangeover b).channels = s.channels ∧ (s.selectInChangeover b).allocator = s.allocator ∧
    (s.selectInChangeover b).seq = s.seq ∧ (s.selectInChangeover b).mem = s.mem ∧
    (s.selectInChangeover b).arbiter = s.arbiter ∧ (s.selectInChangeover b).refresh = s.refresh ∧
    (s.selectInChangeover b).port = s.port ∧ (s.selectInChangeover b).control = s.control ∧
    (s.selectInChangeover b).pending = s.pending ∧ (s.selectInChangeover b).freeCounter = s.freeCounter := by
  dsimp only [State.selectInChangeover]
  (repeat' split) <;> simp

@[simp] theorem State.selectPlain_frame (s : State) (b : Option Bool) :
    (s.selectPlain b).fold = s.fold ∧ (s.selectPlain b).timer = s.timer ∧
    (s.selectPlain b).converter = s.converter ∧ (s.selectPlain b).gauge = s.gauge ∧
    (s.selectPlain b).bands = s.bands ∧ (s.selectPlain b).channels = s.channels ∧ (s.selectPlain b).seq = s.seq ∧
    (s.selectPlain b).mem = s.mem ∧ (s.selectPlain b).arbiter = s.arbiter ∧ (s.selectPlain b).refresh = s.refresh ∧
    (s.selectPlain b).port = s.port ∧ (s.selectPlain b).control = s.control ∧
    (s.selectPlain b).pending = s.pending ∧ (s.selectPlain b).freeCounter = s.freeCounter := by
  dsimp only [State.selectPlain]
  (repeat' split) <;> simp

@[simp] theorem State.makeSelection_frame (s : State) (b : Option Bool) :
    (s.makeSelection b).fold = s.fold ∧ (s.makeSelection b).timer = s.timer ∧
    (s.makeSelection b).converter = s.converter ∧ (s.makeSelection b).gauge = s.gauge ∧
    (s.makeSelection b).bands = s.bands ∧ (s.makeSelection b).channels = s.channels ∧
    (s.makeSelection b).seq = s.seq ∧ (s.makeSelection b).mem = s.mem ∧ (s.makeSelection b).arbiter = s.arbiter ∧
    (s.makeSelection b).refresh = s.refresh ∧ (s.makeSelection b).port = s.port ∧
    (s.makeSelection b).control = s.control ∧ (s.makeSelection b).pending = s.pending ∧
    (s.makeSelection b).freeCounter = s.freeCounter := by
  dsimp only [State.makeSelection]
  (repeat' split) <;> simp

@[simp] theorem State.collapseEvent_frame (s : State) (i : Input) :
    (s.collapseEvent i).fold = s.fold ∧ (s.collapseEvent i).timer = s.timer ∧
    (s.collapseEvent i).converter = s.converter ∧ (s.collapseEvent i).gauge = s.gauge ∧
    (s.collapseEvent i).bands = s.bands ∧ (s.collapseEvent i).channels = s.channels ∧
    (s.collapseEvent i).seq = s.seq ∧ (s.collapseEvent i).mem = s.mem ∧ (s.collapseEvent i).arbiter = s.arbiter ∧
    (s.collapseEvent i).refresh = s.refresh ∧ (s.collapseEvent i).port = s.port ∧
    (s.collapseEvent i).control = s.control ∧ (s.collapseEvent i).pending = s.pending ∧
    (s.collapseEvent i).freeCounter = s.freeCounter := by
  simp [State.collapseEvent]

@[simp] theorem State.selectorAtScan_frame (s : State) (r : Readings) (b : Bool) :
    (s.selectorAtScan r b).fold = s.fold ∧ (s.selectorAtScan r b).timer = s.timer ∧
    (s.selectorAtScan r b).converter = s.converter ∧ (s.selectorAtScan r b).gauge = s.gauge ∧
    (s.selectorAtScan r b).bands = s.bands ∧ (s.selectorAtScan r b).channels = s.channels ∧
    (s.selectorAtScan r b).seq = s.seq ∧ (s.selectorAtScan r b).mem = s.mem ∧
    (s.selectorAtScan r b).arbiter = s.arbiter ∧ (s.selectorAtScan r b).refresh = s.refresh ∧
    (s.selectorAtScan r b).port = s.port ∧ (s.selectorAtScan r b).control = s.control ∧
    (s.selectorAtScan r b).pending = s.pending ∧ (s.selectorAtScan r b).freeCounter = s.freeCounter := by
  simp [State.selectorAtScan]

@[simp] theorem State.changeoverAbandoned_frame (s : State) :
    (s.changeoverAbandoned).cells = s.cells ∧ (s.changeoverAbandoned).fold = s.fold ∧
    (s.changeoverAbandoned).timer = s.timer ∧ (s.changeoverAbandoned).converter = s.converter ∧
    (s.changeoverAbandoned).gauge = s.gauge ∧ (s.changeoverAbandoned).bands = s.bands ∧
    (s.changeoverAbandoned).channels = s.channels ∧ (s.changeoverAbandoned).allocator = s.allocator ∧
    (s.changeoverAbandoned).transfer = s.transfer ∧ (s.changeoverAbandoned).seq = s.seq ∧
    (s.changeoverAbandoned).mem = s.mem ∧ (s.changeoverAbandoned).arbiter = s.arbiter ∧
    (s.changeoverAbandoned).refresh = s.refresh ∧ (s.changeoverAbandoned).port = s.port ∧
    (s.changeoverAbandoned).notices = s.notices ∧ (s.changeoverAbandoned).control = s.control ∧
    (s.changeoverAbandoned).pending = s.pending ∧ (s.changeoverAbandoned).freeCounter = s.freeCounter := by
  dsimp only [State.changeoverAbandoned]
  (repeat' split) <;> simp

@[simp] theorem State.changeoverCompleted_frame (s : State) :
    (s.changeoverCompleted).cells = s.cells ∧ (s.changeoverCompleted).fold = s.fold ∧
    (s.changeoverCompleted).timer = s.timer ∧ (s.changeoverCompleted).converter = s.converter ∧
    (s.changeoverCompleted).gauge = s.gauge ∧ (s.changeoverCompleted).bands = s.bands ∧
    (s.changeoverCompleted).channels = s.channels ∧ (s.changeoverCompleted).allocator = s.allocator ∧
    (s.changeoverCompleted).transfer = s.transfer ∧ (s.changeoverCompleted).seq = s.seq ∧
    (s.changeoverCompleted).mem = s.mem ∧ (s.changeoverCompleted).arbiter = s.arbiter ∧
    (s.changeoverCompleted).refresh = s.refresh ∧ (s.changeoverCompleted).port = s.port ∧
    (s.changeoverCompleted).notices = s.notices ∧ (s.changeoverCompleted).control = s.control ∧
    (s.changeoverCompleted).pending = s.pending ∧ (s.changeoverCompleted).freeCounter = s.freeCounter := by
  dsimp only [State.changeoverCompleted]
  (repeat' split) <;> simp

@[simp] theorem State.formContract_frame (s : State) :
    (s.formContract).cells = s.cells ∧ (s.formContract).fold = s.fold ∧ (s.formContract).timer = s.timer ∧
    (s.formContract).converter = s.converter ∧ (s.formContract).gauge = s.gauge ∧
    (s.formContract).bands = s.bands ∧ (s.formContract).channels = s.channels ∧
    (s.formContract).allocator = s.allocator ∧ (s.formContract).transfer = s.transfer ∧
    (s.formContract).seq = s.seq ∧ (s.formContract).mem = s.mem ∧ (s.formContract).arbiter = s.arbiter ∧
    (s.formContract).refresh = s.refresh ∧ (s.formContract).port = s.port ∧ (s.formContract).control = s.control ∧
    (s.formContract).pending = s.pending ∧ (s.formContract).freeCounter = s.freeCounter := by
  dsimp only [State.formContract]
  (repeat' split) <;> simp

@[simp] theorem State.post_frame (s : State) (x : EndCode) :
    (s.post x).cells = s.cells ∧ (s.post x).fold = s.fold ∧ (s.post x).timer = s.timer ∧
    (s.post x).converter = s.converter ∧ (s.post x).gauge = s.gauge ∧ (s.post x).bands = s.bands ∧
    (s.post x).channels = s.channels ∧ (s.post x).allocator = s.allocator ∧ (s.post x).transfer = s.transfer ∧
    (s.post x).selector = s.selector ∧ (s.post x).mem = s.mem ∧ (s.post x).arbiter = s.arbiter ∧
    (s.post x).refresh = s.refresh ∧ (s.post x).port = s.port ∧ (s.post x).notices = s.notices ∧
    (s.post x).control = s.control ∧ (s.post x).pending = s.pending ∧ (s.post x).freeCounter = s.freeCounter := by
  dsimp only [State.post]
  (repeat' split) <;> simp

@[simp] theorem State.requestItem_frame (s : State) (i : Nat) :
    (s.requestItem i).cells = s.cells ∧ (s.requestItem i).fold = s.fold ∧ (s.requestItem i).timer = s.timer ∧
    (s.requestItem i).converter = s.converter ∧ (s.requestItem i).gauge = s.gauge ∧
    (s.requestItem i).bands = s.bands ∧ (s.requestItem i).channels = s.channels ∧
    (s.requestItem i).allocator = s.allocator ∧ (s.requestItem i).transfer = s.transfer ∧
    (s.requestItem i).selector = s.selector ∧ (s.requestItem i).mem = s.mem ∧
    (s.requestItem i).refresh = s.refresh ∧ (s.requestItem i).port = s.port ∧
    (s.requestItem i).notices = s.notices ∧ (s.requestItem i).control = s.control ∧
    (s.requestItem i).pending = s.pending ∧ (s.requestItem i).freeCounter = s.freeCounter := by
  simp [State.requestItem]

@[simp] theorem State.startList_frame (s : State) :
    (s.startList).cells = s.cells ∧ (s.startList).fold = s.fold ∧ (s.startList).timer = s.timer ∧
    (s.startList).converter = s.converter ∧ (s.startList).gauge = s.gauge ∧ (s.startList).bands = s.bands ∧
    (s.startList).channels = s.channels ∧ (s.startList).allocator = s.allocator ∧
    (s.startList).transfer = s.transfer ∧ (s.startList).selector = s.selector ∧ (s.startList).mem = s.mem ∧
    (s.startList).refresh = s.refresh ∧ (s.startList).port = s.port ∧ (s.startList).notices = s.notices ∧
    (s.startList).control = s.control ∧ (s.startList).pending = s.pending ∧
    (s.startList).freeCounter = s.freeCounter := by
  dsimp only [State.startList]
  (repeat' split) <;> simp

@[simp] theorem State.endList_frame (s : State) :
    (s.endList).cells = s.cells ∧ (s.endList).fold = s.fold ∧ (s.endList).timer = s.timer ∧
    (s.endList).converter = s.converter ∧ (s.endList).gauge = s.gauge ∧ (s.endList).bands = s.bands ∧
    (s.endList).channels = s.channels ∧ (s.endList).allocator = s.allocator ∧ (s.endList).transfer = s.transfer ∧
    (s.endList).selector = s.selector ∧ (s.endList).mem = s.mem ∧ (s.endList).refresh = s.refresh ∧
    (s.endList).port = s.port ∧ (s.endList).notices = s.notices ∧ (s.endList).control = s.control ∧
    (s.endList).pending = s.pending ∧ (s.endList).freeCounter = s.freeCounter := by
  simp [State.endList]

@[simp] theorem State.endListWith_frame (s : State) (x : EndCode) :
    (s.endListWith x).cells = s.cells ∧ (s.endListWith x).fold = s.fold ∧ (s.endListWith x).timer = s.timer ∧
    (s.endListWith x).converter = s.converter ∧ (s.endListWith x).gauge = s.gauge ∧
    (s.endListWith x).bands = s.bands ∧ (s.endListWith x).channels = s.channels ∧
    (s.endListWith x).allocator = s.allocator ∧ (s.endListWith x).transfer = s.transfer ∧
    (s.endListWith x).selector = s.selector ∧ (s.endListWith x).mem = s.mem ∧
    (s.endListWith x).refresh = s.refresh ∧ (s.endListWith x).port = s.port ∧
    (s.endListWith x).control = s.control ∧ (s.endListWith x).pending = s.pending ∧
    (s.endListWith x).freeCounter = s.freeCounter := by
  dsimp only [State.endListWith]
  (repeat' split) <;> simp

@[simp] theorem State.goOn_frame (s : State) (i : Nat) :
    (s.goOn i).cells = s.cells ∧ (s.goOn i).fold = s.fold ∧ (s.goOn i).timer = s.timer ∧
    (s.goOn i).converter = s.converter ∧ (s.goOn i).gauge = s.gauge ∧ (s.goOn i).bands = s.bands ∧
    (s.goOn i).channels = s.channels ∧ (s.goOn i).allocator = s.allocator ∧ (s.goOn i).transfer = s.transfer ∧
    (s.goOn i).selector = s.selector ∧ (s.goOn i).mem = s.mem ∧ (s.goOn i).refresh = s.refresh ∧
    (s.goOn i).port = s.port ∧ (s.goOn i).control = s.control ∧ (s.goOn i).pending = s.pending ∧
    (s.goOn i).freeCounter = s.freeCounter := by
  dsimp only [State.goOn]
  (repeat' split) <;> simp

@[simp] theorem State.finishItem_frame (s : State) (i : Nat) :
    (s.finishItem i).cells = s.cells ∧ (s.finishItem i).fold = s.fold ∧ (s.finishItem i).timer = s.timer ∧
    (s.finishItem i).converter = s.converter ∧ (s.finishItem i).gauge = s.gauge ∧
    (s.finishItem i).bands = s.bands ∧ (s.finishItem i).channels = s.channels ∧
    (s.finishItem i).allocator = s.allocator ∧ (s.finishItem i).transfer = s.transfer ∧
    (s.finishItem i).selector = s.selector ∧ (s.finishItem i).mem = s.mem ∧ (s.finishItem i).refresh = s.refresh ∧
    (s.finishItem i).port = s.port ∧ (s.finishItem i).control = s.control ∧ (s.finishItem i).pending = s.pending ∧
    (s.finishItem i).freeCounter = s.freeCounter := by
  dsimp only [State.finishItem]
  (repeat' split) <;> simp

@[simp] theorem State.writeFault_frame (s : State) :
    (s.writeFault).cells = s.cells ∧ (s.writeFault).fold = s.fold ∧ (s.writeFault).timer = s.timer ∧
    (s.writeFault).converter = s.converter ∧ (s.writeFault).gauge = s.gauge ∧ (s.writeFault).bands = s.bands ∧
    (s.writeFault).channels = s.channels ∧ (s.writeFault).allocator = s.allocator ∧
    (s.writeFault).transfer = s.transfer ∧ (s.writeFault).selector = s.selector ∧ (s.writeFault).mem = s.mem ∧
    (s.writeFault).arbiter = s.arbiter ∧ (s.writeFault).refresh = s.refresh ∧ (s.writeFault).port = s.port ∧
    (s.writeFault).control = s.control ∧ (s.writeFault).pending = s.pending ∧
    (s.writeFault).freeCounter = s.freeCounter := by
  simp [State.writeFault]

@[simp] theorem State.requestWrite_frame (s : State) (i : Nat) (v : Word) :
    (s.requestWrite i v).cells = s.cells ∧ (s.requestWrite i v).fold = s.fold ∧
    (s.requestWrite i v).timer = s.timer ∧ (s.requestWrite i v).converter = s.converter ∧
    (s.requestWrite i v).gauge = s.gauge ∧ (s.requestWrite i v).bands = s.bands ∧
    (s.requestWrite i v).channels = s.channels ∧ (s.requestWrite i v).allocator = s.allocator ∧
    (s.requestWrite i v).transfer = s.transfer ∧ (s.requestWrite i v).selector = s.selector ∧
    (s.requestWrite i v).mem = s.mem ∧ (s.requestWrite i v).refresh = s.refresh ∧
    (s.requestWrite i v).port = s.port ∧ (s.requestWrite i v).notices = s.notices ∧
    (s.requestWrite i v).control = s.control ∧ (s.requestWrite i v).pending = s.pending ∧
    (s.requestWrite i v).freeCounter = s.freeCounter := by
  simp [State.requestWrite]

@[simp] theorem State.writeResult_frame (s : State) (i : Nat) (v : Word) :
    (s.writeResult i v).cells = s.cells ∧ (s.writeResult i v).fold = s.fold ∧ (s.writeResult i v).timer = s.timer ∧
    (s.writeResult i v).converter = s.converter ∧ (s.writeResult i v).gauge = s.gauge ∧
    (s.writeResult i v).bands = s.bands ∧ (s.writeResult i v).channels = s.channels ∧
    (s.writeResult i v).allocator = s.allocator ∧ (s.writeResult i v).transfer = s.transfer ∧
    (s.writeResult i v).selector = s.selector ∧ (s.writeResult i v).mem = s.mem ∧
    (s.writeResult i v).refresh = s.refresh ∧ (s.writeResult i v).port = s.port ∧
    (s.writeResult i v).control = s.control ∧ (s.writeResult i v).pending = s.pending ∧
    (s.writeResult i v).freeCounter = s.freeCounter := by
  dsimp only [State.writeResult]
  (repeat' split) <;> simp

@[simp] theorem State.writeSetting_frame (s : State) (i : Nat) (v : Word) :
    (s.writeSetting i v).cells = s.cells ∧ (s.writeSetting i v).fold = s.fold ∧
    (s.writeSetting i v).timer = s.timer ∧ (s.writeSetting i v).converter = s.converter ∧
    (s.writeSetting i v).gauge = s.gauge ∧ (s.writeSetting i v).bands = s.bands ∧
    (s.writeSetting i v).channels = s.channels ∧ (s.writeSetting i v).allocator = s.allocator ∧
    (s.writeSetting i v).transfer = s.transfer ∧ (s.writeSetting i v).selector = s.selector ∧
    (s.writeSetting i v).mem = s.mem ∧ (s.writeSetting i v).refresh = s.refresh ∧
    (s.writeSetting i v).port = s.port ∧ (s.writeSetting i v).control = s.control ∧
    (s.writeSetting i v).pending = s.pending ∧ (s.writeSetting i v).freeCounter = s.freeCounter := by
  dsimp only [State.writeSetting]
  (repeat' split) <;> simp

@[simp] theorem State.formResult_frame (s : State) :
    (s.formResult).cells = s.cells ∧ (s.formResult).fold = s.fold ∧ (s.formResult).timer = s.timer ∧
    (s.formResult).converter = s.converter ∧ (s.formResult).gauge = s.gauge ∧ (s.formResult).bands = s.bands ∧
    (s.formResult).channels = s.channels ∧ (s.formResult).allocator = s.allocator ∧
    (s.formResult).transfer = s.transfer ∧ (s.formResult).selector = s.selector ∧ (s.formResult).mem = s.mem ∧
    (s.formResult).refresh = s.refresh ∧ (s.formResult).port = s.port ∧ (s.formResult).control = s.control ∧
    (s.formResult).pending = s.pending ∧ (s.formResult).freeCounter = s.freeCounter := by
  dsimp only [State.formResult]
  (repeat' split) <;> simp

@[simp] theorem State.beginConverting_frame (s : State) :
    (s.beginConverting).cells = s.cells ∧ (s.beginConverting).fold = s.fold ∧ (s.beginConverting).timer = s.timer ∧
    (s.beginConverting).gauge = s.gauge ∧ (s.beginConverting).bands = s.bands ∧
    (s.beginConverting).channels = s.channels ∧ (s.beginConverting).allocator = s.allocator ∧
    (s.beginConverting).transfer = s.transfer ∧ (s.beginConverting).selector = s.selector ∧
    (s.beginConverting).mem = s.mem ∧ (s.beginConverting).refresh = s.refresh ∧ (s.beginConverting).port = s.port ∧
    (s.beginConverting).control = s.control ∧ (s.beginConverting).pending = s.pending ∧
    (s.beginConverting).freeCounter = s.freeCounter := by
  dsimp only [State.beginConverting]
  (repeat' split) <;> simp

@[simp] theorem State.takeTrigger_frame (s : State) (x : Trigger) :
    (s.takeTrigger x).cells = s.cells ∧ (s.takeTrigger x).fold = s.fold ∧ (s.takeTrigger x).timer = s.timer ∧
    (s.takeTrigger x).gauge = s.gauge ∧ (s.takeTrigger x).bands = s.bands ∧
    (s.takeTrigger x).channels = s.channels ∧ (s.takeTrigger x).allocator = s.allocator ∧
    (s.takeTrigger x).transfer = s.transfer ∧ (s.takeTrigger x).selector = s.selector ∧
    (s.takeTrigger x).mem = s.mem ∧ (s.takeTrigger x).refresh = s.refresh ∧ (s.takeTrigger x).port = s.port ∧
    (s.takeTrigger x).control = s.control ∧ (s.takeTrigger x).pending = s.pending ∧
    (s.takeTrigger x).freeCounter = s.freeCounter := by
  dsimp only [State.takeTrigger]
  (repeat' split) <;> simp

@[simp] theorem State.takeReading_frame (s : State) (v : Int) :
    (s.takeReading v).cells = s.cells ∧ (s.takeReading v).fold = s.fold ∧ (s.takeReading v).timer = s.timer ∧
    (s.takeReading v).converter = s.converter ∧ (s.takeReading v).gauge = s.gauge ∧
    (s.takeReading v).bands = s.bands ∧ (s.takeReading v).channels = s.channels ∧
    (s.takeReading v).allocator = s.allocator ∧ (s.takeReading v).transfer = s.transfer ∧
    (s.takeReading v).selector = s.selector ∧ (s.takeReading v).mem = s.mem ∧
    (s.takeReading v).refresh = s.refresh ∧ (s.takeReading v).port = s.port ∧
    (s.takeReading v).control = s.control ∧ (s.takeReading v).pending = s.pending ∧
    (s.takeReading v).freeCounter = s.freeCounter := by
  dsimp only [State.takeReading]
  (repeat' split) <;> simp

@[simp] theorem State.compareFires_frame (s : State) (n : Nat) (x : CompareAction) :
    (s.compareFires n x).fold = s.fold ∧ (s.compareFires n x).timer = s.timer ∧
    (s.compareFires n x).converter = s.converter ∧ (s.compareFires n x).gauge = s.gauge ∧
    (s.compareFires n x).bands = s.bands ∧ (s.compareFires n x).channels = s.channels ∧
    (s.compareFires n x).allocator = s.allocator ∧ (s.compareFires n x).selector = s.selector ∧
    (s.compareFires n x).mem = s.mem ∧ (s.compareFires n x).arbiter = s.arbiter ∧
    (s.compareFires n x).refresh = s.refresh ∧ (s.compareFires n x).port = s.port ∧
    (s.compareFires n x).control = s.control ∧ (s.compareFires n x).pending = s.pending ∧
    (s.compareFires n x).freeCounter = s.freeCounter := by
  dsimp only [State.compareFires]
  (repeat' split) <;> simp

@[simp] theorem State.jump_frame (s : State) (i : Nat) :
    (s.jump i).cells = s.cells ∧ (s.jump i).fold = s.fold ∧ (s.jump i).timer = s.timer ∧
    (s.jump i).converter = s.converter ∧ (s.jump i).gauge = s.gauge ∧ (s.jump i).bands = s.bands ∧
    (s.jump i).channels = s.channels ∧ (s.jump i).allocator = s.allocator ∧ (s.jump i).transfer = s.transfer ∧
    (s.jump i).selector = s.selector ∧ (s.jump i).mem = s.mem ∧ (s.jump i).refresh = s.refresh ∧
    (s.jump i).port = s.port ∧ (s.jump i).control = s.control ∧ (s.jump i).pending = s.pending ∧
    (s.jump i).freeCounter = s.freeCounter := by
  dsimp only [State.jump]
  (repeat' split) <;> simp

@[simp] theorem State.carryOut_frame (s : State) (x : Item) :
    (s.carryOut x).fold = s.fold ∧ (s.carryOut x).timer = s.timer ∧ (s.carryOut x).gauge = s.gauge ∧
    (s.carryOut x).bands = s.bands ∧ (s.carryOut x).channels = s.channels ∧
    (s.carryOut x).allocator = s.allocator ∧ (s.carryOut x).selector = s.selector ∧ (s.carryOut x).mem = s.mem ∧
    (s.carryOut x).refresh = s.refresh ∧ (s.carryOut x).port = s.port ∧ (s.carryOut x).control = s.control ∧
    (s.carryOut x).pending = s.pending ∧ (s.carryOut x).freeCounter = s.freeCounter := by
  dsimp only [State.carryOut]
  (repeat' split) <;> simp

@[simp] theorem State.countWait_frame (s : State) :
    (s.countWait).cells = s.cells ∧ (s.countWait).fold = s.fold ∧ (s.countWait).timer = s.timer ∧
    (s.countWait).converter = s.converter ∧ (s.countWait).gauge = s.gauge ∧ (s.countWait).bands = s.bands ∧
    (s.countWait).channels = s.channels ∧ (s.countWait).allocator = s.allocator ∧
    (s.countWait).transfer = s.transfer ∧ (s.countWait).selector = s.selector ∧ (s.countWait).mem = s.mem ∧
    (s.countWait).refresh = s.refresh ∧ (s.countWait).port = s.port ∧ (s.countWait).control = s.control ∧
    (s.countWait).pending = s.pending ∧ (s.countWait).freeCounter = s.freeCounter := by
  dsimp only [State.countWait]
  (repeat' split) <;> simp

@[simp] theorem State.itemFetched_frame (s : State) (x : Item) :
    (s.itemFetched x).fold = s.fold ∧ (s.itemFetched x).timer = s.timer ∧ (s.itemFetched x).gauge = s.gauge ∧
    (s.itemFetched x).bands = s.bands ∧ (s.itemFetched x).channels = s.channels ∧
    (s.itemFetched x).allocator = s.allocator ∧ (s.itemFetched x).selector = s.selector ∧
    (s.itemFetched x).mem = s.mem ∧ (s.itemFetched x).refresh = s.refresh ∧ (s.itemFetched x).port = s.port ∧
    (s.itemFetched x).control = s.control ∧ (s.itemFetched x).pending = s.pending ∧
    (s.itemFetched x).freeCounter = s.freeCounter := by
  dsimp only [State.itemFetched]
  (repeat' split) <;> simp

@[simp] theorem State.itemWritten_frame (s : State) :
    (s.itemWritten).cells = s.cells ∧ (s.itemWritten).fold = s.fold ∧ (s.itemWritten).timer = s.timer ∧
    (s.itemWritten).converter = s.converter ∧ (s.itemWritten).gauge = s.gauge ∧ (s.itemWritten).bands = s.bands ∧
    (s.itemWritten).channels = s.channels ∧ (s.itemWritten).allocator = s.allocator ∧
    (s.itemWritten).transfer = s.transfer ∧ (s.itemWritten).selector = s.selector ∧ (s.itemWritten).mem = s.mem ∧
    (s.itemWritten).refresh = s.refresh ∧ (s.itemWritten).port = s.port ∧ (s.itemWritten).control = s.control ∧
    (s.itemWritten).pending = s.pending ∧ (s.itemWritten).freeCounter = s.freeCounter := by
  dsimp only [State.itemWritten]
  (repeat' split) <;> simp

@[simp] theorem State.writeNext_frame (s : State) (v : Word) :
    (s.writeNext v).cells = s.cells ∧ (s.writeNext v).fold = s.fold ∧ (s.writeNext v).timer = s.timer ∧
    (s.writeNext v).converter = s.converter ∧ (s.writeNext v).gauge = s.gauge ∧ (s.writeNext v).bands = s.bands ∧
    (s.writeNext v).channels = s.channels ∧ (s.writeNext v).allocator = s.allocator ∧
    (s.writeNext v).transfer = s.transfer ∧ (s.writeNext v).selector = s.selector ∧ (s.writeNext v).mem = s.mem ∧
    (s.writeNext v).refresh = s.refresh ∧ (s.writeNext v).port = s.port ∧ (s.writeNext v).notices = s.notices ∧
    (s.writeNext v).control = s.control ∧ (s.writeNext v).pending = s.pending ∧
    (s.writeNext v).freeCounter = s.freeCounter := by
  dsimp only [State.writeNext]
  (repeat' split) <;> simp

@[simp] theorem State.readDone_frame (s : State) :
    (s.readDone.2).cells = s.cells ∧ (s.readDone.2).fold = s.fold ∧ (s.readDone.2).timer = s.timer ∧
    (s.readDone.2).converter = s.converter ∧ (s.readDone.2).gauge = s.gauge ∧ (s.readDone.2).bands = s.bands ∧
    (s.readDone.2).channels = s.channels ∧ (s.readDone.2).allocator = s.allocator ∧
    (s.readDone.2).transfer = s.transfer ∧ (s.readDone.2).selector = s.selector ∧ (s.readDone.2).mem = s.mem ∧
    (s.readDone.2).arbiter = s.arbiter ∧ (s.readDone.2).refresh = s.refresh ∧ (s.readDone.2).port = s.port ∧
    (s.readDone.2).notices = s.notices ∧ (s.readDone.2).control = s.control ∧ (s.readDone.2).pending = s.pending ∧
    (s.readDone.2).freeCounter = s.freeCounter := by
  dsimp only [State.readDone]
  (repeat' split) <;> simp

@[simp] theorem State.cancelSample_frame (s : State) :
    (s.cancelSample).cells = s.cells ∧ (s.cancelSample).fold = s.fold ∧ (s.cancelSample).timer = s.timer ∧
    (s.cancelSample).gauge = s.gauge ∧ (s.cancelSample).bands = s.bands ∧ (s.cancelSample).channels = s.channels ∧
    (s.cancelSample).allocator = s.allocator ∧ (s.cancelSample).transfer = s.transfer ∧
    (s.cancelSample).selector = s.selector ∧ (s.cancelSample).mem = s.mem ∧ (s.cancelSample).arbiter = s.arbiter ∧
    (s.cancelSample).refresh = s.refresh ∧ (s.cancelSample).port = s.port ∧ (s.cancelSample).notices = s.notices ∧
    (s.cancelSample).control = s.control ∧ (s.cancelSample).pending = s.pending ∧
    (s.cancelSample).freeCounter = s.freeCounter := by
  simp [State.cancelSample]

@[simp] theorem State.skipToNext_frame (s : State) :
    (s.skipToNext).cells = s.cells ∧ (s.skipToNext).fold = s.fold ∧ (s.skipToNext).timer = s.timer ∧
    (s.skipToNext).converter = s.converter ∧ (s.skipToNext).gauge = s.gauge ∧ (s.skipToNext).bands = s.bands ∧
    (s.skipToNext).channels = s.channels ∧ (s.skipToNext).allocator = s.allocator ∧
    (s.skipToNext).transfer = s.transfer ∧ (s.skipToNext).selector = s.selector ∧ (s.skipToNext).mem = s.mem ∧
    (s.skipToNext).refresh = s.refresh ∧ (s.skipToNext).port = s.port ∧ (s.skipToNext).control = s.control ∧
    (s.skipToNext).pending = s.pending ∧ (s.skipToNext).freeCounter = s.freeCounter := by
  dsimp only [State.skipToNext]
  (repeat' split) <;> simp

@[simp] theorem State.skipItem_frame (s : State) :
    (s.skipItem).cells = s.cells ∧ (s.skipItem).fold = s.fold ∧ (s.skipItem).timer = s.timer ∧
    (s.skipItem).gauge = s.gauge ∧ (s.skipItem).bands = s.bands ∧ (s.skipItem).channels = s.channels ∧
    (s.skipItem).allocator = s.allocator ∧ (s.skipItem).transfer = s.transfer ∧
    (s.skipItem).selector = s.selector ∧ (s.skipItem).mem = s.mem ∧ (s.skipItem).refresh = s.refresh ∧
    (s.skipItem).port = s.port ∧ (s.skipItem).control = s.control ∧ (s.skipItem).pending = s.pending ∧
    (s.skipItem).freeCounter = s.freeCounter := by
  dsimp only [State.skipItem]
  (repeat' split) <;> simp

@[simp] theorem State.skipList_frame (s : State) :
    (s.skipList).cells = s.cells ∧ (s.skipList).fold = s.fold ∧ (s.skipList).timer = s.timer ∧
    (s.skipList).gauge = s.gauge ∧ (s.skipList).bands = s.bands ∧ (s.skipList).channels = s.channels ∧
    (s.skipList).allocator = s.allocator ∧ (s.skipList).transfer = s.transfer ∧
    (s.skipList).selector = s.selector ∧ (s.skipList).mem = s.mem ∧ (s.skipList).refresh = s.refresh ∧
    (s.skipList).port = s.port ∧ (s.skipList).notices = s.notices ∧ (s.skipList).control = s.control ∧
    (s.skipList).pending = s.pending ∧ (s.skipList).freeCounter = s.freeCounter := by
  dsimp only [State.skipList]
  (repeat' split) <;> simp

@[simp] theorem State.clearWindow_frame (s : State) :
    (s.clearWindow).fold = s.fold ∧ (s.clearWindow).timer = s.timer ∧ (s.clearWindow).converter = s.converter ∧
    (s.clearWindow).gauge = s.gauge ∧ (s.clearWindow).bands = s.bands ∧ (s.clearWindow).channels = s.channels ∧
    (s.clearWindow).allocator = s.allocator ∧ (s.clearWindow).selector = s.selector ∧ (s.clearWindow).mem = s.mem ∧
    (s.clearWindow).arbiter = s.arbiter ∧ (s.clearWindow).refresh = s.refresh ∧ (s.clearWindow).port = s.port ∧
    (s.clearWindow).notices = s.notices ∧ (s.clearWindow).control = s.control ∧
    (s.clearWindow).pending = s.pending ∧ (s.clearWindow).freeCounter = s.freeCounter := by
  simp [State.clearWindow]

@[simp] theorem State.freeze_frame (s : State) :
    (s.freeze).cells = s.cells ∧ (s.freeze).fold = s.fold ∧ (s.freeze).timer = s.timer ∧
    (s.freeze).converter = s.converter ∧ (s.freeze).gauge = s.gauge ∧ (s.freeze).bands = s.bands ∧
    (s.freeze).channels = s.channels ∧ (s.freeze).allocator = s.allocator ∧ (s.freeze).transfer = s.transfer ∧
    (s.freeze).selector = s.selector ∧ (s.freeze).mem = s.mem ∧ (s.freeze).arbiter = s.arbiter ∧
    (s.freeze).refresh = s.refresh ∧ (s.freeze).port = s.port ∧ (s.freeze).notices = s.notices ∧
    (s.freeze).control = s.control ∧ (s.freeze).pending = s.pending ∧ (s.freeze).freeCounter = s.freeCounter := by
  dsimp only [State.freeze]
  (repeat' split) <;> simp

@[simp] theorem State.thaw_frame (s : State) :
    (s.thaw).fold = s.fold ∧ (s.thaw).timer = s.timer ∧ (s.thaw).gauge = s.gauge ∧ (s.thaw).bands = s.bands ∧
    (s.thaw).channels = s.channels ∧ (s.thaw).allocator = s.allocator ∧ (s.thaw).selector = s.selector ∧
    (s.thaw).mem = s.mem ∧ (s.thaw).refresh = s.refresh ∧ (s.thaw).port = s.port ∧ (s.thaw).control = s.control ∧
    (s.thaw).pending = s.pending ∧ (s.thaw).freeCounter = s.freeCounter := by
  dsimp only [State.thaw]
  (repeat' split) <;> simp

@[simp] theorem State.dropProbes_frame (s : State) :
    (s.dropProbes).cells = s.cells ∧ (s.dropProbes).fold = s.fold ∧ (s.dropProbes).timer = s.timer ∧
    (s.dropProbes).gauge = s.gauge ∧ (s.dropProbes).bands = s.bands ∧ (s.dropProbes).channels = s.channels ∧
    (s.dropProbes).allocator = s.allocator ∧ (s.dropProbes).transfer = s.transfer ∧
    (s.dropProbes).selector = s.selector ∧ (s.dropProbes).seq = s.seq ∧ (s.dropProbes).mem = s.mem ∧
    (s.dropProbes).arbiter = s.arbiter ∧ (s.dropProbes).refresh = s.refresh ∧ (s.dropProbes).port = s.port ∧
    (s.dropProbes).notices = s.notices ∧ (s.dropProbes).control = s.control ∧ (s.dropProbes).pending = s.pending ∧
    (s.dropProbes).freeCounter = s.freeCounter := by
  dsimp only [State.dropProbes]
  simp

@[simp] theorem State.resetSeq_frame (s : State) (x k : SeqState) :
    (s.resetSeq x k).cells = s.cells ∧ (s.resetSeq x k).fold = s.fold ∧ (s.resetSeq x k).timer = s.timer ∧
    (s.resetSeq x k).gauge = s.gauge ∧ (s.resetSeq x k).bands = s.bands ∧ (s.resetSeq x k).channels = s.channels ∧
    (s.resetSeq x k).allocator = s.allocator ∧ (s.resetSeq x k).transfer = s.transfer ∧
    (s.resetSeq x k).selector = s.selector ∧ (s.resetSeq x k).mem = s.mem ∧ (s.resetSeq x k).refresh = s.refresh ∧
    (s.resetSeq x k).port = s.port ∧ (s.resetSeq x k).notices = s.notices ∧ (s.resetSeq x k).control = s.control ∧
    (s.resetSeq x k).pending = s.pending ∧ (s.resetSeq x k).freeCounter = s.freeCounter := by
  simp [State.resetSeq]

@[simp] theorem State.stopSeqForShip_frame (s : State) :
    (s.stopSeqForShip).cells = s.cells ∧ (s.stopSeqForShip).fold = s.fold ∧ (s.stopSeqForShip).timer = s.timer ∧
    (s.stopSeqForShip).gauge = s.gauge ∧ (s.stopSeqForShip).bands = s.bands ∧
    (s.stopSeqForShip).channels = s.channels ∧ (s.stopSeqForShip).allocator = s.allocator ∧
    (s.stopSeqForShip).transfer = s.transfer ∧ (s.stopSeqForShip).selector = s.selector ∧
    (s.stopSeqForShip).mem = s.mem ∧ (s.stopSeqForShip).refresh = s.refresh ∧ (s.stopSeqForShip).port = s.port ∧
    (s.stopSeqForShip).notices = s.notices ∧ (s.stopSeqForShip).control = s.control ∧
    (s.stopSeqForShip).pending = s.pending ∧ (s.stopSeqForShip).freeCounter = s.freeCounter := by
  simp [State.stopSeqForShip]

@[simp] theorem State.requestFetch_frame (s : State) (c : CellId) :
    (s.requestFetch c).cells = s.cells ∧ (s.requestFetch c).fold = s.fold ∧ (s.requestFetch c).timer = s.timer ∧
    (s.requestFetch c).converter = s.converter ∧ (s.requestFetch c).gauge = s.gauge ∧
    (s.requestFetch c).bands = s.bands ∧ (s.requestFetch c).allocator = s.allocator ∧
    (s.requestFetch c).transfer = s.transfer ∧ (s.requestFetch c).selector = s.selector ∧
    (s.requestFetch c).seq = s.seq ∧ (s.requestFetch c).mem = s.mem ∧ (s.requestFetch c).refresh = s.refresh ∧
    (s.requestFetch c).port = s.port ∧ (s.requestFetch c).notices = s.notices ∧
    (s.requestFetch c).control = s.control ∧ (s.requestFetch c).pending = s.pending ∧
    (s.requestFetch c).freeCounter = s.freeCounter := by
  dsimp only [State.requestFetch]
  (repeat' split) <;> simp

@[simp] theorem State.discardFetch_frame (s : State) (c : CellId) :
    (s.discardFetch c).cells = s.cells ∧ (s.discardFetch c).fold = s.fold ∧ (s.discardFetch c).timer = s.timer ∧
    (s.discardFetch c).converter = s.converter ∧ (s.discardFetch c).gauge = s.gauge ∧
    (s.discardFetch c).bands = s.bands ∧ (s.discardFetch c).allocator = s.allocator ∧
    (s.discardFetch c).transfer = s.transfer ∧ (s.discardFetch c).selector = s.selector ∧
    (s.discardFetch c).seq = s.seq ∧ (s.discardFetch c).mem = s.mem ∧ (s.discardFetch c).refresh = s.refresh ∧
    (s.discardFetch c).port = s.port ∧ (s.discardFetch c).notices = s.notices ∧
    (s.discardFetch c).control = s.control ∧ (s.discardFetch c).pending = s.pending ∧
    (s.discardFetch c).freeCounter = s.freeCounter := by
  dsimp only [State.discardFetch]
  (repeat' split) <;> simp

@[simp] theorem State.dropTable_frame (s : State) (c : CellId) :
    (s.dropTable c).cells = s.cells ∧ (s.dropTable c).fold = s.fold ∧ (s.dropTable c).timer = s.timer ∧
    (s.dropTable c).converter = s.converter ∧ (s.dropTable c).gauge = s.gauge ∧ (s.dropTable c).bands = s.bands ∧
    (s.dropTable c).allocator = s.allocator ∧ (s.dropTable c).transfer = s.transfer ∧
    (s.dropTable c).selector = s.selector ∧ (s.dropTable c).seq = s.seq ∧ (s.dropTable c).mem = s.mem ∧
    (s.dropTable c).refresh = s.refresh ∧ (s.dropTable c).port = s.port ∧ (s.dropTable c).notices = s.notices ∧
    (s.dropTable c).control = s.control ∧ (s.dropTable c).pending = s.pending ∧
    (s.dropTable c).freeCounter = s.freeCounter := by
  simp [State.dropTable]

@[simp] theorem State.startOwn_frame (s : State) (c : CellId) :
    (s.startOwn c).cells = s.cells ∧ (s.startOwn c).fold = s.fold ∧ (s.startOwn c).timer = s.timer ∧
    (s.startOwn c).converter = s.converter ∧ (s.startOwn c).gauge = s.gauge ∧ (s.startOwn c).bands = s.bands ∧
    (s.startOwn c).allocator = s.allocator ∧ (s.startOwn c).transfer = s.transfer ∧
    (s.startOwn c).selector = s.selector ∧ (s.startOwn c).seq = s.seq ∧ (s.startOwn c).mem = s.mem ∧
    (s.startOwn c).refresh = s.refresh ∧ (s.startOwn c).port = s.port ∧ (s.startOwn c).notices = s.notices ∧
    (s.startOwn c).control = s.control ∧ (s.startOwn c).pending = s.pending ∧
    (s.startOwn c).freeCounter = s.freeCounter := by
  simp [State.startOwn]

@[simp] theorem State.startFollowing_frame (s : State) :
    (s.startFollowing).cells = s.cells ∧ (s.startFollowing).fold = s.fold ∧ (s.startFollowing).timer = s.timer ∧
    (s.startFollowing).converter = s.converter ∧ (s.startFollowing).gauge = s.gauge ∧
    (s.startFollowing).bands = s.bands ∧ (s.startFollowing).allocator = s.allocator ∧
    (s.startFollowing).transfer = s.transfer ∧ (s.startFollowing).selector = s.selector ∧
    (s.startFollowing).seq = s.seq ∧ (s.startFollowing).mem = s.mem ∧ (s.startFollowing).refresh = s.refresh ∧
    (s.startFollowing).port = s.port ∧ (s.startFollowing).notices = s.notices ∧
    (s.startFollowing).control = s.control ∧ (s.startFollowing).pending = s.pending ∧
    (s.startFollowing).freeCounter = s.freeCounter := by
  simp [State.startFollowing]

@[simp] theorem State.profileStart_frame (s : State) (c : CellId) :
    (s.profileStart c).cells = s.cells ∧ (s.profileStart c).fold = s.fold ∧ (s.profileStart c).timer = s.timer ∧
    (s.profileStart c).converter = s.converter ∧ (s.profileStart c).gauge = s.gauge ∧
    (s.profileStart c).bands = s.bands ∧ (s.profileStart c).allocator = s.allocator ∧
    (s.profileStart c).transfer = s.transfer ∧ (s.profileStart c).selector = s.selector ∧
    (s.profileStart c).seq = s.seq ∧ (s.profileStart c).mem = s.mem ∧ (s.profileStart c).refresh = s.refresh ∧
    (s.profileStart c).port = s.port ∧ (s.profileStart c).notices = s.notices ∧
    (s.profileStart c).control = s.control ∧ (s.profileStart c).pending = s.pending ∧
    (s.profileStart c).freeCounter = s.freeCounter := by
  dsimp only [State.profileStart]
  (repeat' split) <;> simp

@[simp] theorem State.profileStop_frame (s : State) (c : CellId) :
    (s.profileStop c).cells = s.cells ∧ (s.profileStop c).fold = s.fold ∧ (s.profileStop c).timer = s.timer ∧
    (s.profileStop c).converter = s.converter ∧ (s.profileStop c).gauge = s.gauge ∧
    (s.profileStop c).bands = s.bands ∧ (s.profileStop c).allocator = s.allocator ∧
    (s.profileStop c).transfer = s.transfer ∧ (s.profileStop c).selector = s.selector ∧
    (s.profileStop c).seq = s.seq ∧ (s.profileStop c).mem = s.mem ∧ (s.profileStop c).refresh = s.refresh ∧
    (s.profileStop c).port = s.port ∧ (s.profileStop c).notices = s.notices ∧
    (s.profileStop c).control = s.control ∧ (s.profileStop c).pending = s.pending ∧
    (s.profileStop c).freeCounter = s.freeCounter := by
  dsimp only [State.profileStop]
  (repeat' split) <;> simp

@[simp] theorem State.fetchAfter_frame (s : State) (c : CellId) (g : Segment) :
    (s.fetchAfter c g).cells = s.cells ∧ (s.fetchAfter c g).fold = s.fold ∧ (s.fetchAfter c g).timer = s.timer ∧
    (s.fetchAfter c g).converter = s.converter ∧ (s.fetchAfter c g).gauge = s.gauge ∧
    (s.fetchAfter c g).bands = s.bands ∧ (s.fetchAfter c g).allocator = s.allocator ∧
    (s.fetchAfter c g).transfer = s.transfer ∧ (s.fetchAfter c g).selector = s.selector ∧
    (s.fetchAfter c g).seq = s.seq ∧ (s.fetchAfter c g).mem = s.mem ∧ (s.fetchAfter c g).refresh = s.refresh ∧
    (s.fetchAfter c g).port = s.port ∧ (s.fetchAfter c g).notices = s.notices ∧
    (s.fetchAfter c g).control = s.control ∧ (s.fetchAfter c g).pending = s.pending ∧
    (s.fetchAfter c g).freeCounter = s.freeCounter := by
  dsimp only [State.fetchAfter]
  (repeat' split) <;> simp

@[simp] theorem State.install_frame (s : State) (c : CellId) (g : Segment) :
    (s.install c g).cells = s.cells ∧ (s.install c g).fold = s.fold ∧ (s.install c g).timer = s.timer ∧
    (s.install c g).converter = s.converter ∧ (s.install c g).gauge = s.gauge ∧ (s.install c g).bands = s.bands ∧
    (s.install c g).allocator = s.allocator ∧ (s.install c g).transfer = s.transfer ∧
    (s.install c g).selector = s.selector ∧ (s.install c g).seq = s.seq ∧ (s.install c g).mem = s.mem ∧
    (s.install c g).refresh = s.refresh ∧ (s.install c g).port = s.port ∧ (s.install c g).notices = s.notices ∧
    (s.install c g).control = s.control ∧ (s.install c g).pending = s.pending ∧
    (s.install c g).freeCounter = s.freeCounter := by
  simp [State.install]

@[simp] theorem State.swap_frame (s : State) (c : CellId) (g : Segment) :
    (s.swap c g).cells = s.cells ∧ (s.swap c g).fold = s.fold ∧ (s.swap c g).timer = s.timer ∧
    (s.swap c g).gauge = s.gauge ∧ (s.swap c g).bands = s.bands ∧ (s.swap c g).allocator = s.allocator ∧
    (s.swap c g).transfer = s.transfer ∧ (s.swap c g).selector = s.selector ∧ (s.swap c g).mem = s.mem ∧
    (s.swap c g).refresh = s.refresh ∧ (s.swap c g).port = s.port ∧ (s.swap c g).control = s.control ∧
    (s.swap c g).pending = s.pending ∧ (s.swap c g).freeCounter = s.freeCounter := by
  simp [State.swap]

@[simp] theorem State.segmentEnd_frame (s : State) (c : CellId) :
    (s.segmentEnd c).cells = s.cells ∧ (s.segmentEnd c).fold = s.fold ∧ (s.segmentEnd c).timer = s.timer ∧
    (s.segmentEnd c).gauge = s.gauge ∧ (s.segmentEnd c).bands = s.bands ∧
    (s.segmentEnd c).allocator = s.allocator ∧ (s.segmentEnd c).transfer = s.transfer ∧
    (s.segmentEnd c).selector = s.selector ∧ (s.segmentEnd c).mem = s.mem ∧ (s.segmentEnd c).refresh = s.refresh ∧
    (s.segmentEnd c).port = s.port ∧ (s.segmentEnd c).control = s.control ∧ (s.segmentEnd c).pending = s.pending ∧
    (s.segmentEnd c).freeCounter = s.freeCounter := by
  dsimp only [State.segmentEnd]
  (repeat' split) <;> simp

@[simp] theorem State.stepQuantum_frame (s : State) (c : CellId) :
    (s.stepQuantum c).cells = s.cells ∧ (s.stepQuantum c).fold = s.fold ∧ (s.stepQuantum c).timer = s.timer ∧
    (s.stepQuantum c).gauge = s.gauge ∧ (s.stepQuantum c).bands = s.bands ∧
    (s.stepQuantum c).allocator = s.allocator ∧ (s.stepQuantum c).transfer = s.transfer ∧
    (s.stepQuantum c).selector = s.selector ∧ (s.stepQuantum c).mem = s.mem ∧
    (s.stepQuantum c).refresh = s.refresh ∧ (s.stepQuantum c).port = s.port ∧
    (s.stepQuantum c).control = s.control ∧ (s.stepQuantum c).pending = s.pending ∧
    (s.stepQuantum c).freeCounter = s.freeCounter := by
  dsimp only [State.stepQuantum]
  (repeat' split) <;> simp

@[simp] theorem State.takeQuantum_frame (s : State) (c : CellId) :
    (s.takeQuantum c).cells = s.cells ∧ (s.takeQuantum c).fold = s.fold ∧ (s.takeQuantum c).timer = s.timer ∧
    (s.takeQuantum c).gauge = s.gauge ∧ (s.takeQuantum c).bands = s.bands ∧
    (s.takeQuantum c).allocator = s.allocator ∧ (s.takeQuantum c).transfer = s.transfer ∧
    (s.takeQuantum c).selector = s.selector ∧ (s.takeQuantum c).mem = s.mem ∧
    (s.takeQuantum c).refresh = s.refresh ∧ (s.takeQuantum c).port = s.port ∧
    (s.takeQuantum c).control = s.control ∧ (s.takeQuantum c).pending = s.pending ∧
    (s.takeQuantum c).freeCounter = s.freeCounter := by
  dsimp only [State.takeQuantum]
  (repeat' split) <;> simp

@[simp] theorem State.takeBatch_frame (s : State) (c : CellId) (k : Nat) :
    (s.takeBatch c k).cells = s.cells ∧ (s.takeBatch c k).fold = s.fold ∧ (s.takeBatch c k).timer = s.timer ∧
    (s.takeBatch c k).gauge = s.gauge ∧ (s.takeBatch c k).bands = s.bands ∧
    (s.takeBatch c k).allocator = s.allocator ∧ (s.takeBatch c k).transfer = s.transfer ∧
    (s.takeBatch c k).selector = s.selector ∧ (s.takeBatch c k).mem = s.mem ∧
    (s.takeBatch c k).refresh = s.refresh ∧ (s.takeBatch c k).port = s.port ∧
    (s.takeBatch c k).control = s.control ∧ (s.takeBatch c k).pending = s.pending ∧
    (s.takeBatch c k).freeCounter = s.freeCounter := by
  induction k generalizing s with
  | zero => simp [State.takeBatch]
  | succ k ih => simp [State.takeBatch, ih]

@[simp] theorem State.fetchCompleted_frame (s : State) (c : CellId) (i : Nat) (ws : List Word) :
    (s.fetchCompleted c i ws).cells = s.cells ∧ (s.fetchCompleted c i ws).fold = s.fold ∧
    (s.fetchCompleted c i ws).timer = s.timer ∧ (s.fetchCompleted c i ws).gauge = s.gauge ∧
    (s.fetchCompleted c i ws).bands = s.bands ∧ (s.fetchCompleted c i ws).allocator = s.allocator ∧
    (s.fetchCompleted c i ws).transfer = s.transfer ∧ (s.fetchCompleted c i ws).selector = s.selector ∧
    (s.fetchCompleted c i ws).mem = s.mem ∧ (s.fetchCompleted c i ws).refresh = s.refresh ∧
    (s.fetchCompleted c i ws).port = s.port ∧ (s.fetchCompleted c i ws).control = s.control ∧
    (s.fetchCompleted c i ws).pending = s.pending ∧ (s.fetchCompleted c i ws).freeCounter = s.freeCounter := by
  dsimp only [State.fetchCompleted]
  (repeat' split) <;> simp

@[simp] theorem State.profileFetchCompleted_frame (s : State) (c : CellId) (i : Nat) (ws : List Word) :
    (s.profileFetchCompleted c i ws).cells = s.cells ∧ (s.profileFetchCompleted c i ws).fold = s.fold ∧
    (s.profileFetchCompleted c i ws).timer = s.timer ∧ (s.profileFetchCompleted c i ws).gauge = s.gauge ∧
    (s.profileFetchCompleted c i ws).bands = s.bands ∧ (s.profileFetchCompleted c i ws).allocator = s.allocator ∧
    (s.profileFetchCompleted c i ws).transfer = s.transfer ∧ (s.profileFetchCompleted c i ws).selector = s.selector ∧
    (s.profileFetchCompleted c i ws).mem = s.mem ∧ (s.profileFetchCompleted c i ws).refresh = s.refresh ∧
    (s.profileFetchCompleted c i ws).port = s.port ∧ (s.profileFetchCompleted c i ws).control = s.control ∧
    (s.profileFetchCompleted c i ws).pending = s.pending ∧
    (s.profileFetchCompleted c i ws).freeCounter = s.freeCounter := by
  dsimp only [State.profileFetchCompleted]
  split <;> simp

@[simp] theorem State.resetChannel_frame (s : State) (c : CellId) :
    (s.resetChannel c).cells = s.cells ∧ (s.resetChannel c).fold = s.fold ∧ (s.resetChannel c).timer = s.timer ∧
    (s.resetChannel c).converter = s.converter ∧ (s.resetChannel c).gauge = s.gauge ∧
    (s.resetChannel c).bands = s.bands ∧ (s.resetChannel c).allocator = s.allocator ∧
    (s.resetChannel c).transfer = s.transfer ∧ (s.resetChannel c).selector = s.selector ∧
    (s.resetChannel c).seq = s.seq ∧ (s.resetChannel c).mem = s.mem ∧ (s.resetChannel c).refresh = s.refresh ∧
    (s.resetChannel c).port = s.port ∧ (s.resetChannel c).notices = s.notices ∧
    (s.resetChannel c).control = s.control ∧ (s.resetChannel c).pending = s.pending ∧
    (s.resetChannel c).freeCounter = s.freeCounter := by
  simp [State.resetChannel]

@[simp] theorem State.appendEntry_frame (s : State) (e : GaugeEntry) :
    (s.appendEntry e).cells = s.cells ∧ (s.appendEntry e).fold = s.fold ∧ (s.appendEntry e).timer = s.timer ∧
    (s.appendEntry e).converter = s.converter ∧ (s.appendEntry e).bands = s.bands ∧
    (s.appendEntry e).channels = s.channels ∧ (s.appendEntry e).allocator = s.allocator ∧
    (s.appendEntry e).transfer = s.transfer ∧ (s.appendEntry e).selector = s.selector ∧
    (s.appendEntry e).seq = s.seq ∧ (s.appendEntry e).mem = s.mem ∧ (s.appendEntry e).refresh = s.refresh ∧
    (s.appendEntry e).port = s.port ∧ (s.appendEntry e).notices = s.notices ∧
    (s.appendEntry e).control = s.control ∧ (s.appendEntry e).pending = s.pending ∧
    (s.appendEntry e).freeCounter = s.freeCounter := by
  simp [State.appendEntry]

@[simp] theorem State.appendFull_frame (s : State) (c : CellId) :
    (s.appendFull c).cells = s.cells ∧ (s.appendFull c).fold = s.fold ∧ (s.appendFull c).timer = s.timer ∧
    (s.appendFull c).converter = s.converter ∧ (s.appendFull c).bands = s.bands ∧
    (s.appendFull c).channels = s.channels ∧ (s.appendFull c).allocator = s.allocator ∧
    (s.appendFull c).transfer = s.transfer ∧ (s.appendFull c).selector = s.selector ∧
    (s.appendFull c).seq = s.seq ∧ (s.appendFull c).mem = s.mem ∧ (s.appendFull c).refresh = s.refresh ∧
    (s.appendFull c).port = s.port ∧ (s.appendFull c).notices = s.notices ∧ (s.appendFull c).control = s.control ∧
    (s.appendFull c).pending = s.pending ∧ (s.appendFull c).freeCounter = s.freeCounter := by
  dsimp only [State.appendFull]
  (repeat' split) <;> simp

@[simp] theorem State.appendPreset_frame (s : State) (c : CellId) :
    (s.appendPreset c).cells = s.cells ∧ (s.appendPreset c).fold = s.fold ∧ (s.appendPreset c).timer = s.timer ∧
    (s.appendPreset c).converter = s.converter ∧ (s.appendPreset c).bands = s.bands ∧
    (s.appendPreset c).channels = s.channels ∧ (s.appendPreset c).allocator = s.allocator ∧
    (s.appendPreset c).transfer = s.transfer ∧ (s.appendPreset c).selector = s.selector ∧
    (s.appendPreset c).seq = s.seq ∧ (s.appendPreset c).mem = s.mem ∧ (s.appendPreset c).refresh = s.refresh ∧
    (s.appendPreset c).port = s.port ∧ (s.appendPreset c).notices = s.notices ∧
    (s.appendPreset c).control = s.control ∧ (s.appendPreset c).pending = s.pending ∧
    (s.appendPreset c).freeCounter = s.freeCounter := by
  dsimp only [State.appendPreset]
  (repeat' split) <;> simp

@[simp] theorem State.updateLatch_frame (s : State) (r : Readings) (c : CellId) :
    (s.updateLatch r c).fold = s.fold ∧ (s.updateLatch r c).timer = s.timer ∧
    (s.updateLatch r c).converter = s.converter ∧ (s.updateLatch r c).gauge = s.gauge ∧
    (s.updateLatch r c).bands = s.bands ∧ (s.updateLatch r c).channels = s.channels ∧
    (s.updateLatch r c).allocator = s.allocator ∧ (s.updateLatch r c).transfer = s.transfer ∧
    (s.updateLatch r c).selector = s.selector ∧ (s.updateLatch r c).seq = s.seq ∧ (s.updateLatch r c).mem = s.mem ∧
    (s.updateLatch r c).arbiter = s.arbiter ∧ (s.updateLatch r c).refresh = s.refresh ∧
    (s.updateLatch r c).port = s.port ∧ (s.updateLatch r c).notices = s.notices ∧
    (s.updateLatch r c).control = s.control ∧ (s.updateLatch r c).pending = s.pending ∧
    (s.updateLatch r c).freeCounter = s.freeCounter := by
  dsimp only [State.updateLatch]
  (repeat' split) <;> simp

@[simp] theorem State.countersAtScan_frame (s : State) (r : ScanRecord) :
    (s.countersAtScan r).fold = s.fold ∧ (s.countersAtScan r).timer = s.timer ∧
    (s.countersAtScan r).converter = s.converter ∧ (s.countersAtScan r).bands = s.bands ∧
    (s.countersAtScan r).channels = s.channels ∧ (s.countersAtScan r).allocator = s.allocator ∧
    (s.countersAtScan r).transfer = s.transfer ∧ (s.countersAtScan r).selector = s.selector ∧
    (s.countersAtScan r).seq = s.seq ∧ (s.countersAtScan r).mem = s.mem ∧
    (s.countersAtScan r).refresh = s.refresh ∧ (s.countersAtScan r).port = s.port ∧
    (s.countersAtScan r).notices = s.notices ∧ (s.countersAtScan r).control = s.control ∧
    (s.countersAtScan r).pending = s.pending ∧ (s.countersAtScan r).freeCounter = s.freeCounter := by
  simp [State.countersAtScan]

@[simp] theorem State.integrateCell_frame (s : State) (c : CellId) (i : Int) (t : Nat) (e : Bool) :
    (s.integrateCell c i t e).cells = s.cells ∧ (s.integrateCell c i t e).fold = s.fold ∧
    (s.integrateCell c i t e).timer = s.timer ∧ (s.integrateCell c i t e).converter = s.converter ∧
    (s.integrateCell c i t e).gauge = s.gauge ∧ (s.integrateCell c i t e).bands = s.bands ∧
    (s.integrateCell c i t e).channels = s.channels ∧ (s.integrateCell c i t e).allocator = s.allocator ∧
    (s.integrateCell c i t e).transfer = s.transfer ∧ (s.integrateCell c i t e).selector = s.selector ∧
    (s.integrateCell c i t e).seq = s.seq ∧ (s.integrateCell c i t e).arbiter = s.arbiter ∧
    (s.integrateCell c i t e).refresh = s.refresh ∧ (s.integrateCell c i t e).port = s.port ∧
    (s.integrateCell c i t e).notices = s.notices ∧ (s.integrateCell c i t e).control = s.control ∧
    (s.integrateCell c i t e).pending = s.pending ∧ (s.integrateCell c i t e).freeCounter = s.freeCounter := by
  dsimp only [State.integrateCell]
  (repeat' split) <;> simp

@[simp] theorem State.clampQF_frame (s : State) (c : CellId) :
    (s.clampQF c).cells = s.cells ∧ (s.clampQF c).fold = s.fold ∧ (s.clampQF c).timer = s.timer ∧
    (s.clampQF c).converter = s.converter ∧ (s.clampQF c).gauge = s.gauge ∧ (s.clampQF c).bands = s.bands ∧
    (s.clampQF c).channels = s.channels ∧ (s.clampQF c).allocator = s.allocator ∧
    (s.clampQF c).transfer = s.transfer ∧ (s.clampQF c).selector = s.selector ∧ (s.clampQF c).seq = s.seq ∧
    (s.clampQF c).arbiter = s.arbiter ∧ (s.clampQF c).refresh = s.refresh ∧ (s.clampQF c).port = s.port ∧
    (s.clampQF c).notices = s.notices ∧ (s.clampQF c).control = s.control ∧ (s.clampQF c).pending = s.pending ∧
    (s.clampQF c).freeCounter = s.freeCounter := by
  simp [State.clampQF]

@[simp] theorem State.gaugeWrite_frame (s : State) (e : GaugeEntry) :
    (s.gaugeWrite e).cells = s.cells ∧ (s.gaugeWrite e).fold = s.fold ∧ (s.gaugeWrite e).timer = s.timer ∧
    (s.gaugeWrite e).converter = s.converter ∧ (s.gaugeWrite e).gauge = s.gauge ∧
    (s.gaugeWrite e).bands = s.bands ∧ (s.gaugeWrite e).channels = s.channels ∧
    (s.gaugeWrite e).allocator = s.allocator ∧ (s.gaugeWrite e).transfer = s.transfer ∧
    (s.gaugeWrite e).selector = s.selector ∧ (s.gaugeWrite e).seq = s.seq ∧ (s.gaugeWrite e).arbiter = s.arbiter ∧
    (s.gaugeWrite e).refresh = s.refresh ∧ (s.gaugeWrite e).port = s.port ∧ (s.gaugeWrite e).notices = s.notices ∧
    (s.gaugeWrite e).control = s.control ∧ (s.gaugeWrite e).pending = s.pending ∧
    (s.gaugeWrite e).freeCounter = s.freeCounter := by
  cases e <;> simp [State.gaugeWrite]

@[simp] theorem State.lookupBand_frame (s : State) (r : Readings) (c : CellId) :
    (s.lookupBand r c).fold = s.fold ∧ (s.lookupBand r c).timer = s.timer ∧
    (s.lookupBand r c).converter = s.converter ∧ (s.lookupBand r c).gauge = s.gauge ∧
    (s.lookupBand r c).channels = s.channels ∧ (s.lookupBand r c).allocator = s.allocator ∧
    (s.lookupBand r c).transfer = s.transfer ∧ (s.lookupBand r c).selector = s.selector ∧
    (s.lookupBand r c).seq = s.seq ∧ (s.lookupBand r c).mem = s.mem ∧ (s.lookupBand r c).arbiter = s.arbiter ∧
    (s.lookupBand r c).refresh = s.refresh ∧ (s.lookupBand r c).port = s.port ∧
    (s.lookupBand r c).control = s.control ∧ (s.lookupBand r c).pending = s.pending ∧
    (s.lookupBand r c).freeCounter = s.freeCounter := by
  dsimp only [State.lookupBand]
  (repeat' split) <;> simp

@[simp] theorem State.clearBandIndices_frame (s : State) :
    (s.clearBandIndices).cells = s.cells ∧ (s.clearBandIndices).fold = s.fold ∧
    (s.clearBandIndices).timer = s.timer ∧ (s.clearBandIndices).converter = s.converter ∧
    (s.clearBandIndices).gauge = s.gauge ∧ (s.clearBandIndices).channels = s.channels ∧
    (s.clearBandIndices).allocator = s.allocator ∧ (s.clearBandIndices).transfer = s.transfer ∧
    (s.clearBandIndices).selector = s.selector ∧ (s.clearBandIndices).seq = s.seq ∧
    (s.clearBandIndices).mem = s.mem ∧ (s.clearBandIndices).arbiter = s.arbiter ∧
    (s.clearBandIndices).refresh = s.refresh ∧ (s.clearBandIndices).port = s.port ∧
    (s.clearBandIndices).notices = s.notices ∧ (s.clearBandIndices).control = s.control ∧
    (s.clearBandIndices).pending = s.pending ∧ (s.clearBandIndices).freeCounter = s.freeCounter := by
  simp [State.clearBandIndices]

@[simp] theorem State.waitRefresh_frame (s : State) :
    (s.waitRefresh).cells = s.cells ∧ (s.waitRefresh).fold = s.fold ∧ (s.waitRefresh).timer = s.timer ∧
    (s.waitRefresh).converter = s.converter ∧ (s.waitRefresh).gauge = s.gauge ∧ (s.waitRefresh).bands = s.bands ∧
    (s.waitRefresh).channels = s.channels ∧ (s.waitRefresh).allocator = s.allocator ∧
    (s.waitRefresh).transfer = s.transfer ∧ (s.waitRefresh).selector = s.selector ∧ (s.waitRefresh).seq = s.seq ∧
    (s.waitRefresh).mem = s.mem ∧ (s.waitRefresh).refresh = s.refresh ∧ (s.waitRefresh).port = s.port ∧
    (s.waitRefresh).notices = s.notices ∧ (s.waitRefresh).control = s.control ∧
    (s.waitRefresh).pending = s.pending ∧ (s.waitRefresh).freeCounter = s.freeCounter := by
  simp [State.waitRefresh]

@[simp] theorem State.requestRefresh_frame (s : State) :
    (s.requestRefresh).cells = s.cells ∧ (s.requestRefresh).fold = s.fold ∧ (s.requestRefresh).timer = s.timer ∧
    (s.requestRefresh).converter = s.converter ∧ (s.requestRefresh).gauge = s.gauge ∧
    (s.requestRefresh).bands = s.bands ∧ (s.requestRefresh).channels = s.channels ∧
    (s.requestRefresh).allocator = s.allocator ∧ (s.requestRefresh).transfer = s.transfer ∧
    (s.requestRefresh).selector = s.selector ∧ (s.requestRefresh).seq = s.seq ∧ (s.requestRefresh).mem = s.mem ∧
    (s.requestRefresh).port = s.port ∧ (s.requestRefresh).notices = s.notices ∧
    (s.requestRefresh).control = s.control ∧ (s.requestRefresh).pending = s.pending ∧
    (s.requestRefresh).freeCounter = s.freeCounter := by
  simp [State.requestRefresh]

@[simp] theorem State.refreshAtCompletion_frame (s : State) :
    (s.refreshAtCompletion).cells = s.cells ∧ (s.refreshAtCompletion).fold = s.fold ∧
    (s.refreshAtCompletion).timer = s.timer ∧ (s.refreshAtCompletion).converter = s.converter ∧
    (s.refreshAtCompletion).gauge = s.gauge ∧ (s.refreshAtCompletion).bands = s.bands ∧
    (s.refreshAtCompletion).channels = s.channels ∧ (s.refreshAtCompletion).allocator = s.allocator ∧
    (s.refreshAtCompletion).transfer = s.transfer ∧ (s.refreshAtCompletion).selector = s.selector ∧
    (s.refreshAtCompletion).seq = s.seq ∧ (s.refreshAtCompletion).mem = s.mem ∧
    (s.refreshAtCompletion).port = s.port ∧ (s.refreshAtCompletion).notices = s.notices ∧
    (s.refreshAtCompletion).control = s.control ∧ (s.refreshAtCompletion).pending = s.pending ∧
    (s.refreshAtCompletion).freeCounter = s.freeCounter := by
  dsimp only [State.refreshAtCompletion]
  (repeat' split) <;> simp

@[simp] theorem State.withdrawRefresh_frame (s : State) :
    (s.withdrawRefresh).cells = s.cells ∧ (s.withdrawRefresh).fold = s.fold ∧ (s.withdrawRefresh).timer = s.timer ∧
    (s.withdrawRefresh).converter = s.converter ∧ (s.withdrawRefresh).gauge = s.gauge ∧
    (s.withdrawRefresh).bands = s.bands ∧ (s.withdrawRefresh).channels = s.channels ∧
    (s.withdrawRefresh).allocator = s.allocator ∧ (s.withdrawRefresh).transfer = s.transfer ∧
    (s.withdrawRefresh).selector = s.selector ∧ (s.withdrawRefresh).seq = s.seq ∧ (s.withdrawRefresh).mem = s.mem ∧
    (s.withdrawRefresh).port = s.port ∧ (s.withdrawRefresh).notices = s.notices ∧
    (s.withdrawRefresh).control = s.control ∧ (s.withdrawRefresh).pending = s.pending ∧
    (s.withdrawRefresh).freeCounter = s.freeCounter := by
  simp [State.withdrawRefresh]

@[simp] theorem State.recordContract_frame (s : State) (b : Option BudgetRead) :
    (s.recordContract b).cells = s.cells ∧ (s.recordContract b).fold = s.fold ∧
    (s.recordContract b).timer = s.timer ∧ (s.recordContract b).converter = s.converter ∧
    (s.recordContract b).gauge = s.gauge ∧ (s.recordContract b).bands = s.bands ∧
    (s.recordContract b).channels = s.channels ∧ (s.recordContract b).allocator = s.allocator ∧
    (s.recordContract b).transfer = s.transfer ∧ (s.recordContract b).seq = s.seq ∧
    (s.recordContract b).mem = s.mem ∧ (s.recordContract b).arbiter = s.arbiter ∧
    (s.recordContract b).refresh = s.refresh ∧ (s.recordContract b).port = s.port ∧
    (s.recordContract b).notices = s.notices ∧ (s.recordContract b).control = s.control ∧
    (s.recordContract b).pending = s.pending ∧ (s.recordContract b).freeCounter = s.freeCounter := by
  dsimp only [State.recordContract]
  (repeat' split) <;> simp

@[simp] theorem State.workStages_frame (s : State) (n : Nat) (early : Bool) :
    (s.workStages n early).cells = s.cells ∧ (s.workStages n early).fold = s.fold ∧ (s.workStages n early).timer = s.timer ∧
    (s.workStages n early).converter = s.converter ∧ (s.workStages n early).gauge = s.gauge ∧
    (s.workStages n early).bands = s.bands ∧ (s.workStages n early).channels = s.channels ∧
    (s.workStages n early).transfer = s.transfer ∧ (s.workStages n early).seq = s.seq ∧ (s.workStages n early).mem = s.mem ∧
    (s.workStages n early).arbiter = s.arbiter ∧ (s.workStages n early).refresh = s.refresh ∧ (s.workStages n early).port = s.port ∧
    (s.workStages n early).notices = s.notices ∧ (s.workStages n early).control = s.control ∧
    (s.workStages n early).pending = s.pending ∧ (s.workStages n early).freeCounter = s.freeCounter := by
  dsimp only [State.workStages]
  (repeat' split) <;> simp

@[simp] theorem State.workFreely_frame (s : State) :
    (s.workFreely).cells = s.cells ∧ (s.workFreely).fold = s.fold ∧ (s.workFreely).timer = s.timer ∧
    (s.workFreely).converter = s.converter ∧ (s.workFreely).gauge = s.gauge ∧ (s.workFreely).bands = s.bands ∧
    (s.workFreely).channels = s.channels ∧ (s.workFreely).transfer = s.transfer ∧ (s.workFreely).seq = s.seq ∧
    (s.workFreely).mem = s.mem ∧ (s.workFreely).arbiter = s.arbiter ∧ (s.workFreely).refresh = s.refresh ∧
    (s.workFreely).port = s.port ∧ (s.workFreely).notices = s.notices ∧ (s.workFreely).control = s.control ∧
    (s.workFreely).pending = s.pending := by
  dsimp only [State.workFreely]
  (repeat' split) <;> simp

@[simp] theorem State.beginTransaction_frame (s : State) (ar : Arbiter) (t : Transaction) :
    (s.beginTransaction ar t).cells = s.cells ∧ (s.beginTransaction ar t).fold = s.fold ∧
    (s.beginTransaction ar t).timer = s.timer ∧ (s.beginTransaction ar t).converter = s.converter ∧
    (s.beginTransaction ar t).gauge = s.gauge ∧ (s.beginTransaction ar t).bands = s.bands ∧
    (s.beginTransaction ar t).channels = s.channels ∧ (s.beginTransaction ar t).allocator = s.allocator ∧
    (s.beginTransaction ar t).transfer = s.transfer ∧ (s.beginTransaction ar t).selector = s.selector ∧
    (s.beginTransaction ar t).seq = s.seq ∧ (s.beginTransaction ar t).mem = s.mem ∧
    (s.beginTransaction ar t).refresh = s.refresh ∧ (s.beginTransaction ar t).port = s.port ∧
    (s.beginTransaction ar t).notices = s.notices ∧ (s.beginTransaction ar t).control = s.control ∧
    (s.beginTransaction ar t).pending = s.pending ∧ (s.beginTransaction ar t).freeCounter = s.freeCounter := by
  simp [State.beginTransaction]

@[simp] theorem State.grantGauge_frame (s : State) :
    (s.grantGauge).cells = s.cells ∧ (s.grantGauge).fold = s.fold ∧ (s.grantGauge).timer = s.timer ∧
    (s.grantGauge).converter = s.converter ∧ (s.grantGauge).gauge = s.gauge ∧ (s.grantGauge).bands = s.bands ∧
    (s.grantGauge).channels = s.channels ∧ (s.grantGauge).allocator = s.allocator ∧
    (s.grantGauge).transfer = s.transfer ∧ (s.grantGauge).selector = s.selector ∧ (s.grantGauge).seq = s.seq ∧
    (s.grantGauge).mem = s.mem ∧ (s.grantGauge).refresh = s.refresh ∧ (s.grantGauge).port = s.port ∧
    (s.grantGauge).notices = s.notices ∧ (s.grantGauge).control = s.control ∧ (s.grantGauge).pending = s.pending ∧
    (s.grantGauge).freeCounter = s.freeCounter := by
  dsimp only [State.grantGauge]
  (repeat' split) <;> simp

@[simp] theorem State.grantFetch_frame (s : State) (c : CellId) (i : Nat) :
    (s.grantFetch c i).cells = s.cells ∧ (s.grantFetch c i).fold = s.fold ∧ (s.grantFetch c i).timer = s.timer ∧
    (s.grantFetch c i).converter = s.converter ∧ (s.grantFetch c i).gauge = s.gauge ∧
    (s.grantFetch c i).bands = s.bands ∧ (s.grantFetch c i).channels = s.channels ∧
    (s.grantFetch c i).allocator = s.allocator ∧ (s.grantFetch c i).transfer = s.transfer ∧
    (s.grantFetch c i).selector = s.selector ∧ (s.grantFetch c i).seq = s.seq ∧ (s.grantFetch c i).mem = s.mem ∧
    (s.grantFetch c i).refresh = s.refresh ∧ (s.grantFetch c i).port = s.port ∧
    (s.grantFetch c i).notices = s.notices ∧ (s.grantFetch c i).control = s.control ∧
    (s.grantFetch c i).pending = s.pending ∧ (s.grantFetch c i).freeCounter = s.freeCounter := by
  simp [State.grantFetch]

@[simp] theorem State.grantLink_frame (s : State) :
    (s.grantLink).cells = s.cells ∧ (s.grantLink).fold = s.fold ∧ (s.grantLink).timer = s.timer ∧
    (s.grantLink).converter = s.converter ∧ (s.grantLink).gauge = s.gauge ∧ (s.grantLink).bands = s.bands ∧
    (s.grantLink).channels = s.channels ∧ (s.grantLink).transfer = s.transfer ∧ (s.grantLink).seq = s.seq ∧
    (s.grantLink).refresh = s.refresh ∧ (s.grantLink).notices = s.notices ∧ (s.grantLink).control = s.control ∧
    (s.grantLink).pending = s.pending := by
  dsimp only [State.grantLink]
  (repeat' split) <;> simp

@[simp] theorem State.grantSeqFetch_frame (s : State) (i : Nat) :
    (s.grantSeqFetch i).cells = s.cells ∧ (s.grantSeqFetch i).fold = s.fold ∧ (s.grantSeqFetch i).timer = s.timer ∧
    (s.grantSeqFetch i).converter = s.converter ∧ (s.grantSeqFetch i).gauge = s.gauge ∧
    (s.grantSeqFetch i).bands = s.bands ∧ (s.grantSeqFetch i).channels = s.channels ∧
    (s.grantSeqFetch i).allocator = s.allocator ∧ (s.grantSeqFetch i).transfer = s.transfer ∧
    (s.grantSeqFetch i).selector = s.selector ∧ (s.grantSeqFetch i).seq = s.seq ∧ (s.grantSeqFetch i).mem = s.mem ∧
    (s.grantSeqFetch i).refresh = s.refresh ∧ (s.grantSeqFetch i).port = s.port ∧
    (s.grantSeqFetch i).notices = s.notices ∧ (s.grantSeqFetch i).control = s.control ∧
    (s.grantSeqFetch i).pending = s.pending ∧ (s.grantSeqFetch i).freeCounter = s.freeCounter := by
  simp [State.grantSeqFetch]

@[simp] theorem State.grantSeqWrite_frame (s : State) (i : Nat) (v : Word) :
    (s.grantSeqWrite i v).cells = s.cells ∧ (s.grantSeqWrite i v).fold = s.fold ∧
    (s.grantSeqWrite i v).timer = s.timer ∧ (s.grantSeqWrite i v).converter = s.converter ∧
    (s.grantSeqWrite i v).gauge = s.gauge ∧ (s.grantSeqWrite i v).bands = s.bands ∧
    (s.grantSeqWrite i v).channels = s.channels ∧ (s.grantSeqWrite i v).transfer = s.transfer ∧
    (s.grantSeqWrite i v).seq = s.seq ∧ (s.grantSeqWrite i v).refresh = s.refresh ∧
    (s.grantSeqWrite i v).port = s.port ∧ (s.grantSeqWrite i v).notices = s.notices ∧
    (s.grantSeqWrite i v).control = s.control ∧ (s.grantSeqWrite i v).pending = s.pending := by
  dsimp only [State.grantSeqWrite]
  (repeat' split) <;> simp

@[simp] theorem State.grantRefresh_frame (s : State) :
    (s.grantRefresh).cells = s.cells ∧ (s.grantRefresh).fold = s.fold ∧ (s.grantRefresh).timer = s.timer ∧
    (s.grantRefresh).converter = s.converter ∧ (s.grantRefresh).gauge = s.gauge ∧
    (s.grantRefresh).bands = s.bands ∧ (s.grantRefresh).channels = s.channels ∧
    (s.grantRefresh).allocator = s.allocator ∧ (s.grantRefresh).transfer = s.transfer ∧
    (s.grantRefresh).selector = s.selector ∧ (s.grantRefresh).seq = s.seq ∧ (s.grantRefresh).port = s.port ∧
    (s.grantRefresh).notices = s.notices ∧ (s.grantRefresh).control = s.control ∧
    (s.grantRefresh).pending = s.pending ∧ (s.grantRefresh).freeCounter = s.freeCounter := by
  dsimp only [State.grantRefresh]
  (repeat' split) <;> simp

@[simp] theorem State.grantFirst_frame (s : State) :
    (s.grantFirst).cells = s.cells ∧ (s.grantFirst).fold = s.fold ∧ (s.grantFirst).timer = s.timer ∧
    (s.grantFirst).converter = s.converter ∧ (s.grantFirst).gauge = s.gauge ∧ (s.grantFirst).bands = s.bands ∧
    (s.grantFirst).channels = s.channels ∧ (s.grantFirst).transfer = s.transfer ∧ (s.grantFirst).seq = s.seq ∧
    (s.grantFirst).notices = s.notices ∧ (s.grantFirst).control = s.control ∧ (s.grantFirst).pending = s.pending := by
  dsimp only [State.grantFirst]
  (repeat' split) <;> simp

@[simp] theorem State.arbitrate_frame (s : State) :
    (s.arbitrate).cells = s.cells ∧ (s.arbitrate).fold = s.fold ∧ (s.arbitrate).timer = s.timer ∧
    (s.arbitrate).converter = s.converter ∧ (s.arbitrate).gauge = s.gauge ∧ (s.arbitrate).bands = s.bands ∧
    (s.arbitrate).channels = s.channels ∧ (s.arbitrate).transfer = s.transfer ∧ (s.arbitrate).seq = s.seq ∧
    (s.arbitrate).notices = s.notices ∧ (s.arbitrate).control = s.control ∧ (s.arbitrate).pending = s.pending := by
  dsimp only [State.arbitrate]
  (repeat' split) <;> simp

@[simp] theorem State.convert_frame (s : State) :
    (s.convert).cells = s.cells ∧ (s.convert).fold = s.fold ∧ (s.convert).timer = s.timer ∧
    (s.convert).gauge = s.gauge ∧ (s.convert).bands = s.bands ∧ (s.convert).channels = s.channels ∧
    (s.convert).allocator = s.allocator ∧ (s.convert).transfer = s.transfer ∧ (s.convert).selector = s.selector ∧
    (s.convert).seq = s.seq ∧ (s.convert).mem = s.mem ∧ (s.convert).arbiter = s.arbiter ∧
    (s.convert).refresh = s.refresh ∧ (s.convert).port = s.port ∧ (s.convert).notices = s.notices ∧
    (s.convert).control = s.control ∧ (s.convert).pending = s.pending ∧ (s.convert).freeCounter = s.freeCounter := by
  dsimp only [State.convert]
  (repeat' split) <;> simp

@[simp] theorem State.settle_frame (s : State) :
    (s.settle).cells = s.cells ∧ (s.settle).fold = s.fold ∧ (s.settle).timer = s.timer ∧
    (s.settle).gauge = s.gauge ∧ (s.settle).bands = s.bands ∧ (s.settle).channels = s.channels ∧
    (s.settle).transfer = s.transfer ∧ (s.settle).seq = s.seq ∧ (s.settle).notices = s.notices ∧
    (s.settle).control = s.control ∧ (s.settle).pending = s.pending := by
  simp [State.settle]

@[simp] theorem State.settleIf_frame (s : State) (b : Bool) :
    (s.settleIf b).cells = s.cells ∧ (s.settleIf b).fold = s.fold ∧ (s.settleIf b).timer = s.timer ∧
    (s.settleIf b).gauge = s.gauge ∧ (s.settleIf b).bands = s.bands ∧ (s.settleIf b).channels = s.channels ∧
    (s.settleIf b).transfer = s.transfer ∧ (s.settleIf b).seq = s.seq ∧ (s.settleIf b).notices = s.notices ∧
    (s.settleIf b).control = s.control ∧ (s.settleIf b).pending = s.pending := by
  dsimp only [State.settleIf]
  (repeat' split) <;> simp

@[simp] theorem State.beginAllocation_frame (s : State) :
    (s.beginAllocation).cells = s.cells ∧ (s.beginAllocation).fold = s.fold ∧ (s.beginAllocation).timer = s.timer ∧
    (s.beginAllocation).converter = s.converter ∧ (s.beginAllocation).gauge = s.gauge ∧
    (s.beginAllocation).bands = s.bands ∧ (s.beginAllocation).channels = s.channels ∧
    (s.beginAllocation).transfer = s.transfer ∧ (s.beginAllocation).seq = s.seq ∧ (s.beginAllocation).mem = s.mem ∧
    (s.beginAllocation).arbiter = s.arbiter ∧ (s.beginAllocation).refresh = s.refresh ∧
    (s.beginAllocation).port = s.port ∧ (s.beginAllocation).control = s.control ∧
    (s.beginAllocation).pending = s.pending ∧ (s.beginAllocation).freeCounter = s.freeCounter := by
  simp [State.beginAllocation]

@[simp] theorem State.allocationAtScan_frame (s : State) :
    (s.allocationAtScan).cells = s.cells ∧ (s.allocationAtScan).fold = s.fold ∧
    (s.allocationAtScan).timer = s.timer ∧ (s.allocationAtScan).converter = s.converter ∧
    (s.allocationAtScan).gauge = s.gauge ∧ (s.allocationAtScan).bands = s.bands ∧
    (s.allocationAtScan).channels = s.channels ∧ (s.allocationAtScan).transfer = s.transfer ∧
    (s.allocationAtScan).seq = s.seq ∧ (s.allocationAtScan).mem = s.mem ∧
    (s.allocationAtScan).arbiter = s.arbiter ∧ (s.allocationAtScan).refresh = s.refresh ∧
    (s.allocationAtScan).port = s.port ∧ (s.allocationAtScan).control = s.control ∧
    (s.allocationAtScan).pending = s.pending ∧ (s.allocationAtScan).freeCounter = s.freeCounter := by
  dsimp only [State.allocationAtScan]
  (repeat' split) <;> simp

@[simp] theorem State.abandonAllocation_frame (s : State) :
    (s.abandonAllocation).cells = s.cells ∧ (s.abandonAllocation).fold = s.fold ∧
    (s.abandonAllocation).timer = s.timer ∧ (s.abandonAllocation).converter = s.converter ∧
    (s.abandonAllocation).gauge = s.gauge ∧ (s.abandonAllocation).bands = s.bands ∧
    (s.abandonAllocation).channels = s.channels ∧ (s.abandonAllocation).transfer = s.transfer ∧
    (s.abandonAllocation).seq = s.seq ∧ (s.abandonAllocation).mem = s.mem ∧
    (s.abandonAllocation).arbiter = s.arbiter ∧ (s.abandonAllocation).refresh = s.refresh ∧
    (s.abandonAllocation).port = s.port ∧ (s.abandonAllocation).notices = s.notices ∧
    (s.abandonAllocation).control = s.control ∧ (s.abandonAllocation).pending = s.pending ∧
    (s.abandonAllocation).freeCounter = s.freeCounter := by
  dsimp only [State.abandonAllocation]
  (repeat' split) <;> simp

@[simp] theorem State.countIntegrate_frame (s : State) :
    (s.countIntegrate).cells = s.cells ∧ (s.countIntegrate).fold = s.fold ∧ (s.countIntegrate).timer = s.timer ∧
    (s.countIntegrate).converter = s.converter ∧ (s.countIntegrate).gauge = s.gauge ∧
    (s.countIntegrate).bands = s.bands ∧ (s.countIntegrate).channels = s.channels ∧
    (s.countIntegrate).transfer = s.transfer ∧ (s.countIntegrate).selector = s.selector ∧
    (s.countIntegrate).seq = s.seq ∧ (s.countIntegrate).mem = s.mem ∧ (s.countIntegrate).arbiter = s.arbiter ∧
    (s.countIntegrate).refresh = s.refresh ∧ (s.countIntegrate).port = s.port ∧
    (s.countIntegrate).notices = s.notices ∧ (s.countIntegrate).control = s.control ∧
    (s.countIntegrate).pending = s.pending ∧ (s.countIntegrate).freeCounter = s.freeCounter := by
  dsimp only [State.countIntegrate]
  (repeat' split) <;> simp

@[simp] theorem State.applyToCell_frame (s : State) (al : Allocation) (sh : CellShare) (k : Bool) (c : CellId) :
    (s.applyToCell al sh k c).fold = s.fold ∧ (s.applyToCell al sh k c).timer = s.timer ∧
    (s.applyToCell al sh k c).converter = s.converter ∧ (s.applyToCell al sh k c).bands = s.bands ∧
    (s.applyToCell al sh k c).channels = s.channels ∧ (s.applyToCell al sh k c).allocator = s.allocator ∧
    (s.applyToCell al sh k c).transfer = s.transfer ∧ (s.applyToCell al sh k c).selector = s.selector ∧
    (s.applyToCell al sh k c).seq = s.seq ∧ (s.applyToCell al sh k c).mem = s.mem ∧
    (s.applyToCell al sh k c).refresh = s.refresh ∧ (s.applyToCell al sh k c).port = s.port ∧
    (s.applyToCell al sh k c).control = s.control ∧ (s.applyToCell al sh k c).pending = s.pending ∧
    (s.applyToCell al sh k c).freeCounter = s.freeCounter := by
  dsimp only [State.applyToCell]
  (repeat' split) <;> simp

@[simp] theorem State.writeResults_frame (s : State) (al : Allocation) (cp : CounterPoint) (res : ShareResult) :
    (s.writeResults al cp res).cells = s.cells ∧ (s.writeResults al cp res).fold = s.fold ∧
    (s.writeResults al cp res).timer = s.timer ∧ (s.writeResults al cp res).converter = s.converter ∧
    (s.writeResults al cp res).gauge = s.gauge ∧ (s.writeResults al cp res).bands = s.bands ∧
    (s.writeResults al cp res).channels = s.channels ∧ (s.writeResults al cp res).transfer = s.transfer ∧
    (s.writeResults al cp res).selector = s.selector ∧ (s.writeResults al cp res).seq = s.seq ∧
    (s.writeResults al cp res).mem = s.mem ∧ (s.writeResults al cp res).arbiter = s.arbiter ∧
    (s.writeResults al cp res).refresh = s.refresh ∧ (s.writeResults al cp res).port = s.port ∧
    (s.writeResults al cp res).control = s.control ∧ (s.writeResults al cp res).pending = s.pending ∧
    (s.writeResults al cp res).freeCounter = s.freeCounter := by
  dsimp only [State.writeResults]
  (repeat' split) <;> simp

@[simp] theorem State.handOn_frame (s : State) (al : Allocation) (cp : CounterPoint) (res : ShareResult) (n : Nat) :
    (s.handOn al cp res n).fold = s.fold ∧ (s.handOn al cp res n).timer = s.timer ∧
    (s.handOn al cp res n).converter = s.converter ∧ (s.handOn al cp res n).bands = s.bands ∧
    (s.handOn al cp res n).channels = s.channels ∧ (s.handOn al cp res n).seq = s.seq ∧
    (s.handOn al cp res n).mem = s.mem ∧ (s.handOn al cp res n).port = s.port ∧
    (s.handOn al cp res n).control = s.control ∧ (s.handOn al cp res n).pending = s.pending := by
  simp [State.handOn]

@[simp] theorem State.completeAllocation_frame (s : State) :
    (s.completeAllocation).fold = s.fold ∧ (s.completeAllocation).timer = s.timer ∧
    (s.completeAllocation).converter = s.converter ∧ (s.completeAllocation).bands = s.bands ∧
    (s.completeAllocation).channels = s.channels ∧ (s.completeAllocation).seq = s.seq ∧
    (s.completeAllocation).mem = s.mem ∧ (s.completeAllocation).port = s.port ∧
    (s.completeAllocation).control = s.control ∧ (s.completeAllocation).pending = s.pending := by
  dsimp only [State.completeAllocation]
  (repeat' split) <;> simp

@[simp] theorem State.setPartState_frame (s : State) (p : PartState) :
    (s.setPartState p).cells = s.cells ∧ (s.setPartState p).fold = s.fold ∧ (s.setPartState p).timer = s.timer ∧
    (s.setPartState p).converter = s.converter ∧ (s.setPartState p).gauge = s.gauge ∧
    (s.setPartState p).bands = s.bands ∧ (s.setPartState p).channels = s.channels ∧
    (s.setPartState p).allocator = s.allocator ∧ (s.setPartState p).transfer = s.transfer ∧
    (s.setPartState p).selector = s.selector ∧ (s.setPartState p).seq = s.seq ∧ (s.setPartState p).mem = s.mem ∧
    (s.setPartState p).arbiter = s.arbiter ∧ (s.setPartState p).refresh = s.refresh ∧
    (s.setPartState p).port = s.port ∧ (s.setPartState p).notices = s.notices ∧
    (s.setPartState p).pending = s.pending ∧ (s.setPartState p).freeCounter = s.freeCounter := by
  simp [State.setPartState]

@[simp] theorem State.enterQuiet_frame (s : State) :
    (s.enterQuiet).fold = s.fold ∧ (s.enterQuiet).timer = s.timer ∧ (s.enterQuiet).converter = s.converter ∧
    (s.enterQuiet).gauge = s.gauge ∧ (s.enterQuiet).bands = s.bands ∧ (s.enterQuiet).channels = s.channels ∧
    (s.enterQuiet).allocator = s.allocator ∧ (s.enterQuiet).transfer = s.transfer ∧
    (s.enterQuiet).selector = s.selector ∧ (s.enterQuiet).mem = s.mem ∧ (s.enterQuiet).arbiter = s.arbiter ∧
    (s.enterQuiet).refresh = s.refresh ∧ (s.enterQuiet).port = s.port ∧ (s.enterQuiet).notices = s.notices ∧
    (s.enterQuiet).pending = s.pending ∧ (s.enterQuiet).freeCounter = s.freeCounter := by
  dsimp only [State.enterQuiet]
  (repeat' split) <;> simp

@[simp] theorem State.setRenewal_frame (s : State) (c : CellId) :
    (s.setRenewal c).fold = s.fold ∧ (s.setRenewal c).timer = s.timer ∧ (s.setRenewal c).converter = s.converter ∧
    (s.setRenewal c).gauge = s.gauge ∧ (s.setRenewal c).bands = s.bands ∧ (s.setRenewal c).channels = s.channels ∧
    (s.setRenewal c).allocator = s.allocator ∧ (s.setRenewal c).transfer = s.transfer ∧
    (s.setRenewal c).selector = s.selector ∧ (s.setRenewal c).seq = s.seq ∧ (s.setRenewal c).mem = s.mem ∧
    (s.setRenewal c).arbiter = s.arbiter ∧ (s.setRenewal c).refresh = s.refresh ∧ (s.setRenewal c).port = s.port ∧
    (s.setRenewal c).notices = s.notices ∧ (s.setRenewal c).control = s.control ∧
    (s.setRenewal c).pending = s.pending ∧ (s.setRenewal c).freeCounter = s.freeCounter := by
  simp [State.setRenewal]

@[simp] theorem State.wakeFreshStep_frame (s : State) :
    (s.wakeFreshStep).fold = s.fold ∧ (s.wakeFreshStep).timer = s.timer ∧
    (s.wakeFreshStep).converter = s.converter ∧ (s.wakeFreshStep).gauge = s.gauge ∧
    (s.wakeFreshStep).channels = s.channels ∧ (s.wakeFreshStep).allocator = s.allocator ∧
    (s.wakeFreshStep).transfer = s.transfer ∧ (s.wakeFreshStep).selector = s.selector ∧
    (s.wakeFreshStep).seq = s.seq ∧ (s.wakeFreshStep).mem = s.mem ∧ (s.wakeFreshStep).arbiter = s.arbiter ∧
    (s.wakeFreshStep).refresh = s.refresh ∧ (s.wakeFreshStep).port = s.port ∧
    (s.wakeFreshStep).notices = s.notices ∧ (s.wakeFreshStep).control = s.control ∧
    (s.wakeFreshStep).pending = s.pending ∧ (s.wakeFreshStep).freeCounter = s.freeCounter := by
  dsimp only [State.wakeFreshStep]
  (repeat' split) <;> simp

@[simp] theorem State.wake_frame (s : State) (b : Bool) :
    (s.wake b).fold = s.fold ∧ (s.wake b).timer = s.timer ∧ (s.wake b).gauge = s.gauge ∧
    (s.wake b).channels = s.channels ∧ (s.wake b).allocator = s.allocator ∧ (s.wake b).selector = s.selector ∧
    (s.wake b).mem = s.mem ∧ (s.wake b).refresh = s.refresh ∧ (s.wake b).port = s.port ∧
    (s.wake b).pending = s.pending ∧ (s.wake b).freeCounter = s.freeCounter := by
  dsimp only [State.wake]
  (repeat' split) <;> simp

@[simp] theorem State.setQreq_frame (s : State) (b : Bool) :
    (s.setQreq b).cells = s.cells ∧ (s.setQreq b).fold = s.fold ∧ (s.setQreq b).timer = s.timer ∧
    (s.setQreq b).converter = s.converter ∧ (s.setQreq b).gauge = s.gauge ∧ (s.setQreq b).bands = s.bands ∧
    (s.setQreq b).channels = s.channels ∧ (s.setQreq b).allocator = s.allocator ∧
    (s.setQreq b).transfer = s.transfer ∧ (s.setQreq b).selector = s.selector ∧ (s.setQreq b).seq = s.seq ∧
    (s.setQreq b).mem = s.mem ∧ (s.setQreq b).arbiter = s.arbiter ∧ (s.setQreq b).refresh = s.refresh ∧
    (s.setQreq b).port = s.port ∧ (s.setQreq b).notices = s.notices ∧ (s.setQreq b).pending = s.pending ∧
    (s.setQreq b).freeCounter = s.freeCounter := by
  simp [State.setQreq]

@[simp] theorem State.qreqRises_frame (s : State) :
    (s.qreqRises).fold = s.fold ∧ (s.qreqRises).timer = s.timer ∧ (s.qreqRises).converter = s.converter ∧
    (s.qreqRises).gauge = s.gauge ∧ (s.qreqRises).bands = s.bands ∧ (s.qreqRises).channels = s.channels ∧
    (s.qreqRises).allocator = s.allocator ∧ (s.qreqRises).transfer = s.transfer ∧
    (s.qreqRises).selector = s.selector ∧ (s.qreqRises).mem = s.mem ∧ (s.qreqRises).arbiter = s.arbiter ∧
    (s.qreqRises).refresh = s.refresh ∧ (s.qreqRises).port = s.port ∧ (s.qreqRises).notices = s.notices ∧
    (s.qreqRises).pending = s.pending ∧ (s.qreqRises).freeCounter = s.freeCounter := by
  dsimp only [State.qreqRises]
  (repeat' split) <;> simp

@[simp] theorem State.qreqFalls_frame (s : State) :
    (s.qreqFalls).fold = s.fold ∧ (s.qreqFalls).timer = s.timer ∧ (s.qreqFalls).gauge = s.gauge ∧
    (s.qreqFalls).channels = s.channels ∧ (s.qreqFalls).pending = s.pending := by
  dsimp only [State.qreqFalls]
  (repeat' split) <;> simp

@[simp] theorem State.testDie_frame (s : State) (t : Int) :
    (s.testDie t).cells = s.cells ∧ (s.testDie t).fold = s.fold ∧ (s.testDie t).timer = s.timer ∧
    (s.testDie t).converter = s.converter ∧ (s.testDie t).gauge = s.gauge ∧ (s.testDie t).bands = s.bands ∧
    (s.testDie t).channels = s.channels ∧ (s.testDie t).allocator = s.allocator ∧
    (s.testDie t).transfer = s.transfer ∧ (s.testDie t).selector = s.selector ∧ (s.testDie t).seq = s.seq ∧
    (s.testDie t).mem = s.mem ∧ (s.testDie t).arbiter = s.arbiter ∧ (s.testDie t).refresh = s.refresh ∧
    (s.testDie t).port = s.port ∧ (s.testDie t).notices = s.notices ∧ (s.testDie t).pending = s.pending ∧
    (s.testDie t).freeCounter = s.freeCounter := by
  simp [State.testDie]

@[simp] theorem State.enterHeat_frame (s : State) :
    (s.enterHeat).fold = s.fold ∧ (s.enterHeat).timer = s.timer ∧ (s.enterHeat).converter = s.converter ∧
    (s.enterHeat).gauge = s.gauge ∧ (s.enterHeat).bands = s.bands ∧ (s.enterHeat).channels = s.channels ∧
    (s.enterHeat).allocator = s.allocator ∧ (s.enterHeat).selector = s.selector ∧ (s.enterHeat).seq = s.seq ∧
    (s.enterHeat).mem = s.mem ∧ (s.enterHeat).arbiter = s.arbiter ∧ (s.enterHeat).refresh = s.refresh ∧
    (s.enterHeat).port = s.port ∧ (s.enterHeat).pending = s.pending ∧ (s.enterHeat).freeCounter = s.freeCounter := by
  simp [State.enterHeat]

@[simp] theorem State.exitHeat_frame (s : State) :
    (s.exitHeat).fold = s.fold ∧ (s.exitHeat).timer = s.timer ∧ (s.exitHeat).gauge = s.gauge ∧
    (s.exitHeat).channels = s.channels ∧ (s.exitHeat).allocator = s.allocator ∧
    (s.exitHeat).selector = s.selector ∧ (s.exitHeat).mem = s.mem ∧ (s.exitHeat).refresh = s.refresh ∧
    (s.exitHeat).port = s.port ∧ (s.exitHeat).pending = s.pending ∧ (s.exitHeat).freeCounter = s.freeCounter := by
  dsimp only [State.exitHeat]
  (repeat' split) <;> simp

@[simp] theorem State.testHeat_frame (s : State) (t : Int) :
    (s.testHeat t).fold = s.fold ∧ (s.testHeat t).timer = s.timer ∧ (s.testHeat t).gauge = s.gauge ∧
    (s.testHeat t).channels = s.channels ∧ (s.testHeat t).allocator = s.allocator ∧
    (s.testHeat t).selector = s.selector ∧ (s.testHeat t).mem = s.mem ∧ (s.testHeat t).refresh = s.refresh ∧
    (s.testHeat t).port = s.port ∧ (s.testHeat t).pending = s.pending ∧ (s.testHeat t).freeCounter = s.freeCounter := by
  dsimp only [State.testHeat]
  (repeat' split) <;> simp

@[simp] theorem State.endStartup_frame (s : State) :
    (s.endStartup).fold = s.fold ∧ (s.endStartup).timer = s.timer ∧ (s.endStartup).converter = s.converter ∧
    (s.endStartup).gauge = s.gauge ∧ (s.endStartup).bands = s.bands ∧ (s.endStartup).channels = s.channels ∧
    (s.endStartup).allocator = s.allocator ∧ (s.endStartup).transfer = s.transfer ∧
    (s.endStartup).selector = s.selector ∧ (s.endStartup).mem = s.mem ∧ (s.endStartup).arbiter = s.arbiter ∧
    (s.endStartup).refresh = s.refresh ∧ (s.endStartup).port = s.port ∧ (s.endStartup).notices = s.notices ∧
    (s.endStartup).pending = s.pending ∧ (s.endStartup).freeCounter = s.freeCounter := by
  dsimp only [State.endStartup]
  (repeat' split) <;> simp

@[simp] theorem State.closeCellA_frame (s : State) :
    (s.closeCellA).fold = s.fold ∧ (s.closeCellA).timer = s.timer ∧ (s.closeCellA).converter = s.converter ∧
    (s.closeCellA).gauge = s.gauge ∧ (s.closeCellA).bands = s.bands ∧ (s.closeCellA).channels = s.channels ∧
    (s.closeCellA).allocator = s.allocator ∧ (s.closeCellA).transfer = s.transfer ∧
    (s.closeCellA).selector = s.selector ∧ (s.closeCellA).seq = s.seq ∧ (s.closeCellA).mem = s.mem ∧
    (s.closeCellA).arbiter = s.arbiter ∧ (s.closeCellA).refresh = s.refresh ∧ (s.closeCellA).port = s.port ∧
    (s.closeCellA).notices = s.notices ∧ (s.closeCellA).pending = s.pending ∧
    (s.closeCellA).freeCounter = s.freeCounter := by
  simp [State.closeCellA]

@[simp] theorem State.beginStartup_frame (s : State) :
    (s.beginStartup).fold = s.fold ∧ (s.beginStartup).converter = s.converter ∧ (s.beginStartup).gauge = s.gauge ∧
    (s.beginStartup).bands = s.bands ∧ (s.beginStartup).channels = s.channels ∧
    (s.beginStartup).allocator = s.allocator ∧ (s.beginStartup).transfer = s.transfer ∧
    (s.beginStartup).selector = s.selector ∧ (s.beginStartup).mem = s.mem ∧ (s.beginStartup).arbiter = s.arbiter ∧
    (s.beginStartup).refresh = s.refresh ∧ (s.beginStartup).notices = s.notices ∧
    (s.beginStartup).pending = s.pending ∧ (s.beginStartup).freeCounter = s.freeCounter := by
  dsimp only [State.beginStartup]
  (repeat' split) <;> simp

@[simp] theorem State.startupSlot_frame (s : State) :
    (s.startupSlot).fold = s.fold ∧ (s.startupSlot).timer = s.timer ∧ (s.startupSlot).converter = s.converter ∧
    (s.startupSlot).gauge = s.gauge ∧ (s.startupSlot).bands = s.bands ∧ (s.startupSlot).channels = s.channels ∧
    (s.startupSlot).allocator = s.allocator ∧ (s.startupSlot).transfer = s.transfer ∧
    (s.startupSlot).selector = s.selector ∧ (s.startupSlot).mem = s.mem ∧ (s.startupSlot).arbiter = s.arbiter ∧
    (s.startupSlot).refresh = s.refresh ∧ (s.startupSlot).port = s.port ∧ (s.startupSlot).notices = s.notices ∧
    (s.startupSlot).pending = s.pending ∧ (s.startupSlot).freeCounter = s.freeCounter := by
  dsimp only [State.startupSlot]
  (repeat' split) <;> simp

@[simp] theorem State.abandonScan_frame (s : State) :
    (s.abandonScan).cells = s.cells ∧ (s.abandonScan).fold = s.fold ∧ (s.abandonScan).timer = s.timer ∧
    (s.abandonScan).gauge = s.gauge ∧ (s.abandonScan).bands = s.bands ∧ (s.abandonScan).channels = s.channels ∧
    (s.abandonScan).allocator = s.allocator ∧ (s.abandonScan).transfer = s.transfer ∧
    (s.abandonScan).selector = s.selector ∧ (s.abandonScan).seq = s.seq ∧ (s.abandonScan).mem = s.mem ∧
    (s.abandonScan).arbiter = s.arbiter ∧ (s.abandonScan).refresh = s.refresh ∧ (s.abandonScan).port = s.port ∧
    (s.abandonScan).notices = s.notices ∧ (s.abandonScan).control = s.control ∧
    (s.abandonScan).pending = s.pending ∧ (s.abandonScan).freeCounter = s.freeCounter := by
  dsimp only [State.abandonScan]
  simp

@[simp] theorem State.openCellA_frame (s : State) :
    (s.openCellA).fold = s.fold ∧ (s.openCellA).timer = s.timer ∧ (s.openCellA).converter = s.converter ∧
    (s.openCellA).gauge = s.gauge ∧ (s.openCellA).bands = s.bands ∧ (s.openCellA).channels = s.channels ∧
    (s.openCellA).allocator = s.allocator ∧ (s.openCellA).transfer = s.transfer ∧
    (s.openCellA).selector = s.selector ∧ (s.openCellA).seq = s.seq ∧ (s.openCellA).mem = s.mem ∧
    (s.openCellA).arbiter = s.arbiter ∧ (s.openCellA).refresh = s.refresh ∧ (s.openCellA).port = s.port ∧
    (s.openCellA).notices = s.notices ∧ (s.openCellA).pending = s.pending ∧
    (s.openCellA).freeCounter = s.freeCounter := by
  simp [State.openCellA]

@[simp] theorem State.openCellB_frame (s : State) :
    (s.openCellB).fold = s.fold ∧ (s.openCellB).timer = s.timer ∧ (s.openCellB).converter = s.converter ∧
    (s.openCellB).gauge = s.gauge ∧ (s.openCellB).bands = s.bands ∧ (s.openCellB).channels = s.channels ∧
    (s.openCellB).allocator = s.allocator ∧ (s.openCellB).transfer = s.transfer ∧
    (s.openCellB).selector = s.selector ∧ (s.openCellB).seq = s.seq ∧ (s.openCellB).mem = s.mem ∧
    (s.openCellB).arbiter = s.arbiter ∧ (s.openCellB).refresh = s.refresh ∧ (s.openCellB).port = s.port ∧
    (s.openCellB).notices = s.notices ∧ (s.openCellB).pending = s.pending ∧
    (s.openCellB).freeCounter = s.freeCounter := by
  simp [State.openCellB]

@[simp] theorem State.refuseShip_frame (s : State) :
    (s.refuseShip).cells = s.cells ∧ (s.refuseShip).fold = s.fold ∧ (s.refuseShip).timer = s.timer ∧
    (s.refuseShip).converter = s.converter ∧ (s.refuseShip).gauge = s.gauge ∧ (s.refuseShip).bands = s.bands ∧
    (s.refuseShip).channels = s.channels ∧ (s.refuseShip).allocator = s.allocator ∧
    (s.refuseShip).transfer = s.transfer ∧ (s.refuseShip).selector = s.selector ∧ (s.refuseShip).seq = s.seq ∧
    (s.refuseShip).mem = s.mem ∧ (s.refuseShip).arbiter = s.arbiter ∧ (s.refuseShip).refresh = s.refresh ∧
    (s.refuseShip).port = s.port ∧ (s.refuseShip).notices = s.notices ∧ (s.refuseShip).pending = s.pending ∧
    (s.refuseShip).freeCounter = s.freeCounter := by
  simp [State.refuseShip]

@[simp] theorem State.wakeMeasurement_frame (s : State) :
    (s.wakeMeasurement).gauge = s.gauge ∧ (s.wakeMeasurement).channels = s.channels ∧
    (s.wakeMeasurement).allocator = s.allocator ∧ (s.wakeMeasurement).transfer = s.transfer ∧
    (s.wakeMeasurement).selector = s.selector ∧ (s.wakeMeasurement).seq = s.seq ∧ (s.wakeMeasurement).mem = s.mem ∧
    (s.wakeMeasurement).arbiter = s.arbiter ∧ (s.wakeMeasurement).refresh = s.refresh ∧
    (s.wakeMeasurement).port = s.port ∧ (s.wakeMeasurement).notices = s.notices ∧
    (s.wakeMeasurement).control = s.control ∧ (s.wakeMeasurement).pending = s.pending ∧
    (s.wakeMeasurement).freeCounter = s.freeCounter := by repeat' constructor

@[simp] theorem State.wakePower_frame (s : State) :
    (s.wakePower).cells = s.cells ∧ (s.wakePower).fold = s.fold ∧ (s.wakePower).timer = s.timer ∧
    (s.wakePower).converter = s.converter ∧ (s.wakePower).gauge = s.gauge ∧ (s.wakePower).bands = s.bands ∧
    (s.wakePower).channels = s.channels ∧ (s.wakePower).seq = s.seq ∧ (s.wakePower).mem = s.mem ∧
    (s.wakePower).arbiter = s.arbiter ∧ (s.wakePower).refresh = s.refresh ∧ (s.wakePower).port = s.port ∧
    (s.wakePower).notices = s.notices ∧ (s.wakePower).control = s.control ∧ (s.wakePower).pending = s.pending ∧
    (s.wakePower).freeCounter = s.freeCounter := by repeat' constructor

@[simp] theorem State.wakeLink_frame (s : State) :
    (s.wakeLink).cells = s.cells ∧ (s.wakeLink).fold = s.fold ∧ (s.wakeLink).timer = s.timer ∧
    (s.wakeLink).converter = s.converter ∧ (s.wakeLink).bands = s.bands ∧ (s.wakeLink).channels = s.channels ∧
    (s.wakeLink).allocator = s.allocator ∧ (s.wakeLink).transfer = s.transfer ∧
    (s.wakeLink).selector = s.selector ∧ (s.wakeLink).seq = s.seq ∧ (s.wakeLink).mem = s.mem ∧
    (s.wakeLink).refresh = s.refresh ∧ (s.wakeLink).control = s.control ∧ (s.wakeLink).pending = s.pending ∧
    (s.wakeLink).freeCounter = s.freeCounter := by repeat' constructor

@[simp] theorem State.wakeControl_frame (s : State) :
    (s.wakeControl).cells = s.cells ∧ (s.wakeControl).fold = s.fold ∧ (s.wakeControl).timer = s.timer ∧
    (s.wakeControl).converter = s.converter ∧ (s.wakeControl).gauge = s.gauge ∧ (s.wakeControl).bands = s.bands ∧
    (s.wakeControl).channels = s.channels ∧ (s.wakeControl).allocator = s.allocator ∧
    (s.wakeControl).transfer = s.transfer ∧ (s.wakeControl).selector = s.selector ∧ (s.wakeControl).seq = s.seq ∧
    (s.wakeControl).mem = s.mem ∧ (s.wakeControl).arbiter = s.arbiter ∧ (s.wakeControl).refresh = s.refresh ∧
    (s.wakeControl).port = s.port ∧ (s.wakeControl).notices = s.notices ∧ (s.wakeControl).pending = s.pending ∧
    (s.wakeControl).freeCounter = s.freeCounter := by
  simp [State.wakeControl]

@[simp] theorem State.shipWake_frame (s : State) :
    (s.shipWake).mem = s.mem ∧ (s.shipWake).pending = s.pending ∧ (s.shipWake).freeCounter = s.freeCounter := by
  simp [State.shipWake]

@[simp] theorem State.enterShip_frame (s : State) :
    (s.enterShip).mem = s.mem ∧ (s.enterShip).pending = s.pending ∧ (s.enterShip).freeCounter = s.freeCounter := by
  dsimp only [State.enterShip]
  (repeat' split) <;> simp

@[simp] theorem State.openInput_frame (s : State) :
    (s.openInput).mem = s.mem ∧ (s.openInput).pending = s.pending ∧ (s.openInput).freeCounter = s.freeCounter := by
  simp [State.openInput]

@[simp] theorem State.shipSlotExpires_frame (s : State) :
    (s.shipSlotExpires).mem = s.mem ∧ (s.shipSlotExpires).pending = s.pending ∧
    (s.shipSlotExpires).freeCounter = s.freeCounter := by
  dsimp only [State.shipSlotExpires]
  (repeat' split) <;> simp

@[simp] theorem State.acceptShip_frame (s : State) :
    (s.acceptShip).mem = s.mem ∧ (s.acceptShip).pending = s.pending ∧ (s.acceptShip).freeCounter = s.freeCounter := by
  dsimp only [State.acceptShip]
  (repeat' split) <;> simp

@[simp] theorem State.ship_frame (s : State) :
    (s.ship).mem = s.mem ∧ (s.ship).pending = s.pending ∧ (s.ship).freeCounter = s.freeCounter := by
  dsimp only [State.ship]
  (repeat' split) <;> simp

@[simp] theorem State.attachWake_frame (s : State) (i : Input) :
    (s.attachWake i).mem = s.mem ∧ (s.attachWake i).pending = s.pending ∧
    (s.attachWake i).freeCounter = s.freeCounter := by
  dsimp only [State.attachWake]
  (repeat' split) <;> simp

@[simp] theorem State.softResetBlocks_frame (s : State) :
    (s.softResetBlocks).mem = s.mem ∧ (s.softResetBlocks).pending = s.pending := by
  dsimp only [State.softResetBlocks]
  (repeat' split) <;> simp

@[simp] theorem State.softReset_frame (s : State) :
    (s.softReset).mem = s.mem ∧ (s.softReset).pending = s.pending := by
  dsimp only [State.softReset]
  (repeat' split) <;> simp

@[simp] theorem State.command_frame (s : State) (c : Command) :
    (s.command c).mem = s.mem ∧ (s.command c).pending = s.pending := by
  cases c <;> simp [State.command]

@[simp] theorem State.writeCommand_frame (s : State) (w : Word) :
    (s.writeCommand w).mem = s.mem ∧ (s.writeCommand w).pending = s.pending := by
  dsimp only [State.writeCommand]
  (repeat' split) <;> simp

@[simp] theorem State.writeMask_frame (s : State) (w : Word) :
    (s.writeMask w).cells = s.cells ∧ (s.writeMask w).fold = s.fold ∧ (s.writeMask w).timer = s.timer ∧
    (s.writeMask w).converter = s.converter ∧ (s.writeMask w).gauge = s.gauge ∧ (s.writeMask w).bands = s.bands ∧
    (s.writeMask w).channels = s.channels ∧ (s.writeMask w).allocator = s.allocator ∧
    (s.writeMask w).transfer = s.transfer ∧ (s.writeMask w).selector = s.selector ∧ (s.writeMask w).seq = s.seq ∧
    (s.writeMask w).mem = s.mem ∧ (s.writeMask w).arbiter = s.arbiter ∧ (s.writeMask w).refresh = s.refresh ∧
    (s.writeMask w).port = s.port ∧ (s.writeMask w).control = s.control ∧ (s.writeMask w).pending = s.pending ∧
    (s.writeMask w).freeCounter = s.freeCounter := by repeat' constructor

@[simp] theorem State.writeRegister_frame (s : State) (r : LinkRegister) (w : Word) :
    (s.writeRegister r w).mem = s.mem ∧ (s.writeRegister r w).pending = s.pending := by
  dsimp only [State.writeRegister]
  (repeat' split) <;> simp

@[simp] theorem State.readRegister_frame (s : State) (r : LinkRegister) :
    ((s.readRegister r).2).cells = s.cells ∧ ((s.readRegister r).2).fold = s.fold ∧
    ((s.readRegister r).2).timer = s.timer ∧ ((s.readRegister r).2).converter = s.converter ∧
    ((s.readRegister r).2).gauge = s.gauge ∧ ((s.readRegister r).2).bands = s.bands ∧
    ((s.readRegister r).2).channels = s.channels ∧ ((s.readRegister r).2).allocator = s.allocator ∧
    ((s.readRegister r).2).transfer = s.transfer ∧ ((s.readRegister r).2).selector = s.selector ∧
    ((s.readRegister r).2).mem = s.mem ∧ ((s.readRegister r).2).arbiter = s.arbiter ∧
    ((s.readRegister r).2).refresh = s.refresh ∧ ((s.readRegister r).2).port = s.port ∧
    ((s.readRegister r).2).notices = s.notices ∧ ((s.readRegister r).2).control = s.control ∧
    ((s.readRegister r).2).pending = s.pending ∧ ((s.readRegister r).2).freeCounter = s.freeCounter := by
  dsimp only [State.readRegister]
  (repeat' split) <;> simp

@[simp] theorem State.setOps_frame (s : State) (o : List PortOp) :
    (s.setOps o).cells = s.cells ∧ (s.setOps o).fold = s.fold ∧ (s.setOps o).timer = s.timer ∧
    (s.setOps o).converter = s.converter ∧ (s.setOps o).gauge = s.gauge ∧ (s.setOps o).bands = s.bands ∧
    (s.setOps o).channels = s.channels ∧ (s.setOps o).allocator = s.allocator ∧
    (s.setOps o).transfer = s.transfer ∧ (s.setOps o).selector = s.selector ∧ (s.setOps o).seq = s.seq ∧
    (s.setOps o).mem = s.mem ∧ (s.setOps o).arbiter = s.arbiter ∧ (s.setOps o).refresh = s.refresh ∧
    (s.setOps o).notices = s.notices ∧ (s.setOps o).control = s.control ∧ (s.setOps o).pending = s.pending ∧
    (s.setOps o).freeCounter = s.freeCounter := by repeat' constructor

@[simp] theorem State.requestLink_frame (s : State) :
    (s.requestLink).cells = s.cells ∧ (s.requestLink).fold = s.fold ∧ (s.requestLink).timer = s.timer ∧
    (s.requestLink).converter = s.converter ∧ (s.requestLink).gauge = s.gauge ∧ (s.requestLink).bands = s.bands ∧
    (s.requestLink).channels = s.channels ∧ (s.requestLink).allocator = s.allocator ∧
    (s.requestLink).transfer = s.transfer ∧ (s.requestLink).selector = s.selector ∧ (s.requestLink).seq = s.seq ∧
    (s.requestLink).mem = s.mem ∧ (s.requestLink).refresh = s.refresh ∧ (s.requestLink).port = s.port ∧
    (s.requestLink).notices = s.notices ∧ (s.requestLink).control = s.control ∧
    (s.requestLink).pending = s.pending ∧ (s.requestLink).freeCounter = s.freeCounter := by repeat' constructor

@[simp] theorem State.requestReadRun_frame (s : State) (i : Nat) :
    (s.requestReadRun i).cells = s.cells ∧ (s.requestReadRun i).fold = s.fold ∧
    (s.requestReadRun i).timer = s.timer ∧ (s.requestReadRun i).converter = s.converter ∧
    (s.requestReadRun i).gauge = s.gauge ∧ (s.requestReadRun i).bands = s.bands ∧
    (s.requestReadRun i).channels = s.channels ∧ (s.requestReadRun i).allocator = s.allocator ∧
    (s.requestReadRun i).transfer = s.transfer ∧ (s.requestReadRun i).selector = s.selector ∧
    (s.requestReadRun i).seq = s.seq ∧ (s.requestReadRun i).mem = s.mem ∧
    (s.requestReadRun i).arbiter = s.arbiter ∧ (s.requestReadRun i).refresh = s.refresh ∧
    (s.requestReadRun i).notices = s.notices ∧ (s.requestReadRun i).control = s.control ∧
    (s.requestReadRun i).pending = s.pending ∧ (s.requestReadRun i).freeCounter = s.freeCounter := by
  dsimp only [State.requestReadRun]
  (repeat' split) <;> simp

@[simp] theorem State.receiveWord_frame (s : State) (i : Nat) (w : Word) :
    (s.receiveWord i w).cells = s.cells ∧ (s.receiveWord i w).fold = s.fold ∧ (s.receiveWord i w).timer = s.timer ∧
    (s.receiveWord i w).converter = s.converter ∧ (s.receiveWord i w).gauge = s.gauge ∧
    (s.receiveWord i w).bands = s.bands ∧ (s.receiveWord i w).channels = s.channels ∧
    (s.receiveWord i w).allocator = s.allocator ∧ (s.receiveWord i w).transfer = s.transfer ∧
    (s.receiveWord i w).selector = s.selector ∧ (s.receiveWord i w).seq = s.seq ∧ (s.receiveWord i w).mem = s.mem ∧
    (s.receiveWord i w).arbiter = s.arbiter ∧ (s.receiveWord i w).refresh = s.refresh ∧
    (s.receiveWord i w).notices = s.notices ∧ (s.receiveWord i w).control = s.control ∧
    (s.receiveWord i w).pending = s.pending ∧ (s.receiveWord i w).freeCounter = s.freeCounter := by
  dsimp only [State.receiveWord]
  (repeat' split) <;> simp

@[simp] theorem State.receiveRegister_frame (s : State) (r : LinkRegister) (w : Word) :
    (s.receiveRegister r w).mem = s.mem ∧ (s.receiveRegister r w).pending = s.pending := by
  dsimp only [State.receiveRegister]
  (repeat' split) <;> simp

@[simp] theorem State.writeAt_frame (s : State) (a w : Word) :
    (s.writeAt a w).mem = s.mem ∧ (s.writeAt a w).pending = s.pending := by
  dsimp only [State.writeAt]
  (repeat' split) <;> simp

@[simp] theorem State.ensureRun_frame (s : State) (i : Nat) :
    (s.ensureRun i).cells = s.cells ∧ (s.ensureRun i).fold = s.fold ∧ (s.ensureRun i).timer = s.timer ∧
    (s.ensureRun i).converter = s.converter ∧ (s.ensureRun i).gauge = s.gauge ∧ (s.ensureRun i).bands = s.bands ∧
    (s.ensureRun i).channels = s.channels ∧ (s.ensureRun i).allocator = s.allocator ∧
    (s.ensureRun i).transfer = s.transfer ∧ (s.ensureRun i).selector = s.selector ∧ (s.ensureRun i).seq = s.seq ∧
    (s.ensureRun i).mem = s.mem ∧ (s.ensureRun i).arbiter = s.arbiter ∧ (s.ensureRun i).refresh = s.refresh ∧
    (s.ensureRun i).notices = s.notices ∧ (s.ensureRun i).control = s.control ∧ (s.ensureRun i).pending = s.pending ∧
    (s.ensureRun i).freeCounter = s.freeCounter := by
  dsimp only [State.ensureRun]
  (repeat' split) <;> simp

@[simp] theorem State.readFromRun_frame (s : State) (r : Run) (i : Nat) :
    ((s.readFromRun r i).2).cells = s.cells ∧ ((s.readFromRun r i).2).fold = s.fold ∧
    ((s.readFromRun r i).2).timer = s.timer ∧ ((s.readFromRun r i).2).converter = s.converter ∧
    ((s.readFromRun r i).2).gauge = s.gauge ∧ ((s.readFromRun r i).2).bands = s.bands ∧
    ((s.readFromRun r i).2).channels = s.channels ∧ ((s.readFromRun r i).2).allocator = s.allocator ∧
    ((s.readFromRun r i).2).transfer = s.transfer ∧ ((s.readFromRun r i).2).selector = s.selector ∧
    ((s.readFromRun r i).2).seq = s.seq ∧ ((s.readFromRun r i).2).mem = s.mem ∧
    ((s.readFromRun r i).2).arbiter = s.arbiter ∧ ((s.readFromRun r i).2).refresh = s.refresh ∧
    ((s.readFromRun r i).2).notices = s.notices ∧ ((s.readFromRun r i).2).control = s.control ∧
    ((s.readFromRun r i).2).pending = s.pending ∧ ((s.readFromRun r i).2).freeCounter = s.freeCounter := by
  dsimp only [State.readFromRun]
  (repeat' split) <;> simp

@[simp] theorem State.readArea_frame (s : State) (i : Nat) :
    ((s.readArea i).2).cells = s.cells ∧ ((s.readArea i).2).fold = s.fold ∧ ((s.readArea i).2).timer = s.timer ∧
    ((s.readArea i).2).converter = s.converter ∧ ((s.readArea i).2).gauge = s.gauge ∧
    ((s.readArea i).2).bands = s.bands ∧ ((s.readArea i).2).channels = s.channels ∧
    ((s.readArea i).2).allocator = s.allocator ∧ ((s.readArea i).2).transfer = s.transfer ∧
    ((s.readArea i).2).selector = s.selector ∧ ((s.readArea i).2).seq = s.seq ∧ ((s.readArea i).2).mem = s.mem ∧
    ((s.readArea i).2).arbiter = s.arbiter ∧ ((s.readArea i).2).refresh = s.refresh ∧
    ((s.readArea i).2).notices = s.notices ∧ ((s.readArea i).2).control = s.control ∧
    ((s.readArea i).2).pending = s.pending ∧ ((s.readArea i).2).freeCounter = s.freeCounter := by
  dsimp only [State.readArea]
  (repeat' split) <;> simp

@[simp] theorem State.readAt_frame (s : State) (a : Word) :
    ((s.readAt a).2).cells = s.cells ∧ ((s.readAt a).2).fold = s.fold ∧ ((s.readAt a).2).timer = s.timer ∧
    ((s.readAt a).2).converter = s.converter ∧ ((s.readAt a).2).gauge = s.gauge ∧
    ((s.readAt a).2).bands = s.bands ∧ ((s.readAt a).2).channels = s.channels ∧
    ((s.readAt a).2).allocator = s.allocator ∧ ((s.readAt a).2).transfer = s.transfer ∧
    ((s.readAt a).2).selector = s.selector ∧ ((s.readAt a).2).mem = s.mem ∧ ((s.readAt a).2).arbiter = s.arbiter ∧
    ((s.readAt a).2).refresh = s.refresh ∧ ((s.readAt a).2).notices = s.notices ∧
    ((s.readAt a).2).control = s.control ∧ ((s.readAt a).2).pending = s.pending ∧
    ((s.readAt a).2).freeCounter = s.freeCounter := by
  dsimp only [State.readAt]
  (repeat' split) <;> simp

@[simp] theorem State.setFrame_frame (s : State) (f : FramePhase) :
    (s.setFrame f).cells = s.cells ∧ (s.setFrame f).fold = s.fold ∧ (s.setFrame f).timer = s.timer ∧
    (s.setFrame f).converter = s.converter ∧ (s.setFrame f).gauge = s.gauge ∧ (s.setFrame f).bands = s.bands ∧
    (s.setFrame f).channels = s.channels ∧ (s.setFrame f).allocator = s.allocator ∧
    (s.setFrame f).transfer = s.transfer ∧ (s.setFrame f).selector = s.selector ∧ (s.setFrame f).seq = s.seq ∧
    (s.setFrame f).mem = s.mem ∧ (s.setFrame f).arbiter = s.arbiter ∧ (s.setFrame f).refresh = s.refresh ∧
    (s.setFrame f).notices = s.notices ∧ (s.setFrame f).control = s.control ∧ (s.setFrame f).pending = s.pending ∧
    (s.setFrame f).freeCounter = s.freeCounter := by repeat' constructor

@[simp] theorem State.takeAddress_frame (s : State) (d : Direction) (a : Word) :
    (s.takeAddress d a).cells = s.cells ∧ (s.takeAddress d a).fold = s.fold ∧ (s.takeAddress d a).timer = s.timer ∧
    (s.takeAddress d a).converter = s.converter ∧ (s.takeAddress d a).gauge = s.gauge ∧
    (s.takeAddress d a).bands = s.bands ∧ (s.takeAddress d a).channels = s.channels ∧
    (s.takeAddress d a).allocator = s.allocator ∧ (s.takeAddress d a).transfer = s.transfer ∧
    (s.takeAddress d a).selector = s.selector ∧ (s.takeAddress d a).seq = s.seq ∧ (s.takeAddress d a).mem = s.mem ∧
    (s.takeAddress d a).arbiter = s.arbiter ∧ (s.takeAddress d a).refresh = s.refresh ∧
    (s.takeAddress d a).notices = s.notices ∧ (s.takeAddress d a).control = s.control ∧
    (s.takeAddress d a).pending = s.pending ∧ (s.takeAddress d a).freeCounter = s.freeCounter := by
  dsimp only [State.takeAddress]
  (repeat' split) <;> simp

@[simp] theorem State.shiftOut_frame (s : State) (w : Word) :
    (s.shiftOut w).cells = s.cells ∧ (s.shiftOut w).fold = s.fold ∧ (s.shiftOut w).timer = s.timer ∧
    (s.shiftOut w).converter = s.converter ∧ (s.shiftOut w).gauge = s.gauge ∧ (s.shiftOut w).bands = s.bands ∧
    (s.shiftOut w).channels = s.channels ∧ (s.shiftOut w).allocator = s.allocator ∧
    (s.shiftOut w).transfer = s.transfer ∧ (s.shiftOut w).selector = s.selector ∧ (s.shiftOut w).seq = s.seq ∧
    (s.shiftOut w).mem = s.mem ∧ (s.shiftOut w).arbiter = s.arbiter ∧ (s.shiftOut w).refresh = s.refresh ∧
    (s.shiftOut w).notices = s.notices ∧ (s.shiftOut w).control = s.control ∧ (s.shiftOut w).pending = s.pending ∧
    (s.shiftOut w).freeCounter = s.freeCounter := by repeat' constructor

@[simp] theorem State.endFrame_frame (s : State) :
    (s.endFrame).cells = s.cells ∧ (s.endFrame).fold = s.fold ∧ (s.endFrame).timer = s.timer ∧
    (s.endFrame).converter = s.converter ∧ (s.endFrame).gauge = s.gauge ∧ (s.endFrame).bands = s.bands ∧
    (s.endFrame).channels = s.channels ∧ (s.endFrame).allocator = s.allocator ∧
    (s.endFrame).transfer = s.transfer ∧ (s.endFrame).selector = s.selector ∧ (s.endFrame).seq = s.seq ∧
    (s.endFrame).mem = s.mem ∧ (s.endFrame).arbiter = s.arbiter ∧ (s.endFrame).refresh = s.refresh ∧
    (s.endFrame).notices = s.notices ∧ (s.endFrame).control = s.control ∧ (s.endFrame).pending = s.pending ∧
    (s.endFrame).freeCounter = s.freeCounter := by repeat' constructor

@[simp] theorem State.frameEvent_frame (s : State) (e : FrameEvent) :
    (s.frameEvent e).mem = s.mem ∧ (s.frameEvent e).pending = s.pending := by
  dsimp only [State.frameEvent]
  (repeat' split) <;> simp

@[simp] theorem State.busEvent_frame (s : State) (e : FrameEvent) :
    (s.busEvent e).pending = s.pending := by
  dsimp only [State.busEvent]
  (repeat' split) <;> simp

@[simp] theorem State.busEvents_frame (s : State) (l : List FrameEvent) :
    (s.busEvents l).pending = s.pending := by
  induction l generalizing s with
  | nil => simp [State.busEvents]
  | cons e l ih => simp [State.busEvents, ih]

@[simp] theorem State.actHeld_frame (s : State) :
    (s.actHeld).mem = s.mem ∧ (s.actHeld).pending = s.pending := by
  dsimp only [State.actHeld]
  (repeat' split) <;> simp

@[simp] theorem State.linkCompleted_frame (s : State) :
    (s.linkCompleted).pending = s.pending := by
  simp [State.linkCompleted]

@[simp] theorem State.countPeriod_frame (s : State) :
    (s.countPeriod).cells = s.cells ∧ (s.countPeriod).fold = s.fold ∧ (s.countPeriod).converter = s.converter ∧
    (s.countPeriod).gauge = s.gauge ∧ (s.countPeriod).bands = s.bands ∧ (s.countPeriod).channels = s.channels ∧
    (s.countPeriod).allocator = s.allocator ∧ (s.countPeriod).transfer = s.transfer ∧
    (s.countPeriod).selector = s.selector ∧ (s.countPeriod).seq = s.seq ∧ (s.countPeriod).mem = s.mem ∧
    (s.countPeriod).arbiter = s.arbiter ∧ (s.countPeriod).refresh = s.refresh ∧ (s.countPeriod).port = s.port ∧
    (s.countPeriod).notices = s.notices ∧ (s.countPeriod).control = s.control ∧
    (s.countPeriod).pending = s.pending ∧ (s.countPeriod).freeCounter = s.freeCounter := by repeat' constructor

@[simp] theorem State.askScan_frame (s : State) :
    (s.askScan).cells = s.cells ∧ (s.askScan).fold = s.fold ∧ (s.askScan).timer = s.timer ∧
    (s.askScan).gauge = s.gauge ∧ (s.askScan).bands = s.bands ∧ (s.askScan).channels = s.channels ∧
    (s.askScan).allocator = s.allocator ∧ (s.askScan).transfer = s.transfer ∧ (s.askScan).selector = s.selector ∧
    (s.askScan).seq = s.seq ∧ (s.askScan).mem = s.mem ∧ (s.askScan).arbiter = s.arbiter ∧
    (s.askScan).refresh = s.refresh ∧ (s.askScan).port = s.port ∧ (s.askScan).notices = s.notices ∧
    (s.askScan).control = s.control ∧ (s.askScan).pending = s.pending ∧ (s.askScan).freeCounter = s.freeCounter := by
  dsimp only [State.askScan]
  (repeat' split) <;> simp

@[simp] theorem State.periodExpires_frame (s : State) :
    (s.periodExpires).cells = s.cells ∧ (s.periodExpires).fold = s.fold ∧ (s.periodExpires).gauge = s.gauge ∧
    (s.periodExpires).bands = s.bands ∧ (s.periodExpires).channels = s.channels ∧
    (s.periodExpires).transfer = s.transfer ∧ (s.periodExpires).control = s.control ∧
    (s.periodExpires).pending = s.pending := by
  simp [State.periodExpires]

@[simp] theorem State.chooseStopCause_frame (s : State) (b : State) :
    (s.chooseStopCause b).cells = s.cells ∧ (s.chooseStopCause b).fold = s.fold ∧
    (s.chooseStopCause b).timer = s.timer ∧ (s.chooseStopCause b).converter = s.converter ∧
    (s.chooseStopCause b).gauge = s.gauge ∧ (s.chooseStopCause b).bands = s.bands ∧
    (s.chooseStopCause b).channels = s.channels ∧ (s.chooseStopCause b).allocator = s.allocator ∧
    (s.chooseStopCause b).selector = s.selector ∧ (s.chooseStopCause b).seq = s.seq ∧
    (s.chooseStopCause b).mem = s.mem ∧ (s.chooseStopCause b).arbiter = s.arbiter ∧
    (s.chooseStopCause b).refresh = s.refresh ∧ (s.chooseStopCause b).port = s.port ∧
    (s.chooseStopCause b).notices = s.notices ∧ (s.chooseStopCause b).control = s.control ∧
    (s.chooseStopCause b).pending = s.pending ∧ (s.chooseStopCause b).freeCounter = s.freeCounter := by
  dsimp only [State.chooseStopCause]
  (repeat' split) <;> simp

@[simp] theorem State.triggerAndHeat_frame (s : State) (b : Bool) (t : Int) :
    (s.triggerAndHeat b t).fold = s.fold ∧ (s.triggerAndHeat b t).timer = s.timer ∧
    (s.triggerAndHeat b t).gauge = s.gauge ∧ (s.triggerAndHeat b t).channels = s.channels ∧
    (s.triggerAndHeat b t).allocator = s.allocator ∧ (s.triggerAndHeat b t).selector = s.selector ∧
    (s.triggerAndHeat b t).mem = s.mem ∧ (s.triggerAndHeat b t).refresh = s.refresh ∧
    (s.triggerAndHeat b t).port = s.port ∧ (s.triggerAndHeat b t).pending = s.pending ∧
    (s.triggerAndHeat b t).freeCounter = s.freeCounter := by
  dsimp only [State.triggerAndHeat]
  (repeat' split) <;> simp

@[simp] theorem State.storeScan_frame (s : State) (r : ScanRecord) :
    (s.storeScan r).cells = s.cells ∧ (s.storeScan r).fold = s.fold ∧ (s.storeScan r).timer = s.timer ∧
    (s.storeScan r).gauge = s.gauge ∧ (s.storeScan r).bands = s.bands ∧ (s.storeScan r).channels = s.channels ∧
    (s.storeScan r).allocator = s.allocator ∧ (s.storeScan r).transfer = s.transfer ∧
    (s.storeScan r).selector = s.selector ∧ (s.storeScan r).seq = s.seq ∧ (s.storeScan r).mem = s.mem ∧
    (s.storeScan r).arbiter = s.arbiter ∧ (s.storeScan r).refresh = s.refresh ∧ (s.storeScan r).port = s.port ∧
    (s.storeScan r).notices = s.notices ∧ (s.storeScan r).control = s.control ∧
    (s.storeScan r).pending = s.pending ∧ (s.storeScan r).freeCounter = s.freeCounter := by repeat' constructor

@[simp] theorem State.cellsAtScan_frame (s : State) (r : ScanRecord) (b : Bool) :
    (s.cellsAtScan r b).timer = s.timer ∧ (s.cellsAtScan r b).converter = s.converter ∧
    (s.cellsAtScan r b).gauge = s.gauge ∧ (s.cellsAtScan r b).bands = s.bands ∧
    (s.cellsAtScan r b).channels = s.channels ∧ (s.cellsAtScan r b).selector = s.selector ∧
    (s.cellsAtScan r b).seq = s.seq ∧ (s.cellsAtScan r b).mem = s.mem ∧ (s.cellsAtScan r b).arbiter = s.arbiter ∧
    (s.cellsAtScan r b).refresh = s.refresh ∧ (s.cellsAtScan r b).port = s.port ∧
    (s.cellsAtScan r b).control = s.control ∧ (s.cellsAtScan r b).pending = s.pending ∧
    (s.cellsAtScan r b).freeCounter = s.freeCounter := by
  simp [State.cellsAtScan]

@[simp] theorem State.blocksAtScan_frame (s : State) (r : ScanRecord) (b : Bool) :
    (s.blocksAtScan r b).timer = s.timer ∧ (s.blocksAtScan r b).channels = s.channels ∧
    (s.blocksAtScan r b).mem = s.mem ∧ (s.blocksAtScan r b).refresh = s.refresh ∧
    (s.blocksAtScan r b).port = s.port ∧ (s.blocksAtScan r b).pending = s.pending ∧
    (s.blocksAtScan r b).freeCounter = s.freeCounter := by
  simp [State.blocksAtScan]

@[simp] theorem State.scanCompletes_frame (s : State) (r : ScanRecord) (b : Bool) :
    (s.scanCompletes r b).timer = s.timer ∧ (s.scanCompletes r b).channels = s.channels ∧
    (s.scanCompletes r b).mem = s.mem ∧ (s.scanCompletes r b).refresh = s.refresh ∧
    (s.scanCompletes r b).port = s.port ∧ (s.scanCompletes r b).pending = s.pending := by
  simp [State.scanCompletes]

@[simp] theorem State.scanReading_frame (s : State) (r : ScanRecord) (v : Int) (b : Bool) :
    (s.scanReading r v b).timer = s.timer ∧ (s.scanReading r v b).channels = s.channels ∧
    (s.scanReading r v b).mem = s.mem ∧ (s.scanReading r v b).refresh = s.refresh ∧
    (s.scanReading r v b).port = s.port ∧ (s.scanReading r v b).pending = s.pending := by
  dsimp only [State.scanReading]
  (repeat' split) <;> simp

@[simp] theorem State.endConversion_frame (s : State) :
    (s.endConversion).cells = s.cells ∧ (s.endConversion).fold = s.fold ∧ (s.endConversion).timer = s.timer ∧
    (s.endConversion).gauge = s.gauge ∧ (s.endConversion).bands = s.bands ∧
    (s.endConversion).channels = s.channels ∧ (s.endConversion).allocator = s.allocator ∧
    (s.endConversion).transfer = s.transfer ∧ (s.endConversion).selector = s.selector ∧
    (s.endConversion).seq = s.seq ∧ (s.endConversion).mem = s.mem ∧ (s.endConversion).arbiter = s.arbiter ∧
    (s.endConversion).refresh = s.refresh ∧ (s.endConversion).port = s.port ∧
    (s.endConversion).notices = s.notices ∧ (s.endConversion).control = s.control ∧
    (s.endConversion).pending = s.pending ∧ (s.endConversion).freeCounter = s.freeCounter := by repeat' constructor

@[simp] theorem State.scanConverted_frame (s : State) (x : Analog) (b : Bool) :
    (s.scanConverted x b).timer = s.timer ∧ (s.scanConverted x b).channels = s.channels ∧
    (s.scanConverted x b).pending = s.pending := by
  dsimp only [State.scanConverted]
  (repeat' split) <;> simp

@[simp] theorem State.probeConverted_frame (s : State) (x : Analog) :
    (s.probeConverted x).cells = s.cells ∧ (s.probeConverted x).fold = s.fold ∧
    (s.probeConverted x).timer = s.timer ∧ (s.probeConverted x).gauge = s.gauge ∧
    (s.probeConverted x).bands = s.bands ∧ (s.probeConverted x).channels = s.channels ∧
    (s.probeConverted x).transfer = s.transfer ∧ (s.probeConverted x).control = s.control ∧
    (s.probeConverted x).pending = s.pending := by
  dsimp only [State.probeConverted]
  (repeat' split) <;> simp

@[simp] theorem State.handBatches_frame (s : State) (i j : Nat) :
    (s.handBatches i j).cells = s.cells ∧ (s.handBatches i j).fold = s.fold ∧ (s.handBatches i j).timer = s.timer ∧
    (s.handBatches i j).gauge = s.gauge ∧ (s.handBatches i j).bands = s.bands ∧
    (s.handBatches i j).transfer = s.transfer ∧ (s.handBatches i j).selector = s.selector ∧
    (s.handBatches i j).mem = s.mem ∧ (s.handBatches i j).refresh = s.refresh ∧ (s.handBatches i j).port = s.port ∧
    (s.handBatches i j).control = s.control ∧ (s.handBatches i j).pending = s.pending ∧
    (s.handBatches i j).freeCounter = s.freeCounter := by
  simp [State.handBatches]

@[simp] theorem State.gaugeAwaited_frame (s : State) (e : GaugeEntry) (i j : Nat) :
    (s.gaugeAwaited e i j).cells = s.cells ∧ (s.gaugeAwaited e i j).fold = s.fold ∧
    (s.gaugeAwaited e i j).timer = s.timer ∧ (s.gaugeAwaited e i j).bands = s.bands ∧
    (s.gaugeAwaited e i j).transfer = s.transfer ∧ (s.gaugeAwaited e i j).selector = s.selector ∧
    (s.gaugeAwaited e i j).mem = s.mem ∧ (s.gaugeAwaited e i j).refresh = s.refresh ∧
    (s.gaugeAwaited e i j).port = s.port ∧ (s.gaugeAwaited e i j).control = s.control ∧
    (s.gaugeAwaited e i j).pending = s.pending ∧ (s.gaugeAwaited e i j).freeCounter = s.freeCounter := by
  dsimp only [State.gaugeAwaited]
  (repeat' split) <;> simp

@[simp] theorem State.gaugeCompleted_frame (s : State) (e : GaugeEntry) :
    (s.gaugeCompleted e).cells = s.cells ∧ (s.gaugeCompleted e).fold = s.fold ∧
    (s.gaugeCompleted e).timer = s.timer ∧ (s.gaugeCompleted e).bands = s.bands ∧
    (s.gaugeCompleted e).transfer = s.transfer ∧ (s.gaugeCompleted e).control = s.control ∧
    (s.gaugeCompleted e).pending = s.pending := by
  dsimp only [State.gaugeCompleted]
  (repeat' split) <;> simp

end Sys2Proof.Machine
end

