-- ==== Sys2Proof/Laws/Memory.lean ====
section
/-! SUPPORT. Memory: every write keeps the canonical form, what a byte and a word read after a write, and that equal
contents are equal lists. -/

namespace Sys2Proof.Machine

/-- What a list that begins with an entry and is in canonical form satisfies. -/
theorem Memory.wfFrom_cons {lo a : Nat} {v : Byte} {rest : Memory} :
    Memory.wfFrom lo ((a, v) :: rest) = true ↔
      lo ≤ a ∧ a < areaBytes ∧ v ≠ Memory.unlisted a ∧ Memory.wfFrom (a + 1) rest = true := by
  simp [Memory.wfFrom, and_assoc]

theorem Memory.wfFrom_mono {m : Memory} {lo hi : Nat} (h : lo ≤ hi) (w : Memory.wfFrom hi m = true) :
    Memory.wfFrom lo m = true := by
  cases m with
  | nil => rfl
  | cons p rest =>
    obtain ⟨a, v⟩ := p
    rw [Memory.wfFrom_cons] at w ⊢
    exact ⟨le_trans h w.1, w.2⟩

/-- Below the lowest listed address everything reads as unlisted. -/
theorem Memory.read_below {m : Memory} {lo a : Nat} (w : Memory.wfFrom lo m = true) (h : a < lo) :
    Memory.read m a = Memory.unlisted a := by
  induction m generalizing lo with
  | nil => rfl
  | cons p rest ih =>
    obtain ⟨b, v⟩ := p
    rw [Memory.wfFrom_cons] at w
    have hab : a ≠ b := by omega
    simp only [Memory.read, if_neg hab]
    exact ih w.2.2.2 (by omega)

theorem Memory.insert_wf {m : Memory} {lo a : Nat} {v : Byte} (w : Memory.wfFrom lo m = true) (hlo : lo ≤ a)
    (ha : a < areaBytes) (hv : v ≠ Memory.unlisted a) : Memory.wfFrom lo (Memory.insert m a v) = true := by
  induction m generalizing lo with
  | nil => exact Memory.wfFrom_cons.2 ⟨hlo, ha, hv, rfl⟩
  | cons p rest ih =>
    obtain ⟨b, u⟩ := p
    rw [Memory.wfFrom_cons] at w
    unfold Memory.insert
    split
    · exact Memory.wfFrom_cons.2 ⟨hlo, ha, hv, Memory.wfFrom_cons.2 ⟨by omega, w.2.1, w.2.2.1, w.2.2.2⟩⟩
    · split
      · subst_vars
        exact Memory.wfFrom_cons.2 ⟨hlo, ha, hv, w.2.2.2⟩
      · exact Memory.wfFrom_cons.2 ⟨w.1, w.2.1, w.2.2.1, ih w.2.2.2 (by omega)⟩

theorem Memory.erase_wf {m : Memory} {lo a : Nat} (w : Memory.wfFrom lo m = true) :
    Memory.wfFrom lo (Memory.erase m a) = true := by
  induction m generalizing lo with
  | nil => exact w
  | cons p rest ih =>
    obtain ⟨b, u⟩ := p
    rw [Memory.wfFrom_cons] at w
    unfold Memory.erase
    split
    · exact Memory.wfFrom_mono (by omega) w.2.2.2
    · exact Memory.wfFrom_cons.2 ⟨w.1, w.2.1, w.2.2.1, ih w.2.2.2⟩

/-- A byte write keeps the canonical form. -/
theorem Memory.write_wf {m : Memory} (w : Memory.wf m = true) (a : Nat) (v : Byte) :
    Memory.wf (Memory.write m a v) = true := by
  unfold Memory.write
  split
  · split
    · exact Memory.erase_wf w
    · exact Memory.insert_wf w (Nat.zero_le a) (by assumption) (by assumption)
  · exact w

/-- A word write keeps the canonical form. -/
theorem Memory.writeWord_wf {m : Memory} (w : Memory.wf m = true) (i : Nat) (v : Word) :
    Memory.wf (Memory.writeWord m i v) = true := Memory.write_wf (Memory.write_wf w _ _) _ _

theorem Memory.read_insert {m : Memory} (a b : Nat) (v : Byte) :
    Memory.read (Memory.insert m a v) b = if b = a then v else Memory.read m b := by
  induction m with
  | nil => simp [Memory.insert, Memory.read]
  | cons p rest ih =>
    obtain ⟨c, u⟩ := p
    unfold Memory.insert
    split
    · simp [Memory.read]
    · split
      · subst_vars
        by_cases h : b = c <;> simp [Memory.read, h]
      · by_cases h : b = c
        · subst h
          have : b ≠ a := by omega
          simp [Memory.read, this]
        · simp [Memory.read, h, ih]

theorem Memory.read_erase {m : Memory} {lo : Nat} (w : Memory.wfFrom lo m = true) (a b : Nat) :
    Memory.read (Memory.erase m a) b = if b = a then Memory.unlisted a else Memory.read m b := by
  induction m generalizing lo with
  | nil =>
    simp only [Memory.erase, Memory.read]
    split <;> simp_all
  | cons p rest ih =>
    obtain ⟨c, u⟩ := p
    rw [Memory.wfFrom_cons] at w
    unfold Memory.erase
    split
    · subst_vars
      by_cases h : b = c
      · subst h
        simp [Memory.read_below w.2.2.2 (Nat.lt_succ_self b)]
      · simp [Memory.read, h]
    · by_cases h : b = c
      · subst h
        have : b ≠ a := by omega
        simp [Memory.read, this]
      · simp [Memory.read, h, ih w.2.2.2]

/-- A byte after a byte write. -/
theorem Memory.read_write {m : Memory} (w : Memory.wf m = true) {a : Nat} (ha : a < areaBytes) (v : Byte) (b : Nat) :
    Memory.read (Memory.write m a v) b = if b = a then v else Memory.read m b := by
  unfold Memory.write
  rw [if_pos ha]
  split
  · rw [Memory.read_erase w]
    split <;> simp_all
  · rw [Memory.read_insert]

theorem byteOfWord_append (v : Word) : byteOfWord v 0 ++ byteOfWord v 1 = v := by
  simp only [byteOfWord]
  ext i hi
  simp only [show ¬ (1 % 2 = 0) by decide, if_true, if_false]
  rw [BitVec.getElem_append]
  split <;> simp [BitVec.getElem_extractLsb'] <;> grind

/-- A word after a word write. -/
theorem Memory.readWord_writeWord {m : Memory} (w : Memory.wf m = true) {i : Nat} (hi : i < areaWords) (v : Word)
    (j : Nat) : Memory.readWord (Memory.writeWord m i v) j = if j = i then v else Memory.readWord m j := by
  have h0 : 2 * i < areaBytes := by unfold areaWords areaBytes at *; omega
  have h1 : 2 * i + 1 < areaBytes := by unfold areaWords areaBytes at *; omega
  have w1 := Memory.write_wf w (2 * i) (byteOfWord v 0)
  unfold Memory.readWord Memory.writeWord
  rw [Memory.read_write w1 h1, Memory.read_write w1 h1, Memory.read_write w h0, Memory.read_write w h0]
  by_cases h : j = i
  · subst h
    have e1 : ¬ (2 * j = 2 * j + 1) := by omega
    simp [byteOfWord_append]
  · have e1 : ¬ (2 * j = 2 * i + 1) := by omega
    have e3 : ¬ (2 * j + 1 = 2 * i) := by omega
    have e4 : ¬ (2 * j = 2 * i) := by omega
    simp [h, e1, e3, e4]

/-- Equal contents are equal lists. -/
theorem Memory.wfFrom_ext {m n : Memory} {lo : Nat} (wm : Memory.wfFrom lo m = true) (wn : Memory.wfFrom lo n = true)
    (h : ∀ a, Memory.read m a = Memory.read n a) : m = n := by
  induction m generalizing n lo with
  | nil =>
    cases n with
    | nil => rfl
    | cons q rest =>
      obtain ⟨b, v⟩ := q
      rw [Memory.wfFrom_cons] at wn
      have := h b
      simp [Memory.read] at this
      exact absurd this.symm wn.2.2.1
  | cons p rest ih =>
    obtain ⟨a, u⟩ := p
    rw [Memory.wfFrom_cons] at wm
    cases n with
    | nil =>
      have := h a
      simp [Memory.read] at this
      exact absurd this wm.2.2.1
    | cons q rest' =>
      obtain ⟨b, v⟩ := q
      rw [Memory.wfFrom_cons] at wn
      have hab : a = b := by
        rcases lt_trichotomy a b with hlt | heq | hgt
        · have e := h a
          have hne : a ≠ b := by omega
          simp only [Memory.read, if_true, if_neg hne] at e
          rw [Memory.read_below wn.2.2.2 (by omega)] at e
          exact absurd e wm.2.2.1
        · exact heq
        · have e := h b
          have hne : b ≠ a := by omega
          simp only [Memory.read, if_true, if_neg hne] at e
          rw [Memory.read_below wm.2.2.2 (by omega)] at e
          exact absurd e.symm wn.2.2.1
      subst hab
      have huv : u = v := by
        have e := h a
        simpa [Memory.read] using e
      subst huv
      have hr : rest = rest' := by
        refine ih wm.2.2.2 wn.2.2.2 fun c => ?_
        by_cases hc : c = a
        · subst hc
          rw [Memory.read_below wm.2.2.2 (by omega), Memory.read_below wn.2.2.2 (by omega)]
        · have e := h c
          simpa [Memory.read, hc] using e
      rw [hr]

/-- Two memories in canonical form that read alike are one list. -/
theorem Memory.ext_of_wf {m n : Memory} (wm : Memory.wf m = true) (wn : Memory.wf n = true)
    (h : ∀ a, Memory.read m a = Memory.read n a) : m = n := Memory.wfFrom_ext wm wn h

/-! ### The operations that write more than a word -/

theorem writeRun_wf {m : Memory} (w : Memory.wf m = true) (i : Nat) (ws : List Word) :
    Memory.wf (writeRun m i ws) = true := by
  induction ws generalizing m i with
  | nil => exact w
  | cons x rest ih =>
    unfold writeRun
    split
    · exact ih (Memory.writeWord_wf w _ _) _
    · exact ih w _

theorem writeBlock_wf {m : Memory} (w : Memory.wf m = true) (image : List Word) (block : Nat) :
    Memory.wf (writeBlock image block m) = true := by
  unfold writeBlock
  generalize (List.range 32).map (32 * block + ·) = l
  induction l generalizing m with
  | nil => exact w
  | cons x rest ih =>
    simp only [List.foldl_cons]
    refine ih ?_
    unfold writeImageWord
    split
    · exact w
    · exact Memory.writeWord_wf w _ _

theorem State.setQF_wf {s : State} (w : Memory.wf s.mem = true) (c : CellId) (q f : Nat) :
    Memory.wf (s.setQF c q f).mem = true :=
  Memory.writeWord_wf (Memory.writeWord_wf (Memory.writeWord_wf w _ _) _ _) _ _

/-- A word of a write run, after it: the run's word where the link may write, and what stood there otherwise (R168). -/
theorem readWord_writeRun {m : Memory} (w : Memory.wf m = true) (ws : List Word) (i j : Nat) :
    Memory.readWord (writeRun m i ws) j =
      if i ≤ j ∧ j < i + ws.length ∧ linkMayWrite j = true then wordAt ws (j - i) else Memory.readWord m j := by
  induction ws generalizing m i with
  | nil =>
    have : ¬ (i ≤ j ∧ j < i + ([] : List Word).length ∧ linkMayWrite j = true) := by simp; omega
    rw [if_neg this]
    rfl
  | cons x rest ih =>
    unfold writeRun
    by_cases hij : j = i
    · subst hij
      have hn : ¬ (j + 1 ≤ j ∧ j < j + 1 + rest.length ∧ linkMayWrite j = true) := by omega
      split
      · have hlt : j < areaWords := by
          rename_i hm
          simp [linkMayWrite] at hm
          exact hm.2
        rw [ih (Memory.writeWord_wf w _ _), if_neg hn, Memory.readWord_writeWord w hlt]
        simp_all [wordAt]
      · rw [ih w, if_neg hn]
        simp_all
    · have key : (i + 1 ≤ j ∧ j < i + 1 + rest.length ∧ linkMayWrite j = true) ↔
          (i ≤ j ∧ j < i + (x :: rest).length ∧ linkMayWrite j = true) := by
        simp only [List.length_cons]
        constructor <;> (rintro ⟨h1, h2, h3⟩; exact ⟨by omega, by omega, h3⟩)
      have hw : wordAt (x :: rest) (j - i) = wordAt rest (j - (i + 1)) ∨ ¬ (i + 1 ≤ j) := by
        by_cases hle : i + 1 ≤ j
        · left
          have : j - i = (j - (i + 1)) + 1 := by omega
          rw [this]
          simp [wordAt]
        · exact Or.inr hle
      split
      · have hlt : i < areaWords := by
          rename_i hm
          simp [linkMayWrite] at hm
          exact hm.2
        rw [ih (Memory.writeWord_wf w _ _), Memory.readWord_writeWord w hlt, if_neg hij]
        by_cases hc : (i + 1 ≤ j ∧ j < i + 1 + rest.length ∧ linkMayWrite j = true)
        · rw [if_pos hc, if_pos (key.1 hc)]
          rcases hw with hw | hw
          · exact hw.symm
          · exact absurd hc.1 hw
        · rw [if_neg hc, if_neg (fun h => hc (key.2 h))]
      · rw [ih w]
        by_cases hc : (i + 1 ≤ j ∧ j < i + 1 + rest.length ∧ linkMayWrite j = true)
        · rw [if_pos hc, if_pos (key.1 hc)]
          rcases hw with hw | hw
          · exact hw.symm
          · exact absurd hc.1 hw
        · rw [if_neg hc, if_neg (fun h => hc (key.2 h))]

/-! ### What the two grants do to memory -/

theorem State.grantLink_wf {s : State} (w : Memory.wf s.mem = true) : Memory.wf s.grantLink.mem = true := by
  unfold State.grantLink
  split
  · simpa using w
  · dsimp only
    split
    · simpa [State.setPort] using w
    · refine writeRun_wf ?_ _ _
      simpa [State.setPort] using w

theorem State.grantSeqWrite_wf {s : State} (w : Memory.wf s.mem = true) (i : Nat) (v : Word) :
    Memory.wf (s.grantSeqWrite i v).mem = true := by
  unfold State.grantSeqWrite
  dsimp only
  split
  · refine Memory.writeWord_wf ?_ _ _
    simpa using w
  · simpa using w

theorem State.grantRefresh_wf {s : State} (w : Memory.wf s.mem = true) : Memory.wf s.grantRefresh.mem = true := by
  unfold State.grantRefresh
  split
  · simpa using w
  · refine writeBlock_wf ?_ _ _
    simpa using w

theorem State.arbitrate_wf {s : State} (w : Memory.wf s.mem = true) : Memory.wf s.arbitrate.mem = true := by
  unfold State.arbitrate State.grantFirst
  dsimp only
  (repeat' split) <;>
    first
      | exact w
      | exact State.grantLink_wf w
      | exact State.grantSeqWrite_wf w _ _
      | exact State.grantRefresh_wf w
      | simpa using w

/-- The grants keep the canonical form of memory. -/
theorem State.settle_wf {s : State} (w : Memory.wf s.mem = true) : Memory.wf s.settle.mem = true :=
  State.arbitrate_wf (by simpa using w)

theorem State.settleIf_wf {s : State} (w : Memory.wf s.mem = true) (b : Bool) :
    Memory.wf (s.settleIf b).mem = true := by
  cases b
  · exact w
  · exact State.settle_wf w

theorem State.gaugeWrite_wf {s : State} (w : Memory.wf s.mem = true) (e : GaugeEntry) :
    Memory.wf (s.gaugeWrite e).mem = true := by
  have h : ∀ (s : State) (c : CellId) (i : Int) (t : Nat) (b : Bool), Memory.wf s.mem = true →
      Memory.wf (s.integrateCell c i t b).mem = true := by
    intro s c i t b w
    unfold State.integrateCell
    split <;> exact State.setQF_wf w _ _ _
  cases e with
  | integrate iA iB t eA eB => exact h _ _ _ _ _ (h _ _ _ _ _ w)
  | full c => exact State.setQF_wf (State.setQF_wf w _ _ _) _ _ _
  | preset c => exact State.setQF_wf (State.setQF_wf w _ _ _) _ _ _

end Sys2Proof.Machine
end

