-- ==== Sys2Proof/Laws/Exec.lean ====
section
/-! SUPPORT. Every command answers a next state, with the queue as it found it; one lemma for an invariant of step. -/

namespace Sys2Proof.Machine

/-- The next state of a command: every command answers one (`exec_next`). -/
def State.after (s : State) (c : Instr) : State :=
  match exec c s with
  | .next t => t
  | .fault _ => s
  | .refused _ => s

theorem exec_next (c : Instr) (s : State) : exec c s = .next (s.after c) := by cases c <;> rfl

theorem exec_eq_next_iff (c : Instr) (s t : State) : exec c s = .next t ↔ s.after c = t := by
  rw [exec_next]
  exact ⟨fun h => by cases h; rfl, fun h => by rw [h]⟩

theorem State.whenServing_eq (s t : State) : s.whenServing t = if s.port.serving then t else s := rfl

theorem State.settleIf_true (s : State) : s.settleIf true = s.settle := rfl

theorem State.settleIf_false (s : State) : s.settleIf false = s := rfl

theorem State.linkUnderWay_of_run {ar : Arbiter} {dir : Direction} (h : ar.runUnderWay dir = true) :
    ar.linkUnderWay = true := by
  unfold Arbiter.runUnderWay at h
  unfold Arbiter.linkUnderWay
  split at h
  · simp_all
  · cases h

/-- What holds of the state after a command holds when it holds of the state before, of its effect, and of what the
grants make of that. This is the case analysis of `exec`, made once. -/
theorem State.after_induction (P : State → Prop) (s : State) (base : P s)
    (settle : ∀ t, P t → P t.settle)
    (por : P s.powerOnReset) (begin_ : s.startupDue = true → P s.beginStartup) (slot : P s.startupSlot)
    (bus : ∀ l, P (s.busEvents l)) (link : s.arbiter.linkUnderWay = true → P s.linkCompleted)
    (next : ∀ v, P (s.writeNext v)) (done : P (s.readDone.2.shiftOut s.readDone.1))
    (note : ∀ n, P (s.clearCause n)) (mask : ∀ w, P (s.writeMask w)) (soft : P s.softReset)
    (skipItem : P s.skipItem) (skipList : P s.skipList) (ship : P s.ship) (release : ∀ c, P (s.release c))
    (start : ∀ c, P (s.profileStart c)) (stop : ∀ c, P (s.profileStop c)) (clear : P s.clearWindow)
    (preset : ∀ c, P (s.appendPreset c)) (rise : P s.qreqRises) (fall : P s.qreqFalls)
    (fast : s.control.fastArmed = true → ∀ c x, P (s.fastEvent c x)) (collapse : ∀ i, P (s.collapseEvent i)) (wake : s.wakeCanArrive = true → ∀ i, P (s.attachWake i))
    (shipSlot : s.control.state = .shipEntry → P s.shipSlotExpires) (period : s.timer.running = true → P s.periodExpires)
    (scan : ∀ x b, P (s.scanConverted x b)) (probe : ∀ x, P (s.probeConverted x))
    (gauge : ∀ e, s.arbiter.underWay = some (.gauge e) → P (s.gaugeCompleted e))
    (alloc : s.allocationReady = true → P s.completeAllocation)
    (refresh : ∀ b, s.arbiter.underWay = some (.refresh b) → P s.endTransaction.waitRefresh)
    (fetch : ∀ c i ws, s.arbiter.underWay = some (.fetch c i ws) → P (s.profileFetchCompleted c i ws))
    (item : ∀ i ws, s.arbiter.underWay = some (.seqFetch i ws) → P (s.itemFetchCompleted ws))
    (written : ∀ i v, s.arbiter.underWay = some (.seqWrite i v) → P s.seqWriteCompleted)
    (c : Instr) : P (s.after c) := by
  have settleIf : ∀ t b, P t → P (t.settleIf b) := fun t b h => by
    cases b
    · exact h
    · exact settle t h
  have serving : ∀ t, P t → P (s.whenServing t) := fun t h => by
    unfold State.whenServing
    split
    · exact h
    · exact base
  unfold State.after
  cases c <;> simp only [exec]
  case por => exact por
  case startupBegin => show P (if _ then _ else _); split; exacts [begin_ (by assumption), base]
  case startupSlotExpiry => exact slot
  case linkFrame l => exact bus l
  case linkReadRunCompletion =>
    show P (if _ then _ else _)
    split
    · exact link (State.linkUnderWay_of_run (by assumption))
    · exact base
  case linkWriteRunCompletion =>
    show P (if _ then _ else _)
    split
    · exact link (State.linkUnderWay_of_run (by assumption))
    · exact base
  case nextWrite v => exact serving _ (settleIf _ _ (next v))
  case doneRead => exact serving _ done
  case noteWrite v => exact serving _ (note _)
  case maskWrite v => exact serving _ (mask v)
  case registerWriteDropped => exact base
  case softReset => exact serving _ (settleIf _ _ soft)
  case skipItem => exact serving _ (settleIf _ _ skipItem)
  case skipList => exact serving _ (settleIf _ _ skipList)
  case ship => exact serving _ (settleIf _ _ ship)
  case releaseA => exact serving _ (release _)
  case releaseB => exact serving _ (release _)
  case profileStartA => exact serving _ (settle _ (start _))
  case profileStartB => exact serving _ (settleIf _ _ (start _))
  case profileStopA => exact serving _ (stop _)
  case profileStopB => exact serving _ (stop _)
  case clearWindow => exact serving _ clear
  case presetA => exact serving _ (settleIf _ _ (preset _))
  case presetB => exact serving _ (settleIf _ _ (preset _))
  case qreqRise => exact rise
  case qreqFall => exact fall
  case fastComparatorEvent x => show P (if _ then _ else _); split; exacts [fast (by assumption) _ _, base]
  case inputCollapseEvent i => exact collapse i
  case attachWakeEvent i => show P (if _ then _ else _); split; exacts [settleIf _ _ (wake (by assumption) i), base]
  case shipSlotExpiry =>
    show P (if _ then _ else _)
    split
    · exact settleIf _ _ (shipSlot (by assumption))
    · exact base
  case periodExpiry => show P (if _ then _ else _); split; exacts [period (by assumption), base]
  case waitExpiry =>
    show P (if _ then _ else _)
    split
    · exact period (Bool.and_eq_true_iff.mp (by assumption)).1
    · exact base
  case scanConversionCompletion x b => exact scan x b
  case probeConversionCompletion x => exact probe x
  case gaugeIntegrate => dsimp only [execGaugeIntegrate]; split; exacts [gauge _ (by assumption), base]
  case gaugeFull => dsimp only [execGaugeFull]; split; exacts [gauge _ (by assumption), base]
  case gaugePreset => dsimp only [execGaugePreset]; split; exacts [gauge _ (by assumption), base]
  case allocationCompletion => show P (if _ then _ else _); split; exacts [settle _ (alloc (by assumption)), base]
  case restExpiry =>
    show P (if _ then _ else _)
    split
    · exact settle _ (alloc (Bool.and_eq_true_iff.mp (by assumption)).1)
    · exact base
  case refreshBlockWrite =>
    dsimp only [execRefreshBlockWrite]
    split; exacts [settle _ (refresh _ (by assumption)), base]
  case profileFetchCompletion =>
    dsimp only [execProfileFetchCompletion]
    split; exacts [settle _ (fetch _ _ _ (by assumption)), base]
  case itemFetchCompletion =>
    dsimp only [execItemFetchCompletion]
    split; exacts [settle _ (item _ _ (by assumption)), base]
  case seqWriteCompletion =>
    dsimp only [execSeqWriteCompletion]
    split; exacts [settle _ (written _ _ (by assumption)), base]

/-- Bus events keep what each of them keeps. -/
theorem State.busEvents_induction (P : State → Prop) (event : ∀ s e, P s → P (s.busEvent e)) (l : List FrameEvent)
    (s : State) (h : P s) : P (s.busEvents l) := by
  induction l generalizing s with
  | nil => exact h
  | cons e l ih => exact ih _ (event s e h)

/-- The queue of a state plays no part in what a step keeps. -/
theorem step_keeps (P : State → Prop) (queue : ∀ s q, P s → P (s.withPending q)) (h : ∀ c s, P s → P (s.after c))
    {s t : State} (hs : step s = .next t) (hp : P s) : P t := by
  unfold step at hs
  split at hs
  · cases hs
    exact hp
  · rw [exec_next] at hs
    cases hs
    exact h _ _ (queue _ _ hp)

end Sys2Proof.Machine
end

