-- ==== Sys2Proof/Laws/Paths.lean ====
section
/-! SUPPORT. The cell paths: what each operation does to the charge state, the path switch and the applied set-point of
a cell, which the laws of the applied set-point (R6, R7) speak of. -/

namespace Sys2Proof.Machine

/-- What the laws of the applied set-point see of a cell path. -/
structure CellPath.View where
  charge : ChargeState
  pathOpen : Bool
  setPoint : Int

def CellPath.view (x : CellPath) : CellPath.View := { charge := x.charge, pathOpen := x.pathOpen, setPoint := x.setPoint }

theorem CellPath.view_eq {x y : CellPath} :
    x.view = y.view ↔ x.charge = y.charge ∧ x.pathOpen = y.pathOpen ∧ x.setPoint = y.setPoint := by
  simp [CellPath.view]

theorem State.get_setCell (s : State) (c d : CellId) (x : CellPath) :
    (s.setCell c x).cells.get d = if d = c then x else s.cells.get d := by
  cases c <;> cases d <;> rfl

/-- An update of one cell that keeps its view keeps every cell's view. -/
theorem State.view_setCell {s : State} {c : CellId} {x : CellPath} (h : x.view = (s.cells.get c).view) (d : CellId) :
    ((s.setCell c x).cells.get d).view = (s.cells.get d).view := by
  rw [State.get_setCell]
  split
  · subst_vars
    exact h
  · rfl

@[simp] theorem State.view_putHold (s : State) (c : CellId) (r : HoldReason) (v : Bool) (d : CellId) :
    ((s.putHold c r v).cells.get d).view = (s.cells.get d).view := by
  unfold State.putHold
  exact State.view_setCell (by rfl) d

@[simp] theorem State.view_putHoldBoth (s : State) (r : HoldReason) (v : Bool) (d : CellId) :
    ((s.putHoldBoth r v).cells.get d).view = (s.cells.get d).view := by
  simp [State.putHoldBoth]

@[simp] theorem State.view_computeVcell (s : State) (r : Readings) (c : CellId) (d : CellId) :
    ((s.computeVcell r c).cells.get d).view = (s.cells.get d).view := by
  unfold State.computeVcell
  exact State.view_setCell (by rfl) d

@[simp] theorem State.view_followThresholds (s : State) (c : CellId) (d : CellId) :
    ((s.followThresholds c).cells.get d).view = (s.cells.get d).view := by
  unfold State.followThresholds
  exact State.view_setCell (by rfl) d

@[simp] theorem State.view_setReleaseResult (s : State) (c : CellId) (r : ReleaseResult) (d : CellId) :
    ((s.setReleaseResult c r).cells.get d).view = (s.cells.get d).view := by
  unfold State.setReleaseResult
  exact State.view_setCell (by rfl) d

@[simp] theorem State.view_updateLatch (s : State) (r : Readings) (c : CellId) (d : CellId) :
    ((s.updateLatch r c).cells.get d).view = (s.cells.get d).view := by
  unfold State.updateLatch
  exact State.view_setCell (by rfl) d

@[simp] theorem State.view_setRenewal (s : State) (c : CellId) (d : CellId) :
    ((s.setRenewal c).cells.get d).view = (s.cells.get d).view := by
  unfold State.setRenewal
  exact State.view_setCell (by rfl) d

@[simp] theorem State.view_countersAtScan (s : State) (r : ScanRecord) (d : CellId) :
    ((s.countersAtScan r).cells.get d).view = (s.cells.get d).view := by
  dsimp only [State.countersAtScan]
  simp

@[simp] theorem State.view_lookupBand (s : State) (r : Readings) (c : CellId) (d : CellId) :
    ((s.lookupBand r c).cells.get d).view = (s.cells.get d).view := by
  dsimp only [State.lookupBand]
  (repeat' split) <;> simp

@[simp] theorem State.view_clearWindow (s : State) (d : CellId) :
    ((s.clearWindow).cells.get d).view = (s.cells.get d).view := by
  dsimp only [State.clearWindow]
  simp

@[simp] theorem State.view_compareFires (s : State) (n : Nat) (x : CompareAction) (d : CellId) :
    ((s.compareFires n x).cells.get d).view = (s.cells.get d).view := by
  dsimp only [State.compareFires]
  (repeat' split) <;> simp

@[simp] theorem State.view_carryOut (s : State) (x : Item) (d : CellId) :
    ((s.carryOut x).cells.get d).view = (s.cells.get d).view := by
  dsimp only [State.carryOut]
  (repeat' split) <;> simp

@[simp] theorem State.view_itemFetched (s : State) (x : Item) (d : CellId) :
    ((s.itemFetched x).cells.get d).view = (s.cells.get d).view := by
  dsimp only [State.itemFetched]
  (repeat' split) <;> simp

@[simp] theorem State.view_thaw (s : State) (d : CellId) :
    ((s.thaw).cells.get d).view = (s.cells.get d).view := by
  dsimp only [State.thaw]
  (repeat' split) <;> simp

@[simp] theorem State.view_enterQuiet (s : State) (d : CellId) :
    ((s.enterQuiet).cells.get d).view = (s.cells.get d).view := by
  dsimp only [State.enterQuiet]
  (repeat' split) <;> simp

@[simp] theorem State.view_wakeFreshStep (s : State) (d : CellId) :
    ((s.wakeFreshStep).cells.get d).view = (s.cells.get d).view := by
  dsimp only [State.wakeFreshStep]
  (repeat' split) <;> simp

@[simp] theorem State.view_wake (s : State) (b : Bool) (d : CellId) :
    ((s.wake b).cells.get d).view = (s.cells.get d).view := by
  dsimp only [State.wake]
  (repeat' split) <;> simp

/-! ### Operations that change the view -/

/-- An opening zeroes the set-point and keeps the charge state (R7). -/
theorem State.view_openPath (s : State) (c d : CellId) :
    ((s.openPath c).cells.get d).view =
      if d = c then { charge := (s.cell c).charge, pathOpen := true, setPoint := 0 } else (s.cells.get d).view := by
  unfold State.openPath
  rw [State.get_setCell]
  split <;> rfl

/-- A closing changes the switch alone, and takes place unless a cause of opening stands (R7). -/
theorem State.view_closePath (s : State) (c d : CellId) :
    ((s.closePath c).cells.get d).view =
      if d = c ∧ s.openingStands c = false then
        { charge := (s.cell c).charge, pathOpen := false, setPoint := (s.cell c).setPoint }
      else (s.cells.get d).view := by
  unfold State.closePath
  by_cases h : s.openingStands c = true
  · simp [h]
  · simp only [h, if_false, Bool.false_eq_true]
    rw [State.get_setCell]
    by_cases hd : d = c
    · simp [hd, CellPath.view]
    · simp [hd]

/-- A trip opens the path, zeroes the set-point and makes the cell TRIPPED (R17); the other cell keeps its own. -/
theorem State.view_tripCell (s : State) (c d : CellId) (r : TripRecord) :
    ((s.tripCell c r).cells.get d).view =
      if d = c then { charge := .tripped, pathOpen := true, setPoint := 0 } else (s.cells.get d).view := by
  unfold State.tripCell
  dsimp only
  simp only [State.forceRest_frame, State.raise_fields]
  rw [State.get_setCell]
  split <;> rfl

/-- A cell that becomes ABSENT applies 0 (R3). -/
theorem State.view_becomeAbsent (s : State) (c d : CellId) :
    ((s.becomeAbsent c).cells.get d).view =
      if d = c then { charge := .absent, pathOpen := (s.cell c).pathOpen, setPoint := 0 } else (s.cells.get d).view := by
  unfold State.becomeAbsent
  dsimp only
  simp only [State.forceRest_frame, State.modAllocation_fields]
  rw [State.get_setCell]
  split <;> rfl

/-- A loss of the selected source zeroes charge set-points, and lets supply set-points stand (R8). -/
theorem State.view_zeroCharge (s : State) (c d : CellId) :
    ((s.zeroCharge c).cells.get d).view =
      if d = c then
        { charge := (s.cell c).charge, pathOpen := (s.cell c).pathOpen,
          setPoint := if 0 < (s.cell c).setPoint then 0 else (s.cell c).setPoint }
      else (s.cells.get d).view := by
  unfold State.zeroCharge
  rw [State.get_setCell]
  split <;> rfl

end Sys2Proof.Machine
end

