-- ==== Sys2Proof/Laws/Cells.lean ====
section
/-! SUPPORT. Reading one cell's things after an update of them, states equal field by field, and the port's bus events
while both grants are taken. -/

namespace Sys2Proof.Machine

/-- Two pairs that read alike for both cells are one. -/
theorem PerCell.ext_get {α : Type} {p q : PerCell α} (h : ∀ c, p.get c = q.get c) : p = q := by
  have ha := h .a
  have hb := h .b
  cases p
  cases q
  simp_all [PerCell.get]

theorem PerCell.get_set_if {α : Type} (p : PerCell α) (c d : CellId) (x : α) :
    (p.set c x).get d = if d = c then x else p.get d := by
  cases c <;> cases d <;> rfl

/-- States are equal when each of their fields is. -/
theorem State.eq_of_fields {s t : State} (cells : s.cells = t.cells) (fold : s.fold = t.fold) (timer : s.timer = t.timer)
    (converter : s.converter = t.converter) (gauge : s.gauge = t.gauge) (bands : s.bands = t.bands)
    (channels : s.channels = t.channels) (allocator : s.allocator = t.allocator) (transfer : s.transfer = t.transfer)
    (selector : s.selector = t.selector) (seq : s.seq = t.seq) (mem : s.mem = t.mem) (arbiter : s.arbiter = t.arbiter)
    (refresh : s.refresh = t.refresh) (port : s.port = t.port) (notices : s.notices = t.notices)
    (control : s.control = t.control) (pending : s.pending = t.pending) (counter : s.freeCounter = t.freeCounter) :
    s = t := by
  cases s
  cases t
  simp_all

theorem State.get_setBand (s : State) (c d : CellId) (x : BandRecord) :
    (s.setBand c x).bands.get d = if d = c then x else s.bands.get d := PerCell.get_set_if _ _ _ _

theorem State.get_setChannel (s : State) (c d : CellId) (x : Channel) :
    (s.setChannel c x).channels.get d = if d = c then x else s.channels.get d := PerCell.get_set_if _ _ _ _

/-- A hold reason put on a cell changes that cell's hold reasons alone (R4). -/
theorem State.get_putHold (s : State) (c d : CellId) (r : HoldReason) (v : Bool) :
    (s.putHold c r v).cells.get d =
      if d = c then { s.cell c with holds := (s.cell c).holds.put r v } else s.cells.get d := PerCell.get_set_if _ _ _ _

theorem State.get_putHoldBoth (s : State) (r : HoldReason) (v : Bool) (d : CellId) :
    (s.putHoldBoth r v).cells.get d = { s.cells.get d with holds := (s.cells.get d).holds.put r v } := by
  cases d <;> rfl

theorem State.get_openPath (s : State) (c d : CellId) :
    (s.openPath c).cells.get d =
      if d = c then { s.cell c with pathOpen := true, setPoint := 0 } else s.cells.get d := PerCell.get_set_if _ _ _ _

/-- A closing changes the path switch of its cell alone, and takes place unless a cause of opening stands (R7). -/
theorem State.get_closePath (s : State) (c d : CellId) :
    (s.closePath c).cells.get d =
      if d = c ∧ s.openingStands c = false then { s.cell c with pathOpen := false } else s.cells.get d := by
  unfold State.closePath
  by_cases h : s.openingStands c = true
  · simp [h]
  · simp only [h, if_false, Bool.false_eq_true]
    rw [State.get_setCell]
    by_cases hd : d = c <;> simp [hd]

/-- With a transaction under way and a conversion in flight, neither grant does anything (R30, R170). -/
theorem State.settle_of_taken {s : State} (arbiter : s.arbiter.underWay.isSome = true)
    (converter : s.converter.inFlight ≠ .none) : s.settle = s := by
  simp [State.settle, State.convert, converter, State.arbitrate, arbiter]

/-- While both grants are taken, a bus event is its action at the port and the request of LINK. -/
theorem State.busEvent_of_taken {s : State} {e : FrameEvent} (serving : s.port.serving = true)
    (arbiter : (s.frameEvent e).arbiter.underWay.isSome = true)
    (converter : (s.frameEvent e).converter.inFlight ≠ .none) : s.busEvent e = (s.frameEvent e).requestLink := by
  unfold State.busEvent
  rw [if_pos serving]
  exact State.settle_of_taken arbiter converter

end Sys2Proof.Machine
end

