-- ==== Sys2Proof/Laws/PerInstr.lean ====
section
/-! SUPPORT. One law made per command: which operands the check of WellFormed refuses. -/

namespace Sys2Proof.Laws.Operands

/-- A command is refused by the check only as a stretch that is empty or out of order, or as a dropped register write to
an address that takes one. -/
def Statement (i : Instr) : Prop :=
  WellFormed i = false ↔
    (∃ stretch, i = .linkFrame stretch ∧ (stretch = [] ∨ FrameEvent.inOrder stretch = false)) ∨
    (∃ addr value, i = .registerWriteDropped addr value ∧ writeIsDroppedAt addr = false)

/-- A command whose operands are bounded by their types is never refused. -/
theorem statement_of_wellFormed {i : Instr} (h : WellFormed i = true) (frame : ∀ l, i ≠ .linkFrame l)
    (drop : ∀ a v, i ≠ .registerWriteDropped a v) : Statement i := by
  constructor
  · intro hf
    rw [h] at hf
    cases hf
  · rintro (⟨l, hl, _⟩ | ⟨a, v, ha, _⟩)
    · exact absurd hl (frame l)
    · exact absurd ha (drop a v)

theorem por : Statement .por :=
  statement_of_wellFormed rfl (fun _ h => by cases h) (fun _ _ h => by cases h)

theorem startupBegin : Statement .startupBegin :=
  statement_of_wellFormed rfl (fun _ h => by cases h) (fun _ _ h => by cases h)

theorem startupSlotExpiry : Statement .startupSlotExpiry :=
  statement_of_wellFormed rfl (fun _ h => by cases h) (fun _ _ h => by cases h)

theorem linkFrame (stretch : List FrameEvent) : Statement (.linkFrame stretch) := by
  unfold Statement WellFormed
  cases stretch <;> simp

theorem linkReadRunCompletion : Statement .linkReadRunCompletion :=
  statement_of_wellFormed rfl (fun _ h => by cases h) (fun _ _ h => by cases h)

theorem linkWriteRunCompletion : Statement .linkWriteRunCompletion :=
  statement_of_wellFormed rfl (fun _ h => by cases h) (fun _ _ h => by cases h)

theorem nextWrite (value : Word) : Statement (.nextWrite value) :=
  statement_of_wellFormed rfl (fun _ h => by cases h) (fun _ _ h => by cases h)

theorem doneRead : Statement .doneRead :=
  statement_of_wellFormed rfl (fun _ h => by cases h) (fun _ _ h => by cases h)

theorem noteWrite (value : Word) : Statement (.noteWrite value) :=
  statement_of_wellFormed rfl (fun _ h => by cases h) (fun _ _ h => by cases h)

theorem maskWrite (value : Word) : Statement (.maskWrite value) :=
  statement_of_wellFormed rfl (fun _ h => by cases h) (fun _ _ h => by cases h)

theorem registerWriteDropped (addr : Word) (value : Word) : Statement (.registerWriteDropped addr value) := by
  simp [Statement, WellFormed]

theorem softReset : Statement .softReset :=
  statement_of_wellFormed rfl (fun _ h => by cases h) (fun _ _ h => by cases h)

theorem skipItem : Statement .skipItem :=
  statement_of_wellFormed rfl (fun _ h => by cases h) (fun _ _ h => by cases h)

theorem skipList : Statement .skipList :=
  statement_of_wellFormed rfl (fun _ h => by cases h) (fun _ _ h => by cases h)

theorem ship : Statement .ship :=
  statement_of_wellFormed rfl (fun _ h => by cases h) (fun _ _ h => by cases h)

theorem releaseA : Statement .releaseA :=
  statement_of_wellFormed rfl (fun _ h => by cases h) (fun _ _ h => by cases h)

theorem releaseB : Statement .releaseB :=
  statement_of_wellFormed rfl (fun _ h => by cases h) (fun _ _ h => by cases h)

theorem profileStartA : Statement .profileStartA :=
  statement_of_wellFormed rfl (fun _ h => by cases h) (fun _ _ h => by cases h)

theorem profileStartB : Statement .profileStartB :=
  statement_of_wellFormed rfl (fun _ h => by cases h) (fun _ _ h => by cases h)

theorem profileStopA : Statement .profileStopA :=
  statement_of_wellFormed rfl (fun _ h => by cases h) (fun _ _ h => by cases h)

theorem profileStopB : Statement .profileStopB :=
  statement_of_wellFormed rfl (fun _ h => by cases h) (fun _ _ h => by cases h)

theorem clearWindow : Statement .clearWindow :=
  statement_of_wellFormed rfl (fun _ h => by cases h) (fun _ _ h => by cases h)

theorem presetA : Statement .presetA :=
  statement_of_wellFormed rfl (fun _ h => by cases h) (fun _ _ h => by cases h)

theorem presetB : Statement .presetB :=
  statement_of_wellFormed rfl (fun _ h => by cases h) (fun _ _ h => by cases h)

theorem qreqRise : Statement .qreqRise :=
  statement_of_wellFormed rfl (fun _ h => by cases h) (fun _ _ h => by cases h)

theorem qreqFall : Statement .qreqFall :=
  statement_of_wellFormed rfl (fun _ h => by cases h) (fun _ _ h => by cases h)

theorem fastComparatorEvent (condition : FastCondition) : Statement (.fastComparatorEvent condition) :=
  statement_of_wellFormed rfl (fun _ h => by cases h) (fun _ _ h => by cases h)

theorem inputCollapseEvent (input : Input) : Statement (.inputCollapseEvent input) :=
  statement_of_wellFormed rfl (fun _ h => by cases h) (fun _ _ h => by cases h)

theorem attachWakeEvent (input : Input) : Statement (.attachWakeEvent input) :=
  statement_of_wellFormed rfl (fun _ h => by cases h) (fun _ _ h => by cases h)

theorem shipSlotExpiry : Statement .shipSlotExpiry :=
  statement_of_wellFormed rfl (fun _ h => by cases h) (fun _ _ h => by cases h)

theorem periodExpiry : Statement .periodExpiry :=
  statement_of_wellFormed rfl (fun _ h => by cases h) (fun _ _ h => by cases h)

theorem waitExpiry : Statement .waitExpiry :=
  statement_of_wellFormed rfl (fun _ h => by cases h) (fun _ _ h => by cases h)

theorem scanConversionCompletion (input : Analog) (foldHigh : Bool) : Statement (.scanConversionCompletion input foldHigh) :=
  statement_of_wellFormed rfl (fun _ h => by cases h) (fun _ _ h => by cases h)

theorem probeConversionCompletion (input : Analog) : Statement (.probeConversionCompletion input) :=
  statement_of_wellFormed rfl (fun _ h => by cases h) (fun _ _ h => by cases h)

theorem gaugeIntegrate : Statement .gaugeIntegrate :=
  statement_of_wellFormed rfl (fun _ h => by cases h) (fun _ _ h => by cases h)

theorem gaugeFull : Statement .gaugeFull :=
  statement_of_wellFormed rfl (fun _ h => by cases h) (fun _ _ h => by cases h)

theorem gaugePreset : Statement .gaugePreset :=
  statement_of_wellFormed rfl (fun _ h => by cases h) (fun _ _ h => by cases h)

theorem allocationCompletion : Statement .allocationCompletion :=
  statement_of_wellFormed rfl (fun _ h => by cases h) (fun _ _ h => by cases h)

theorem restExpiry : Statement .restExpiry :=
  statement_of_wellFormed rfl (fun _ h => by cases h) (fun _ _ h => by cases h)

theorem refreshBlockWrite : Statement .refreshBlockWrite :=
  statement_of_wellFormed rfl (fun _ h => by cases h) (fun _ _ h => by cases h)

theorem profileFetchCompletion : Statement .profileFetchCompletion :=
  statement_of_wellFormed rfl (fun _ h => by cases h) (fun _ _ h => by cases h)

theorem itemFetchCompletion : Statement .itemFetchCompletion :=
  statement_of_wellFormed rfl (fun _ h => by cases h) (fun _ _ h => by cases h)

theorem seqWriteCompletion : Statement .seqWriteCompletion :=
  statement_of_wellFormed rfl (fun _ h => by cases h) (fun _ _ h => by cases h)

end Sys2Proof.Laws.Operands
end

