-- ==== Sys2Proof/Tests/Slice0.lean ====
section
/-! SUPPORT. The model's own tests: the well-formedness smoke tests, the manual's worked examples, and, for each statement
of Certificates/Slice0/Obligations.lean that has hypotheses, states and operands that meet the hypotheses of its clauses. -/

namespace Sys2Proof.Tests

open Sys2Proof.Machine

set_option Elab.async false

/-! ### WellFormed -/

theorem test_emptyStretchIsIllFormed : WellFormed (.linkFrame []) = false := by decide

theorem test_outOfOrderStretchIsIllFormed :
    WellFormed (.linkFrame [.csnFall, .address 0]) = false ∧ WellFormed (.linkFrame [.csnRise, .csnRise]) = false ∧
    WellFormed (.linkFrame [.readDue, .writeWord 0]) = false := by decide

theorem test_droppedWriteAtAnAcceptingAddressIsIllFormed :
    WellFormed (.registerWriteDropped 0x2002 0) = false ∧ WellFormed (.registerWriteDropped 0x200B 0) = false ∧
    WellFormed (.registerWriteDropped 0x1FFE 0) = false := by decide

theorem test_wellFormedTerms :
    WellFormed (.linkFrame [.csnFall, .control 0x00, .address 0x100, .writeWord 7, .csnRise, .csnFall]) = true ∧
    WellFormed (.registerWriteDropped 0x2000 0) = true ∧ WellFormed (.registerWriteDropped 0x2005 0) = true ∧
    WellFormed (.registerWriteDropped 0x200C 0) = true ∧ WellFormed (.registerWriteDropped 0xFFFF 0) = true ∧
    WellFormed .por = true := by decide

/-! ### The manual's worked examples -/

/-- The table of R9. -/
theorem test_compensation :
    compensate 4260 1500 44 = 4194 ∧ compensate 3700 (-2000) 38 = 3776 ∧ compensate 3700 (-1999) 38 = 3775 ∧
    compensate 4051 2400 12 = 4023 := by decide

/-- 1.6.1: a chattering hinge with FOLD_DEB 3. -/
theorem test_chatteringHinge :
    let start : FoldMonitor := { folded := false, count := 0, firstScan := false, line := false }
    let run := List.foldl (fun m x => (foldSample m x 3).1) start
    (run [true, true]).count = 2 ∧ (run [true, true, false]).count = 0 ∧
    (run [true, true, false, true, true]).folded = false ∧ (run [true, true, false, true, true, true]).folded = true ∧
    (foldSample (run [true, true, false, true, true]) true 3).2 = true := by decide

/-- 3.3.1 to 3.3.3. -/
theorem test_integration :
    quantaOf 20000 4000 32 = 4 ∧ remainderOf 20000 4000 32 = 4000 ∧ chargeAfter 219998 4 220000 = 220000 ∧
    quantaOf 30000 2400 4 = 1 ∧ remainderOf 30000 2400 4 = 3600 ∧ quantaOf 3600 2400 4 = 0 ∧
    quantaOf 2500 (-1500) 4 = -1 ∧ remainderOf 2500 (-1500) 4 = 32500 ∧ chargeAfter 0 (-1) 200000 = 0 := by decide

/-- R53, R54: the windows of the default table, and the raised UPPER_3. -/
theorem test_bandWindows :
    let u : List Int := [0, 10, 20, 38, 45, 50, 58, 125]
    nextBand u (some 0) 2 = 0 ∧ nextBand u (some 0) 3 = 1 ∧ nextBand u (some 3) 19 = 3 ∧ nextBand u (some 3) 18 = 2 ∧
    nextBand u (some 3) 41 = 4 ∧ nextBand u (some 7) 57 = 7 ∧ nextBand u (some 7) 56 = 6 ∧
    nextBand [0, 10, 20, 42, 45, 50, 58, 125] (some 4) 41 = 4 ∧
    nextBand [0, 10, 20, 42, 45, 50, 58, 125] (some 4) 40 = 3 := by decide

/-- The weights of 6.7.3 and 6.8.2. -/
theorem test_weights :
    weightA (-balanceCorrection (-72) 8) = 548 ∧ weightA (balanceCorrection (-72) 8) = 476 ∧
    weightA (balanceCorrection 400 8) = 712 := by decide

def allowAll : Allow := { c := true, s := true, i := true, o := true }

def noHolds : Holds := { band := false, window := false, quiet := false, heat := false }

def cellInBand (index derate : Nat) (vcell : Nat) (charge : ChargeState) (tp : Nat) : CellSnapshot :=
  { vpin := vcell, vcell := vcell
    band := { index := some index, teff := 34, derate := derate, vcapDrop := 0, allow := allowAll }
    charge := charge, holds := noHolds, tp := tp, termCount := 0, renewal := false }

def snapshotOf (vSys iSys : Nat) (a b : CellSnapshot) (source : Source) : Snapshot :=
  { vSys := vSys, iSys := iSys, cells := { a := a, b := b }, source := source, pair := .w0, dieWarning := false
    part := .run, chargeReduced := false }

def ceilingDefaults : CeilingRead :=
  { imaxChg := { a := 4000, b := 3000 }, ipre := { a := 150, b := 150 }, vpre := 3000, vrech := 100, iterm := 80
    termCount := 64, taperMin := 10, taperHyst := 20 }

def supplyDefaults : SupplySplitRead := { imaxDis := { a := 6000, b := 4000 } }

def outputsOf (a b : Nat) : PerCell Output := { a := { ceiling := a, vcap := 4450 }, b := { ceiling := b, vcap := 4450 } }

/-- 6.7: the worked allocation. -/
theorem test_workedAllocation :
    let r := share (snapshotOf 3900 1200 (cellInBand 3 256 4023 .bulk 3200) (cellInBand 4 192 4194 .bulk 1800) .wired)
      { q := { a := 99000, b := 104000 }, output := outputsOf 3200 2400 } { a := 220000, b := 200000 }
      { vC := 9000, iC := 3000, convGain := 236 } ceilingDefaults { balGain := 8, iHingeMax := 5000 } supplyDefaults
    r.pIn = 24890 ∧ r.pLoad = 4680 ∧ r.pAvail = 20210 ∧ r.pPre = 0 ∧ r.r = 20210 ∧ r.d = -72 ∧
    r.w = { a := 548, b := 476 } ∧ r.v = { a := 476, b := 548 } ∧
    (r.cells.a.stage.e = 3200 ∧ r.cells.a.stage.found = .bulk ∧ r.cells.a.granted = 12661 ∧ r.cells.a.setPoint = 3147) ∧
    (r.cells.b.stage.e = 1800 ∧ r.cells.b.stage.found = .bulk ∧ r.cells.b.granted = 7549 ∧ r.cells.b.setPoint = 1799) :=
  by decide +kernel

/-- 6.8.1: two cells in precharge on a small budget. -/
theorem test_prechargeExample :
    let r := share (snapshotOf 3600 1100 (cellInBand 3 256 2900 .idle 0) (cellInBand 3 256 1900 .idle 0) .coil)
      { q := { a := 0, b := 0 }, output := outputsOf 3200 2400 } { a := 220000, b := 200000 }
      { vC := 5000, iC := 1000, convGain := 236 } ceilingDefaults { balGain := 8, iHingeMax := 5000 } supplyDefaults
    r.pIn = 4609 ∧ r.pAvail = 649 ∧ r.pPre = 735 ∧ r.r = 0 ∧ r.cells.a.granted = 384 ∧ r.cells.b.granted = 264 ∧
    r.cells.a.setPoint = 132 ∧ r.cells.b.setPoint = 132 := by decide +kernel

/-- 6.8.2: supply on battery, and 6.8.3: a shortfall with one cell out. -/
theorem test_supplyExamples :
    let b : BudgetRead := { vC := 0, iC := 0, convGain := 236 }
    let r := share (snapshotOf 4000 2000 (cellInBand 3 256 3800 .idle 0) (cellInBand 3 256 3700 .idle 0) .none)
      { q := { a := 700, b := 300 }, output := outputsOf 3200 2400 } { a := 1024, b := 1024 } b ceilingDefaults
      { balGain := 8, iHingeMax := 5000 } supplyDefaults
    let q := share (snapshotOf 3500 6000 (cellInBand 3 256 3800 .tripped 0) (cellInBand 3 256 3600 .idle 0) .none)
      { q := { a := 700, b := 300 }, output := outputsOf 3200 2400 } { a := 1024, b := 1024 } b ceilingDefaults
      { balGain := 8, iHingeMax := 5000 } supplyDefaults
    r.pAvail = -8000 ∧ r.shortfall = false ∧ r.cells.a.granted = 5562 ∧ r.cells.b.granted = 2438 ∧
    r.cells.a.setPoint = -1463 ∧ r.cells.b.setPoint = -658 ∧
    q.pAvail = -21000 ∧ q.shortfall = true ∧ q.cells.a.setPoint = 0 ∧ q.cells.b.setPoint = -4000 := by decide +kernel

/-! ### Reset -/

/-- Words of the three pages right after a power-on reset. -/
theorem test_resetWords :
    State.reset.readWord 0x080 = 5000 ∧ State.reset.readWord 0x0DC = 125 ∧ State.reset.readWord 0x100 = 0 ∧
    State.reset.readWord 0x05E = 0x200 ∧ State.reset.capQ .a = 220000 ∧ State.reset.preset .b = 0 := by decide +kernel

/-! ### Small states -/

/-- The state a command leaves. -/
def after (c : Instr) (s : State) : State :=
  match exec c s with
  | .next t => t
  | .fault _ => s
  | .refused _ => s

def idleCell (t : Thresholds) : CellPath := { Reset.cellPath t with charge := .idle, pathOpen := false }

/-- A part in RUN, its start-up over, served, with both cells IDLE on closed paths. -/
def base : State := { State.reset with
  cells := { a := idleCell Reset.thresholdsA, b := idleCell Reset.thresholdsB }
  timer := { count := 0, length := .ms4, running := true }
  port := { Reset.port with serving := true }
  control := { Reset.controller with startup := false, startupAfterPor := false, fastArmed := true, inputOpen := false } }

def inState (p : PartState) (step : Nat) : State :=
  { base with control := { base.control with state := p, shipStep := step, wakeArmed := true } }

def withSeq (q : Sequencer) : State := { base with seq := q }

def seqIn (st : SeqState) : State := withSeq { Reset.sequencer with state := st, current := some 0x100 }

def underWay (t : Transaction) (awaited : Bool) : State :=
  { base with arbiter := { Reset.arbiter with underWay := some t, awaited := awaited } }

def withOps (s : State) (ops : List PortOp) : State := { s with port := { s.port with ops := ops } }

/-- Both grants are taken. -/
def busy : State :=
  { base with
    arbiter := { Reset.arbiter with underWay := some (.refresh 0), awaited := true }
    converter := { Reset.converter with inFlight := .scan, scan := some { periodCount := 0, length := .ms4, next := 0,
                                                                           readings := Readings.zero } } }

def withCellA (x : CellPath) : State := { base with cells := { base.cells with a := x } }

def tripped : CellPath := { idleCell Reset.thresholdsA with charge := .tripped, pathOpen := true }

def readRun (phase : RunPhase) : Run :=
  { dir := .read, start := 0x100, length := 2, words := [5, 6], phase := phase, stale := false }

def writeRunOf (phase : RunPhase) : Run :=
  { dir := .write, start := 0x07F, length := 2, words := [5, 6], phase := phase, stale := false }

def readings : Readings := { Readings.zero with vpinA := 4000, vpinB := 4000, tA := 25, tB := 25, tDie := 40 }

def lastChannel (r : Readings) : ScanRecord := { periodCount := 1, length := .ms4, next := 13, readings := r }

/-- A scan whose last conversion is in flight. -/
def scanning (s : State) (r : ScanRecord) : State :=
  { s with converter := { s.converter with scan := some r, inFlight := .scan } }

def sampling : Sequencer :=
  { Reset.sequencer with state := .convert, current := some 0x100, item := some (.sample 3 2 .now 0x200) }

def probing (q : Sequencer) (dropped : Bool) : State :=
  { withSeq q with converter := { Reset.converter with inFlight := .probe 3 dropped } }

def withChannelA (x : Channel) : State := { base with channels := { base.channels with a := x } }

def runningChannel (quanta steps : Nat) : Channel :=
  { Reset.channel 0x100 with state := .running, ceiling := 1000, slope := -10, stepQ := 3, quantaLeft := quanta,
                             stepsLeft := steps }

def allocation (charge : ChargeState) : Allocation :=
  { snap := snapshotOf 3900 1200 (cellInBand 3 256 4023 charge 3200) (cellInBand 4 192 4194 .bulk 1800) .none
    integratesAhead := 0
    budget := none, capacity := none, ceilings := none, chargeSplit := none, supplySplit := none
    counter := some { q := { a := 107500, b := 97700 }, output := outputsOf 3200 2400 }
    becameAbsent := { a := true, b := false }, released := { a := true, b := false }, sourceLost := true }

def allocating (charge : ChargeState) (s : State) : State :=
  { s with allocator := { s.allocator with inFlight := some (allocation charge) } }

/-- A sample of a channel that waits for a trigger. -/
def awaiting (g : Trigger) (ch n : Nat) : State :=
  withSeq { Reset.sequencer with state := .triggerWait, current := some 0x100, item := some (.sample ch n g 0x200) }

/-- A WAIT with n periods to go. -/
def pausing (n : Nat) : State :=
  withSeq { Reset.sequencer with state := .pause, current := some 0x100, waitCount := n }

/-- The transfer converter in REST with n completions to go. -/
def resting (n : Nat) : State := { base with transfer := { Reset.transfer with state := .rest, rest := n } }

/-- A scan about to complete on good cells with the input pins at 0. -/
def selecting (x : Selector) : State := scanning { base with selector := x } (lastChannel readings)

/-- An allocation on battery whose cells have stood still since its begin. -/
def settledAllocation (a b : CellSnapshot) (sA : Nat) : Allocation :=
  { allocation .bulk with
    snap := snapshotOf 3900 0 a b .none
    capacity := some { a := 1024, b := 1024 }
    counter := some { q := { a := sA, b := 500 }, output := outputsOf 3200 2400 }
    becameAbsent := { a := false, b := false }, released := { a := false, b := false }, sourceLost := false }

/-- An allocation at whose completion the charge of cell A ends. -/
def ending : Allocation :=
  let al := settledAllocation { cellInBand 3 256 4450 .taper 80 with termCount := 63 } (cellInBand 3 256 4000 .idle 0) 500
  { al with snap := { al.snap with source := .coil }, budget := some { vC := 9000, iC := 3000, convGain := 236 } }

/-- A completion on battery with no load, cell A at the state of charge sA and cell B at 500 and at the voltage vB, XFER_EN
at 1 and a setting written over it. -/
def balancingAt (vB : Nat) (st : TransferState) (sA setting : Nat) (v : Word) : State :=
  let al := settledAllocation (cellInBand 3 256 3900 .idle 0) (cellInBand 3 256 vB .idle 0) sA
  (({ base with
      transfer := { Reset.transfer with state := st }
      allocator := { base.allocator with inFlight := some al } } : State).writeWord 0x0A7 1).writeWord setting v

def balancing (st : TransferState) (sA setting : Nat) (v : Word) : State := balancingAt 3900 st sA setting v

/-- A load on battery that no cell can take, with the shortfall flag as given. -/
def overloaded (flag : Bool) : State :=
  let x := cellInBand 3 256 3900 .tripped 0
  let al := settledAllocation x x 500
  { base with allocator := { base.allocator with
      shortfall := flag
      inFlight := some { al with snap := { al.snap with iSys := 1200 } } } }

/-- Cell A charging and cell B supplying, with the coil selected as given, at a scan about to complete. -/
def sharing (source : Source) (r : Readings) : State :=
  scanning { base with
    cells := { a := { base.cells.a with setPoint := 500, termCount := 7 }
               b := { base.cells.b with setPoint := -300, termCount := 9 } }
    selector := { base.selector with selected := source } } (lastChannel r)

/-! ### Commands on small states -/

theorem test_maskWrite : (after (.maskWrite 0x8001) base).notices.mask = 0x8001 := by decide +kernel

theorem test_clearWindow : (after .clearWindow { base with seq := { base.seq with flags := 5 } }).seq.flags = 0 := by
  decide +kernel

theorem test_nextWriteStartsAndFetches :
    (after (.nextWrite 0x100) base).arbiter.underWay = some (.seqFetch 0x100 [0, 0, 0, 0]) := by decide +kernel

theorem test_doneReadIsShiftedOut :
    (after .doneRead { base with seq := { base.seq with done := [{ index := 0x123, code := .bad }] } }).port.shifted =
      [0x8123] := by decide +kernel

theorem test_idReadsThroughAFrame :
    (after (.linkFrame [.csnFall, .control 0x80, .address 0x2000, .readDue, .csnRise]) base).port.shifted = [0x4B22] := by
  decide +kernel

theorem test_frameWritesASetting :
    (after .linkWriteRunCompletion
      (after (.linkFrame [.csnFall, .control 0x00, .address 0x0115, .writeWord 250, .csnRise]) base)).readWord 0x08A =
      250 := by decide +kernel

theorem test_fullSetsTheCount :
    (after .gaugeFull (underWay (.gauge (.full .a)) true)).q .a = 220000 := by decide +kernel

theorem test_gaugeBatchInQuiet :
    let s := (underWay (.gauge (.integrate 4000 0 32 false false)) true).setQF .a 150000 20000
    (after .gaugeIntegrate s).q .a = 150004 ∧ (after .gaugeIntegrate s).f .a = 4000 := by decide +kernel

theorem test_fastComparatorTrips :
    ((after (.fastComparatorEvent .hingeB) base).cell .b).charge = .tripped ∧
    ((after (.fastComparatorEvent .hingeB) base).cell .b).pathOpen = true := by decide +kernel

theorem test_segmentAndItemForms :
    segmentOf 0x100 [0xFFFF, 0xFFF6, 0, 4, 5000, 1] =
      { index := 0x100, start := none, slope := -10, stepQ := 1, steps := 4, vcap := 4600, last := true } ∧
    itemOf [0x2D31, 0, 0, 0x200] = .sample 3 13 .period 0x200 ∧
    itemOf [0x0212, 0xFFFF, 5, 0] = .compare 1 .holdB (-1) 5 ∧ itemOf [0xFF08, 0, 0, 0] = .bad 8 := by decide

/-- R167: a run ends after its 64th word, and a new one begins with the next. -/
theorem test_burstIsCutAfterItsSixtyFourthWord :
    (busy.busEvents ([.csnFall, .control 0x00, .address 0x200] ++ List.replicate 65 (.writeWord 7) ++
      [.csnRise])).port.ops =
    [.run { dir := .write, start := 0x100, length := 64, words := List.replicate 64 7, phase := .waiting, stale := false },
     .run { dir := .write, start := 0x140, length := 1, words := [7], phase := .waiting, stale := false }] := by
  decide +kernel

/-- A read frame that begins at a register or at an unmapped address has its first run, at word 0, requested at its
address; the words themselves add none. -/
theorem test_firstRunIsRequestedAtTheAddress :
    let first : List PortOp :=
      [.run { dir := .read, start := 0, length := 64, words := [], phase := .waiting, stale := false }];
    (after (.linkFrame [.csnFall, .control 0x80, .address 0x2006]) busy).port.ops = first ∧
    (after (.linkFrame [.csnFall, .control 0x80, .address 0x2006, .readDue]) busy).port.ops = first ∧
    (after (.linkFrame [.csnFall, .control 0x80, .address 0x200C, .readDue, .readDue]) busy).port.ops = first := by
  decide +kernel

/-- A read that passes word address 0xFFFE goes on at word 0 of the area, whose run has been requested at the address. -/
theorem test_readWrapsPastTheLastAddress :
    (after (.linkFrame [.readDue])
      (after .linkReadRunCompletion
        (after (.linkFrame [.csnFall, .control 0x80, .address 0xFFFE, .readDue]) base))).port.shifted = [0, 0] ∧
    (after (.linkFrame [.csnFall, .control 0x80, .address 0xFFFE, .readDue, .readDue]) base).port.shifted = [0, 0xFFFF] := by
  decide +kernel

/-- A write to ID behind a run takes no place: the MASK write after it is held. -/
theorem test_droppedWriteIsNotHeld :
    (after (.linkFrame [.csnFall, .control 0x00, .address 0x2000, .writeWord 1, .csnRise, .csnFall, .control 0x00,
      .address 0x2008, .writeWord 3]) (withOps busy [.run (writeRunOf .waiting)])).port.ops =
        [.run (writeRunOf .waiting), .write .mask 3] := by decide +kernel

/-- A calibration of cell A clamps cell B's Q to a lowered CAP_B. -/
theorem test_calibrationClampsTheOtherCell :
    let s := ((underWay (.gauge (.full .a)) true).setQF .b 150000 5).writeWord 0x08B 1000
    (after .gaugeFull s).q .b = 100000 ∧ (after .gaugeFull s).f .b = 5 := by decide +kernel

/-- At POR a probe conversion in flight runs out, to be dropped, and a fetch under way runs out awaited by no one. -/
theorem test_porLetsConversionsRunOut :
    (after .por (probing sampling false)).converter.inFlight = .probe 3 true ∧
    (after .por (underWay (.seqFetch 0x100 [0, 0, 0, 0]) true)).arbiter =
      { Reset.arbiter with underWay := some (.seqFetch 0x100 [0, 0, 0, 0]) } := by decide +kernel

/-- In SHIP the timer stands, and no expiry reaches the sequencer. -/
theorem test_noExpiryInShip :
    let s := { pausing 1 with timer := { base.timer with running := false }, control := (inState .ship 4).control }
    after .waitExpiry s = s ∧ after .periodExpiry s = s := by decide +kernel

/-- An ABSENT cell that the scan finds below 1500 mV stays ABSENT, whatever hold was set meanwhile. -/
theorem test_absentCellStaysAbsent :
    let al := settledAllocation { cellInBand 3 256 0 .absent 0 with vpin := 1499 } (cellInBand 3 256 4000 .idle 0) 500
    let x := { idleCell Reset.thresholdsA with charge := .absent, holds := { noHolds with window := true } }
    let s := { withCellA x with allocator := { base.allocator with inFlight := some al } }
    (after .allocationCompletion s).cells.a.charge = .absent := by decide +kernel

/-! ### Witnesses: states that meet the hypotheses of the statements, clause by clause

Where a hypothesis quantifies over what the state does not hold, the state holds nothing of the kind. -/

theorem test_witness_StepRunsFrontCommand :
    (base.withPending [.clearWindow, .por]).pending = .clearWindow :: [.por] ∧ base.pending = [] := by decide

theorem test_witness_EventsThatCannotArrive :
    (base.startupDue = false ∧ base.control.startup = false ∧
      { base with control := { base.control with qreq := true } }.control.qreq = true ∧
      base.control.qreq = false ∧ base.control.state ≠ .shipEntry ∧ State.reset.control.fastArmed = false ∧
      base.control.wakeArmed = false ∧ (inState .heat 0).control.state ≠ .shipEntry ∧
      (inState .heat 0).control.state ≠ .ship ∧ State.reset.timer.running = false ∧ base.seq.state ≠ .pause ∧
      (pausing 2).seq.state = .pause ∧ 1 < (pausing 2).seq.waitCount ∧ base.transfer.state ≠ .rest ∧
      base.converter.inFlight ≠ .scan ∧ busy.converter.inFlight = .scan ∧
      base.arbiter.gaugeUnderWay = false ∧ base.allocationReady = false ∧ 1 < (resting 2).transfer.rest ∧
      base.arbiter.underWay ≠ some (.link .read) ∧ base.arbiter.underWay ≠ some (.link .write)) ∧
    (∃ r, busy.converter.scan = some r ∧ r.next = 0) ∧
    (∀ ch d, base.converter.inFlight ≠ .probe ch d) ∧ (∀ b, base.arbiter.underWay ≠ some (.refresh b)) ∧
    (∀ c i ws, base.arbiter.underWay ≠ some (.fetch c i ws)) ∧ (∀ i ws, base.arbiter.underWay ≠ some (.seqFetch i ws)) ∧
    (∀ i v, base.arbiter.underWay ≠ some (.seqWrite i v)) := by
  refine ⟨by decide, ⟨_, rfl, rfl⟩, ?_, ?_, ?_, ?_, ?_⟩ <;> intros <;> exact nofun

theorem test_witness_ResetCommonArea :
    isChargeWord 0x020 = true ∧ isChargeWord 0x042 = true ∧ isChargeWord 0x000 = false ∧ isChargeWord 0x07F = false := by
  decide

/-- A state with a full done queue, a full slot, two runs and a held write, a waiting counter, and a running transfer. -/
def loaded : State :=
  { base with
    gauge := [.full .a]
    arbiter := { Reset.arbiter with gauge := true, underWay := some (.refresh 3), awaited := true }
    transfer := { Reset.transfer with state := .runAB, current := 100 }
    seq := { Reset.sequencer with slot := some 0xFFC, doneOverrun := 255, done := List.replicate 4 { index := 0x100, code := .pass } }
    port := { base.port with ops := [.run (readRun .done), .run (writeRunOf .waiting), .write .mask 1] }
    mem := Memory.writeWord [] 0x100 7
    pending := [.clearWindow] }

/-- A step from a state that holds every invariant. -/
theorem test_witness_StepKeeps : ∃ t, step loaded = .next t := ⟨_, rfl⟩

theorem test_witness_StepKeepsMemoryCanonical : loaded.memoryCanonical := by
  unfold State.memoryCanonical
  decide +kernel

theorem test_witness_StepKeepsTransferSafe : loaded.transferSafe :=
  ⟨fun _ => ⟨rfl, fun c => by cases c <;> decide⟩, fun h => by revert h; decide⟩

theorem test_witness_StepKeepsPathsSafe : ∀ c, loaded.pathSafe c := by
  intro c
  refine ⟨?_, ?_, ?_, ?_, ?_⟩
  · cases c <;> decide
  · cases c <;> decide
  · cases c <;> decide
  · cases c <;> decide
  · intro al h
    have none_ : loaded.allocator.inFlight = none := rfl
    rw [none_] at h
    cases h

theorem test_witness_StepKeepsArbiterSettled : loaded.arbiterSettled := by
  unfold State.arbiterSettled
  decide

theorem test_witness_StepKeepsShipSequenced : (inState .shipEntry 1).shipSequenced ∧ loaded.shipSequenced := by
  unfold State.shipSequenced
  decide

theorem test_witness_StepKeepsBounds :
    loaded.portWithinBounds ∧ loaded.listsWithinBounds ∧ loaded.allocator.weightsBalanced ∧ loaded.countsWithinRange := by
  refine ⟨?_, ⟨by decide, ?_⟩, ?_, ?_⟩
  · unfold State.portWithinBounds
    decide
  · intro i h
    have slot : loaded.seq.slot = some 0xFFC := rfl
    rw [slot] at h
    cases h
    decide
  · unfold Allocator.weightsBalanced
    decide
  · unfold State.countsWithinRange
    decide

/-- SHIP_SLOT written with 0. -/
def zeroSlot (s : State) : State := s.writeWord 0x0B5 0

def starting (step : Nat) (qreq : Bool) : State :=
  { State.reset with control := { Reset.controller with shipStep := step, qreq := qreq } }

theorem test_witness_StartupSequence :
    (State.reset.startupDue = true ∧ State.reset.shipSlot ≠ .zero) ∧
    ((zeroSlot State.reset).startupDue = true ∧ (zeroSlot State.reset).shipSlot = .zero) ∧
    ((starting 5 false).control.startup = true ∧ (starting 5 false).control.shipStep = 5 ∧
      (starting 5 false).control.state = .run) ∧
    ((starting 6 false).control.startup = true ∧ (starting 6 false).control.shipStep = 6 ∧
      (starting 6 false).control.state = .run ∧
      ¬ ((starting 6 false).control.startupAfterPor = true ∧ (starting 6 false).control.qreq = true)) ∧
    ((starting 6 true).control.startup = true ∧ (starting 6 true).control.shipStep = 6 ∧
      (starting 6 true).control.state = .run ∧ (starting 6 true).control.startupAfterPor = true ∧
      (starting 6 true).control.qreq = true) := by decide +kernel

theorem test_witness_QreqRiseEntersQuiet :
    (base.control.qreq = false ∧ base.control.state = .run ∧ base.control.startup = false) ∧
    ((inState .heat 0).control.qreq = false ∧
      ¬ ((inState .heat 0).control.state = .run ∧ (inState .heat 0).control.startup = false)) := by decide

/-- QUIET with QREQ high, the sequencer FROZEN over a kept PAUSE. -/
def quiet (p : PartState) (st : SeqState) : State :=
  { withSeq { Reset.sequencer with state := st, kept := .pause, current := some 0x100 } with
    control := { base.control with state := p, qreq := true } }

theorem test_witness_QreqFallWakes :
    ((quiet .quiet .frozen).control.qreq = true ∧ (quiet .quiet .frozen).control.state = .quiet ∧
      (quiet .quiet .frozen).control.startup = false ∧ (quiet .quiet .frozen).wakeFresh = 0 ∧
      ((quiet .quiet .frozen).writeWord 0x0B4 7).wakeFresh = 1) ∧
    ((quiet .run .idle).control.qreq = true ∧
      ¬ ((quiet .run .idle).control.state = .quiet ∧ (quiet .run .idle).control.startup = false)) := by decide +kernel

/-- The cases of a thaw: not FROZEN, each held step, none held with a list to start, and none held otherwise. -/
theorem test_witness_ThawsTo :
    (quiet .quiet .fetch).seq.state ≠ .frozen ∧
    (let q : Sequencer := { sampling with state := .frozen, kept := .fetch, held := some .carryOut };
      q.state = .frozen ∧ q.held = some .carryOut ∧ q.item = some (.sample 3 2 .now 0x200)) ∧
    (let q : Sequencer := { sampling with state := .frozen, kept := .fetch, held := some (.goOn 0x104) };
      q.state = .frozen ∧ q.held = some (.goOn 0x104)) ∧
    (let q : Sequencer := { sampling with state := .frozen, kept := .convert, held := some .formResult };
      q.state = .frozen ∧ q.held = some .formResult ∧ q.item = some (.sample 3 2 .now 0x200)) ∧
    (let q : Sequencer := { Reset.sequencer with state := .frozen, kept := .idle, slot := some 0xFFC };
      q.state = .frozen ∧ q.held = none ∧ q.kept = .idle ∧ q.slot = some 0xFFC) ∧
    ((quiet .quiet .frozen).seq.state = .frozen ∧ (quiet .quiet .frozen).seq.held = none ∧
      (quiet .quiet .frozen).seq.kept ≠ .idle) := by decide

/-- A trigger that counts, on a converted and on a computed channel, and the three that are lost. -/
theorem test_witness_TriggerTaken :
    ((awaiting .fold 13 1).seq.state = .triggerWait ∧ (awaiting .fold 13 1).seq.item = some (.sample 13 1 .fold 0x200) ∧
      (awaiting .fold 13 1).control.state ≠ .ship ∧ (13 : Nat) ≤ 15 ∧ 0 < (1 : Nat) ∧ (13 : Nat) < 14) ∧
    (awaiting .swapA 15 16).seq.item = some (.sample 15 16 .swapA 0x200) ∧ ¬ (15 : Nat) < 14 ∧
    base.seq.state ≠ .triggerWait ∧ (inState .ship 4).control.state = .ship ∧
    (∀ ch n target, (awaiting .fold 3 2).seq.item ≠ some (.sample ch n .period target)) := by
  refine ⟨by decide, by decide, by decide, by decide, by decide, ?_⟩
  intro ch n target h
  cases h

def settling : State :=
  { base with selector := { base.selector with wired := { state := .settling, settle := 1 } } }

theorem test_witness_ShipCommand :
    (base.port.serving = true ∧ settling.control.state = .run ∧ settling.sourcePresent = true) ∧
    ((inState .heat 0).port.serving = true ∧ (inState .heat 0).control.state = .heat) ∧
    ((inState .shipEntry 1).port.serving = true ∧ (inState .shipEntry 1).control.state = .shipEntry) ∧
    (base.control.state = .run ∧ base.control.startup = false ∧ base.sourcePresent = false ∧ base.shipSlot ≠ .zero) ∧
    ((quiet .quiet .frozen).port.serving = true ∧ (quiet .quiet .frozen).control.state = .quiet ∧
      (quiet .quiet .frozen).control.startup = false ∧ (quiet .quiet .frozen).sourcePresent = false ∧
      (quiet .quiet .frozen).shipSlot ≠ .zero) ∧
    ((zeroSlot base).port.serving = true ∧ (zeroSlot base).control.state = .run ∧ (zeroSlot base).sourcePresent = false ∧
      (zeroSlot base).control.startup = false ∧ (zeroSlot base).shipSlot = .zero) := by decide +kernel

def waking (s : State) : State := { s with control := { s.control with wakePending := true } }

theorem test_witness_ShipSlotsOpenPathsInOrder :
    ((inState .shipEntry 1).control.state = .shipEntry ∧ (inState .shipEntry 1).control.shipStep = 1) ∧
    ((inState .shipEntry 2).control.state = .shipEntry ∧ (inState .shipEntry 2).control.shipStep = 2) ∧
    ((inState .shipEntry 3).control.state = .shipEntry ∧ (inState .shipEntry 3).control.shipStep = 3 ∧
      (inState .shipEntry 3).control.wakePending = false) ∧
    ((waking (inState .shipEntry 3)).control.state = .shipEntry ∧ (waking (inState .shipEntry 3)).control.shipStep = 3 ∧
      (waking (inState .shipEntry 3)).control.wakePending = true) := by decide

theorem test_witness_AttachWake :
    ((inState .shipEntry 1).control.wakeArmed = true ∧ (inState .shipEntry 1).control.wakePending = false) ∧
    ((waking (inState .shipEntry 1)).control.state = .shipEntry ∧
      (waking (inState .shipEntry 1)).control.wakePending = true) ∧
    ((inState .ship 4).control.wakeArmed = true ∧ (inState .ship 4).control.state = .ship) := by decide +kernel

theorem test_witness_SoftReset :
    ((inState .shipEntry 1).port.serving = true ∧ (inState .shipEntry 1).control.state = .shipEntry) ∧
    (base.port.serving = true ∧ base.control.state ≠ .shipEntry ∧ base.control.state ≠ .ship ∧
      base.allocator.inFlight = none) ∧
    ((allocating .bulk base).control.state = .run ∧ (allocating .bulk base).allocator.inFlight = some (allocation .bulk) ∧
      (allocation .bulk).budget = none) := by decide

theorem test_witness_NoteAndMask :
    base.port.serving = true ∧ base.notices.sticky.get .tripA = false ∧ base.notices.sticky.get .fold = false ∧
    (10 : Word) = 10 ∧ 15 < (16 : Word).toNat ∧ base.control.state ≠ .ship := by decide

theorem test_witness_DoneRead :
    (base.port.serving = true ∧ base.seq.done = []) ∧
    (∃ e rest, loaded.port.serving = true ∧ loaded.seq.done = e :: rest ∧ e.index ≤ 0xFFC) :=
  ⟨by decide, _, _, rfl, rfl, by decide⟩

theorem test_witness_NextWrite :
    loaded.seq.slot = some 0xFFC ∧ (0x0FF : Word).toNat < 0x100 ∧ 0xFFC < (0xFFD : Word).toNat ∧
    (base.port.serving = true ∧ base.seq.slot = none ∧ 0x100 ≤ (0x100 : Word).toNat ∧ (0xFFC : Word).toNat ≤ 0xFFC) ∧
    ((seqIn .pause).port.serving = true ∧ (seqIn .pause).seq.slot = none ∧ (seqIn .pause).seq.state ≠ .idle) ∧
    base.seq.state = .idle := by decide

theorem test_witness_WritesDroppedAndLinkInert :
    writeIsDroppedAt 0x2000 = true ∧ writeIsDroppedAt 0x2004 = true ∧ writeIsDroppedAt 0x200C = true ∧
    State.reset.port.serving = false := by decide

/-- At the first and the last register, also by an odd address, with a code of CMD that gives a command and two that give
none. -/
theorem test_witness_FramesReachRegisters :
    (busy.port.serving = true ∧ busy.port.frame = .idle ∧ busy.port.ops = [] ∧ busy.arbiter.underWay.isSome = true ∧
      busy.converter.inFlight ≠ .none ∧ placeOf 0x2000 = .register .id ∧ placeOf (evenAddress 0x2001) = .register .id) ∧
    (placeOf 0x200A = .register .cmd ∧ placeOf (evenAddress 0x200B) = .register .cmd ∧ placeOf 0x1FFE = .area 0xFFF ∧
      placeOf 0x200C = .unmapped ∧ commandOf 0 = none ∧ commandOf 14 = none ∧ commandOf 11 = some .clearWindow) ∧
    (base.port.serving = true ∧ base.seq.slot = none ∧ base.seq.state = .idle ∧ (seqIn .pause).seq.state ≠ .idle) ∧
    ((withOps busy [.run (readRun .waiting)]).port.settled = false ∧
      (withOps busy [.run (readRun .waiting)]).port.holdsWrite = false ∧ loaded.port.settled = false ∧
      loaded.port.holdsWrite = true) ∧
    0x200C ≤ (0x200C : Word).toNat ∧ 0x200C ≤ (0xFFFE : Word).toNat := by decide

def inFrame (f : FramePhase) (ops : List PortOp) : State := { busy with port := { busy.port with frame := f, ops := ops } }

/-- A write run being received that the next word ends by its number or by its place, one that it only joins, and a port that
is full. -/
theorem test_witness_WriteWordsMakeRuns :
    let receiving := fun (start n : Nat) => { writeRunOf .receiving with start := start, length := n }
    (busy.port.serving = true ∧ busy.arbiter.underWay.isSome = true ∧ busy.converter.inFlight ≠ .none) ∧
    (let s := inFrame (.data .write 0x27E) [.run (receiving 0x100 63)];
      s.port.frame = .data .write 0x27E ∧ s.port.ops = [] ++ [.run (receiving 0x100 63)] ∧
        (receiving 0x100 63).phase = .receiving ∧
        (receiving 0x100 63).start + (receiving 0x100 63).length = (0x27E : Word).toNat / 2) ∧
    ((receiving 0xFFE 1).start + (receiving 0xFFE 1).length = (0x1FFE : Word).toNat / 2 ∧
      (0x1FFE : Word).toNat / 2 = 0xFFF ∧ (0x1FFE : Word).toNat < 0x2000) ∧
    (let s := inFrame (.data .write 0x202) [.run (readRun .done), .run (writeRunOf .waiting)];
      s.port.hasRoom = false ∧ s.port.ops.getLast? = some (.run (writeRunOf .waiting)) ∧
        (writeRunOf .waiting).phase ≠ .receiving) ∧
    (inFrame (.data .write 0x202) []).port.hasRoom = true ∧ (inFrame .control []).port.frame ≠ .idle ∧
    (0x1FFD : Word).toNat / 2 + [(7 : Word), 8].length ≤ 0x1000 := by decide

/-- The run of a word alone at the port, with the next run behind it, and behind an earlier run that fills the port; its last
word, at the end of the area; and a word without a run at a port with and without room. -/
theorem test_witness_FramesRequestRuns :
    ((0x81 : Byte) ≠ 0x80 ∧ (0x81 : Byte) ≠ 0x00 ∧ busy.port.frame = .idle ∧ busy.port.ops = []) ∧
    ((inFrame (.address .read) []).port.frame = .address .read ∧ (inFrame (.address .read) []).port.hasRoom = true ∧
      loaded.port.hasRoom = false ∧ (0x1FFF : Word).toNat < 0x2000 ∧ ¬ (0x2000 : Word).toNat < 0x2000) ∧
    (let next := { readRun .waiting with start := 0x102, length := 64 };
      let s := inFrame (.data .read 0x202) [.run (readRun .done), .run next];
      s.port.frame = .data .read 0x202 ∧ s.port.ops = [] ++ .run (readRun .done) :: [.run next] ∧
        (0x202 : Word).toNat < 0x2000 ∧ (readRun .done).covers ((0x202 : Word).toNat / 2) = true ∧
        next.covers ((0x202 : Word).toNat / 2) = false ∧ next.covers ((readRun .done).start + (readRun .done).length) = true ∧
        (readRun .done).length ≤ 64 ∧ (readRun .done).start + (readRun .done).length ≤ 0x1000) ∧
    (let old := { readRun .granted with start := 0x200, stale := true };
      let s := inFrame (.data .read 0x200) [.run old, .run (readRun .waiting)];
      s.port.ops = [.run old] ++ .run (readRun .waiting) :: [] ∧ s.port.hasRoom = false ∧
        old.covers ((0x200 : Word).toNat / 2) = false ∧ (readRun .waiting).covers ((0x200 : Word).toNat / 2) = true) ∧
    (let last := { readRun .waiting with start := 0xFFE };
      last.start + last.length ≤ 0x1000 ∧ (last.start + last.length) % 0x1000 = 0 ∧
        last.covers ((0x1FFE : Word).toNat / 2) = true) ∧
    (loaded.port.ops.any (PortOp.covers 0x300) = false ∧ busy.port.ops.any (PortOp.covers 0x300) = false ∧
      busy.port.hasRoom = true) := by decide

/-- A write run granted behind a completed read run; and runs that complete alone, behind a completed one, to be gone, with
the next run behind them, and with a held write of CMD behind them. -/
theorem test_witness_LinkRunsWriteAndComplete :
    Memory.wf [] = true ∧
    (let s : State := { withOps base [.run (readRun .done), .run (writeRunOf .waiting)] with
        arbiter := { Reset.arbiter with link := true } };
      s.arbiter.underWay = none ∧ s.arbiter.gauge = false ∧ s.arbiter.fetch = { a := none, b := none } ∧
        s.arbiter.link = true ∧ s.port.ops = [.run (readRun .done)] ++ .run (writeRunOf .waiting) :: [] ∧
        (readRun .done).phase = .done ∧ (writeRunOf .waiting).phase = .waiting ∧ (writeRunOf .waiting).dir = .write) ∧
    (let s := withOps (underWay (.link .read) true) [.run (readRun .granted)];
      s.arbiter.underWay = some (.link (readRun .granted).dir) ∧ s.port.ops = [] ++ .run (readRun .granted) :: [] ∧
        (readRun .granted).phase = .granted ∧ (readRun .granted).stale = false ∧
        ({ readRun .granted with stale := true } : Run).stale = true) ∧
    (let s := withOps (underWay (.link .write) true) [.run (readRun .done), .run (writeRunOf .granted), .run (readRun .waiting)];
      s.arbiter.underWay = some (.link (writeRunOf .granted).dir) ∧
        s.port.ops = [.run (readRun .done)] ++ .run (writeRunOf .granted) :: [.run (readRun .waiting)] ∧
        (writeRunOf .granted).phase = .granted ∧ (readRun .waiting).phase ≠ .done) ∧
    (let s := withOps (underWay (.link .write) true) [.run (writeRunOf .granted), .write .cmd 3];
      s.arbiter.underWay = some (.link .write) ∧
        s.port.ops = [] ++ .run (writeRunOf .granted) :: .write .cmd 3 :: []) := by decide

theorem test_witness_ItemsGoOnOrEndTheList :
    ({ Reset.sequencer with budget := 63 } : Sequencer).budget < 64 ∧ isItemIndex 0x100 = true ∧ isItemIndex 0xFFC = true ∧
    isItemIndex 0x0FF = false ∧ isItemIndex 0xFFD = false ∧
    ((seqIn .fetch).seq.current = some 0x100 ∧ (seqIn .fetch).seq.done.length < 4 ∧ (seqIn .fetch).seq.slot = none) ∧
    (let q : Sequencer := { loaded.seq with current := some 0x100, budget := 64 };
      64 ≤ q.budget ∧ q.current = some 0x100 ∧ 4 ≤ q.done.length ∧ q.doneOverrun ≤ 255 ∧ q.slot = some 0xFFC ∧
        ({ q with slot := none } : Sequencer).slot = none ∧ ({ q with done := [] } : Sequencer).done.length < 4) := by
  decide

theorem test_witness_ItemsCarriedOut :
    (withSeq sampling).seq.item = some (.sample 3 2 .now 0x200) ∧ (3 : Nat) < 14 ∧
    (let s := withSeq { Reset.sequencer with item := some (.sample 14 1 .now 0x200) };
      s.seq.item = some (.sample 14 1 .now 0x200)) ∧
    (let s := withSeq { Reset.sequencer with item := some (.sample 15 16 .period 0x200) };
      s.seq.item = some (.sample 15 16 .period 0x200) ∧ Trigger.period ≠ .now) ∧
    base.seq.slot = none ∧ loaded.seq.slot.isSome = true := by decide

theorem test_witness_ResultsAndCompares :
    (base.winLo ≤ 0x100 ∧ 0x0FF < base.winLo ∧ 0xFFF < base.winHi ∧ base.winHi ≤ 0x1000) ∧ base.seq.writeFaults ≤ 255 ∧
    CompareAction.holdA ≠ .stopXfer ∧ base.transfer.state = .off ∧ loaded.transfer.state = .runAB := by decide +kernel

def frozen (kept : SeqState) : State :=
  withSeq { sampling with state := .frozen, kept := kept }

theorem test_witness_SkipItem :
    ((seqIn .triggerWait).port.serving = true ∧ (seqIn .triggerWait).seq.state = .triggerWait ∧
      (seqIn .pause).seq.state = .pause) ∧ (withSeq sampling).seq.state = .convert ∧
    ((frozen .pause).seq.state = .frozen ∧ (frozen .pause).seq.kept = .pause ∧ (frozen .convert).seq.kept = .convert) ∧
    base.seq.effective = .idle ∧ (seqIn .fetch).seq.effective = .fetch ∧ (frozen .write).seq.effective = .write := by decide

theorem test_witness_SkipList :
    ((seqIn .write).port.serving = true ∧ (seqIn .write).seq.state ≠ .idle ∧ (seqIn .write).seq.state ≠ .frozen ∧
      (seqIn .write).seq.slot = none) ∧
    (let s := withSeq { loaded.seq with state := .pause, current := some 0x100 };
      s.seq.state ≠ .idle ∧ s.seq.state ≠ .frozen ∧ s.seq.slot = some 0xFFC) ∧
    ((frozen .fetch).seq.state = .frozen ∧ (frozen .fetch).seq.kept ≠ .idle ∧ (frozen .fetch).seq.kept ≠ .frozen) ∧
    base.seq.effective = .idle := by decide

theorem test_witness_ClearWindow : base.port.serving = true := by decide

def hot : Readings := { readings with tA := 65 }

def scanned (r : Readings) (s : State) : State :=
  { s with converter := { s.converter with latest := some (lastChannel r) } }

theorem test_witness_Release :
    ((base.cell .a).charge ≠ .tripped ∧ base.port.serving = true) ∧
    (((scanned hot (withCellA tripped)).cell .a).charge = .tripped ∧
      ((scanned hot (withCellA tripped)).tripConditionOf (scanned hot (withCellA tripped)).latestReadings .a).isSome =
        true) ∧
    (((scanned readings (withCellA tripped)).cell .a).charge = .tripped ∧
      (scanned readings (withCellA tripped)).tripConditionOf (scanned readings (withCellA tripped)).latestReadings .a =
        none) := by decide +kernel

theorem test_witness_ProfileStart :
    (base.port.serving = true ∧ base.bMode = 0) ∧
    ((base.writeWord 0x0A5 0xFFFF).port.serving = true ∧ (base.writeWord 0x0A5 0xFFFF).bMode = 1) := by decide +kernel

theorem test_witness_ProfileStop :
    ((withChannelA (runningChannel 1 1)).port.serving = true ∧
      ((withChannelA (runningChannel 1 1)).channel .a).state ≠ .stopped) ∧ (base.channel .a).state = .stopped := by decide

theorem test_witness_PresetAppendsEntry :
    (base.gauge.filter (GaugeEntry.concerns .a)).getLast? ≠ some (.preset .a) ∧
    (let s : State := { base with gauge := [.preset .a, .preset .b] };
      (s.gauge.filter (GaugeEntry.concerns .a)).getLast? = some (.preset .a) ∧ s.port.serving = true) ∧
    (let s : State := { base with gauge := [.preset .a, .full .a] };
      (s.gauge.filter (GaugeEntry.concerns .a)).getLast? ≠ some (.preset .a)) := by decide

theorem test_witness_FastComparatorTrips :
    ((withCellA tripped).control.fastArmed = true ∧ ((withCellA tripped).cell (comparatorCell .ovA)).charge = .tripped ∧
      ((withCellA { tripped with tripCount := 255 }).cell .a).tripCount ≤ 255) ∧
    (base.control.fastArmed = true ∧ (base.cell (comparatorCell .hingeB)).charge ≠ .tripped ∧
      (base.cell .b).tripCount ≤ 255) := by decide

def attached (coil : DetectionState) : State :=
  { base with selector := { base.selector with
      wired := { state := .attached, settle := 0 }, coil := { state := coil, settle := 0 }, selected := .wired } }

theorem test_witness_InputCollapse :
    ((settling.selector.detection .wired).state = .settling ∧ settling.selector.selected = .none ∧
      settling.selector.phase = .none ∧ (settling.selector.detection .coil).state ≠ .attached) ∧
    (((attached .settling).selector.detection .coil).state = .settling ∧
      (attached .settling).selector.selected = sourceOf .wired ∧
      ((attached .settling).selector.detection .wired).state = .attached) ∧
    (((attached .detached).selector.detection .wired).state = .attached ∧
      (attached .detached).selector.selected = sourceOf .wired ∧ (attached .detached).selector.phase = .none ∧
      ((attached .detached).selector.detection .coil).state ≠ .attached) ∧
    (((attached .attached).selector.detection .wired).state = .attached ∧
      ((attached .attached).selector.detection .coil).state = .attached) ∧
    (let x := { (attached .attached).selector with phase := .wait, target := some .coil, selected := .none };
      (x.detection .coil).state ≠ .detached ∧ x.phase ≠ .none) ∧
    (let x := { (attached .detached).selector with phase := .wait, target := some .wired, selected := .none };
      (x.detection .coil).state = .detached ∧ x.phase ≠ .none ∧ (x.detection .wired).state = .attached) ∧
    (((attached .detached).selector.detection .coil).state = .detached ∧
      (attached .detached).wantedSource.map sourceOf = some .wired) := by decide +kernel

theorem test_witness_PeriodExpiry :
    (base.timer.running = true ∧ base.converter.scan = none ∧ base.seq.state = .idle) ∧
    (∃ r, busy.timer.running = true ∧ busy.converter.scan = some r) ∧
    ((pausing 2).timer.running = true ∧ (pausing 2).seq.state = .pause ∧ 1 < (pausing 2).seq.waitCount ∧
      (pausing 1).seq.state = .pause ∧ (pausing 1).seq.waitCount ≤ 1) ∧
    ((awaiting .period 3 2).timer.running = true ∧ (awaiting .period 3 2).seq.state = .triggerWait) ∧
    ((frozen .pause).timer.running = true ∧ (frozen .pause).seq.state = .frozen) :=
  ⟨by decide, ⟨_, rfl, rfl⟩, by decide, by decide, by decide⟩

theorem test_witness_WaitsAndRestsEnd :
    ((pausing 1).timer.running = true ∧ (pausing 1).seq.state = .pause ∧ (pausing 1).seq.waitCount ≤ 1) ∧
    (1 < (pausing 2).seq.waitCount ∧ State.reset.timer.running = false) ∧
    ((allocating .bulk (resting 1)).allocationReady = true ∧ (resting 1).transfer.state = .rest ∧
      (resting 1).transfer.rest ≤ 1) ∧
    ((resting 1).allocationReady = false ∧ 1 < (resting 2).transfer.rest) := by decide

theorem test_witness_ScanConversionStores :
    let r : ScanRecord := { lastChannel readings with next := 12 }
    let q : ScanRecord := { lastChannel readings with next := 5 }
    ((scanning base r).converter.inFlight = .scan ∧ (scanning base r).converter.scan = some r ∧ r.next < 13) ∧
    ((scanning base q).converter.scan = some q ∧ (q.next = 4 ∨ q.next = 5)) := by decide

def monitor (first folded : Bool) (count : Nat) : State :=
  scanning { base with fold := { folded := folded, count := count, firstScan := first, line := false } }
    (lastChannel { readings with vWired := 4300, vCoil := 4299 })

theorem test_witness_ScanCompletes :
    let s := monitor false false 7
    (s.converter.inFlight = .scan ∧ s.converter.scan = some (lastChannel { readings with vWired := 4300, vCoil := 4299 }) ∧
      (lastChannel readings).next = 13) ∧
    ((monitor true false 0).fold.firstScan = true ∧ s.fold.firstScan = false ∧ s.fold.folded = false ∧
      s.fold.folded ≠ true ∧ s.foldDeb ≤ s.fold.count + 1 ∧
      (monitor false false 6).fold.count + 1 < (monitor false false 6).foldDeb) ∧
    ((attached .settling).selector.wired.state = .attached ∧ s.selector.wired.state = .detached ∧
      settling.selector.wired.state = .settling ∧ settling.selector.wired.settle < 2 ∧
      ({ settling.selector with wired := { state := .settling, settle := 2 } } : Selector).wired.settle = 2) ∧
    s.allocator.inFlight = none ∧ (allocating .bulk s).allocator.inFlight = some (allocation .bulk) := by decide +kernel

/-- The cases of a selection at a scan completion: what is selected and the phase, with what is wanted by the detection
records it leaves. -/
theorem test_witness_SelectionMade :
    let wanted := fun (x : Selector) => (selecting x).wantedSource
    let x := (attached .attached).selector
    (base.selector.phase = .none ∧ base.selector.selected = .none ∧ wanted base.selector = none) ∧
    wanted { x with selected := .none } = some .wired ∧
    wanted { base.selector with selected := .coil } = none ∧
    (wanted x = some .wired ∧ x.selected = sourceOf .wired) ∧
    (wanted { x with selected := .coil } = some .wired ∧ Source.coil ≠ sourceOf .wired) ∧
    wanted { base.selector with phase := .held, target := some .coil } = none ∧
    wanted { x with selected := .none, phase := .wait, target := some .coil } = some .wired ∧
    (selecting x).allocator.inFlight.isNone = true ∧
    (allocating .bulk (selecting { x with phase := .done })).allocator.inFlight.isNone = false := by decide +kernel

/-- An INTEGRATE is appended with no transaction of the counters' under way, with one that they await and with one they do
not. -/
theorem test_witness_GaugeWaits :
    base.arbiter.gaugeUnderWay = false ∧
    (underWay (.gauge (.full .a)) true).arbiter.gaugeUnderWay = true ∧
    (let s := scanning (underWay (.gauge (.full .a)) true) (lastChannel readings);
      (after (.scanConversionCompletion (.level 25) false) { s with gauge := [.full .a] }).arbiter.gauge = false) ∧
    (after (.scanConversionCompletion (.level 25) false)
      (scanning (underWay (.gauge (.full .a)) false) (lastChannel readings))).arbiter.gauge = true := by decide +kernel

/-- WSEL unlike the wired contract last used, and a FOLD trigger awaited at a fold change. -/
theorem test_witness_ContractFormed_FoldTrigger :
    ((base.writeWord 0x084 1).wsel = .w1 ∧ base.selector.lastPair = .w0) ∧
    (let s := scanning { awaiting .fold 3 2 with
        fold := { folded := false, count := 7, firstScan := false, line := false } } (lastChannel readings);
      s.fold.firstScan = false ∧ (after (.scanConversionCompletion (.level 25) true) s).fold.folded ≠ s.fold.folded ∧
        (after (.scanConversionCompletion (.level 25) true) s).seq.state = .convert) := by decide +kernel

theorem test_witness_ScanTripsAndAbsence :
    let s := scanning base (lastChannel readings)
    (s.converter.inFlight = .scan ∧ s.converter.scan = some (lastChannel readings) ∧ s.control.state ≠ .heat) ∧
    ((scanning (withCellA tripped) (lastChannel readings)).cell .a).charge = .tripped ∧
    ((s.cell .a).charge ≠ .tripped ∧ s.tripConditionOf hot .a = some .ot) ∧
    (let absent := { readings with vpinA := 1499 }; s.tripConditionOf absent .a = none ∧ absent.vpin .a < 1500) ∧
    ((s.cell .a).charge ≠ .absent ∧ (allocating .bulk s).allocator.inFlight = some (allocation .bulk)) ∧
    (let present := { readings with vpinA := 1500 }; s.tripConditionOf present .a = none ∧ 1500 ≤ present.vpin .a) := by
  decide +kernel

/-- The set-points and the termination counts at a scan completion: they stand; a positive set-point becomes 0 at a loss of
the selected source; both become 0 at an entry to HEAT. -/
theorem test_witness_SetPointsAtScan :
    let left := fun (s : State) => let t := after (.scanConversionCompletion (.level 25) false) s
      [t.cells.a.setPoint, t.cells.b.setPoint, t.cells.a.termCount, t.cells.b.termCount]
    left (sharing .none readings) = [500, -300, 7, 9] ∧ left (sharing .coil readings) = [0, -300, 7, 9] ∧
    left (sharing .none { readings with tDie := 135 }) = [0, 0, 7, 9] ∧
    left (sharing .coil { readings with vpinB := 1499 }) = [0, 0, 7, 0] ∧
    left (sharing .none { readings with vpinA := 4600 }) = [0, -300, 0, 9] := by decide +kernel

theorem test_witness_TripConditions :
    base.tripConditionOf { readings with vpinA := 4551 } .a = some .ov ∧
    base.tripConditionOf { readings with vpinA := 4550, iA := 5001 } .a = some .occ ∧
    base.tripConditionOf { readings with iA := -7501 } .a = some .ocd ∧ base.tripConditionOf hot .a = some .ot ∧
    base.tripConditionOf { readings with tA := 64 } .a = none ∧
    (base.writeWord 0x08D 8000).tripConditionOf { readings with iB := 6251 } .b = some .hinge := by decide +kernel

theorem test_witness_ScanBandsAndHeat :
    let s := scanning base (lastChannel { readings with tDie := 135 })
    (s.converter.inFlight = .scan ∧ s.control.state = .run ∧ s.control.startup = false ∧
      (135 : Int) ≤ { readings with tDie := 135 }.tDie) ∧
    { readings with tDie := 134 }.tDie < 135 ∧
    ((inState .shipEntry 1).control.state = .shipEntry ∧ (inState .shipEntry 1).control.state ≠ .heat) ∧
    (let h := scanning (quiet .heat .frozen) (lastChannel { readings with tDie := 115 });
      h.control.state = .heat ∧ { readings with tDie := 115 }.tDie ≤ 115 ∧ ¬ { readings with tDie := 116 }.tDie ≤ 115 ∧
        h.control.startup = false ∧ h.control.qreq = true ∧ h.seq.state = .frozen ∧
        (h.writeWord 0x0B2 1).qpolProbe = .stopEffective ∧ h.qpolProbe ≠ .stopEffective) ∧
    (let w := { inState .heat 0 with seq := (frozen .pause).seq }.writeWord 0x0B4 1;
      w.control.state = .heat ∧ w.control.qreq = false ∧ w.wakeFresh = 1 ∧ w.seq.state = .frozen ∧ w.seq.held = none ∧
        w.seq.kept ≠ .idle ∧ w.seq.kept ≠ .frozen) ∧
    (let q : Sequencer := { (frozen .fetch).seq with held := some .carryOut, item := some .endItem };
      q.state = .frozen ∧ q.held = some .carryOut ∧ q.item = some .endItem) ∧
    (let q : Sequencer := { (frozen .idle).seq with held := none, slot := some 0xFFC };
      q.state = .frozen ∧ q.held = none ∧ q.kept = .idle ∧ q.slot = some 0xFFC) := by decide +kernel

theorem test_witness_ProbeConversionSums :
    ((probing sampling false).converter.inFlight = .probe 3 false ∧ (probing sampling false).seq.effective = .convert ∧
      (probing sampling false).seq.item = some (.sample 3 2 .now 0x200) ∧ (probing sampling false).seq.discard = false ∧
      (probing sampling false).seq.taken + 1 < 2) ∧
    (probing { sampling with discard := true } false).seq.discard = true ∧
    (probing sampling true).converter.inFlight = .probe 3 true ∧
    ((probing { sampling with taken := 1 } false).seq.state = .convert ∧
      (probing { sampling with taken := 1 } false).seq.taken + 1 = 2) ∧
    (let s := probing { sampling with taken := 1, state := .frozen, kept := .convert } false;
      s.seq.state = .frozen ∧ s.seq.kept = .convert ∧ s.seq.effective = .convert ∧ s.seq.taken + 1 = 2) := by decide

/-- The three kinds of input of a thermistor channel, and a channel that has none (R28). -/
theorem test_witness_ChannelReads :
    reading 4 .thermistorOpen = some (-40) ∧ reading 13 .thermistorShorted = some 125 ∧
    reading 5 (.level 126) = some 125 ∧ reading 3 .thermistorOpen = none := by decide

theorem test_witness_GaugeIntegrates :
    (underWay (.gauge (.integrate 8000 (-8000) 32 true false)) true).memoryCanonical ∧
    (underWay (.gauge (.integrate 8000 (-8000) 32 true false)) true).arbiter.underWay =
      some (.gauge (.integrate 8000 (-8000) 32 true false)) ∧ (35999 : Nat) < 36000 :=
  ⟨rfl, rfl, by decide⟩

/-- An allocation counts the INTEGRATEs ahead of its own, and takes its counter point at its own: the flat pair of a STOPPED
channel A, and of a channel B that follows it. -/
theorem test_witness_CounterPointTaken :
    let al := { allocation .bulk with counter := none }
    let s := fun (n : Nat) => { underWay (.gauge (.integrate 0 0 4 false false)) true with
      channels := { base.channels with b := { base.channels.b with state := .following } }
      allocator := { base.allocator with inFlight := some { al with integratesAhead := n } } }
    let counter := fun (n : Nat) => (after .gaugeIntegrate (s n)).allocator.inFlight.map fun x =>
      (x.integratesAhead, x.counter.map CounterPoint.output)
    let flat : Output := { ceiling := 1000, vcap := 4400 }
    counter 2 = some (1, none) ∧ counter 1 = some (0, some { a := flat, b := flat }) := by decide +kernel

theorem test_witness_BatchesStepTheChannel :
    ((runningChannel 2 1).state = .running ∧ 1 < (runningChannel 2 1).quantaLeft) ∧
    ((runningChannel 1 2).quantaLeft ≤ 1 ∧ 1 < (runningChannel 1 2).stepsLeft) ∧
    ((runningChannel 1 1).stepsLeft ≤ 1 ∧ ({ runningChannel 1 1 with endMark := true } : Channel).endMark = true ∧
      (runningChannel 1 1).endMark = false ∧ (runningChannel 1 1).stagedValid = false ∧
      ({ runningChannel 1 1 with stagedValid := true } : Channel).stagedValid = true) ∧
    ({ runningChannel 1 1 with state := .starved, starvedCount := 65535 } : Channel).starvedCount ≤ 65535 ∧
    ((base.channel .a).state ≠ .running ∧ (base.channel .a).state ≠ .starved) ∧
    (let s : State := { underWay (.gauge (.integrate 8000 0 32 false true)) true with
        channels := (withChannelA (runningChannel 8 1)).channels };
      s.arbiter.awaited = true ∧ (s.channel .a).state = .running ∧ 0 < quantaOf (s.f .a) 8000 32 ∧
        quantaOf (s.f .a) 8000 32 < (s.channel .a).quantaLeft) ∧
    (let s : State := { underWay (.gauge (.integrate 0 8000 32 true false)) true with
        channels := { base.channels with b := runningChannel 8 1 } };
      (s.channel .b).state = .running ∧ 0 < quantaOf (s.f .b) 8000 32 ∧
        quantaOf (s.f .b) 8000 32 < (s.channel .b).quantaLeft) ∧
    (underWay (.gauge (.integrate 0 0 4 false false)) false).arbiter.awaited = false := by decide +kernel

/-- The three cases of the fetch after a swap: the table ended, the next record within it, and the overrun. -/
theorem test_witness_NextFetch :
    let g := segmentOf 0x100 [0xFFFF, 0, 1, 1, 4400, 0]
    (g.last = false ∧ g.steps ≠ 0 ∧ ({ runningChannel 1 1 with nextIndex := 0xFFA } : Channel).nextIndex ≤ 0xFFA ∧
      0xFFA < ({ runningChannel 1 1 with nextIndex := 0xFFB } : Channel).nextIndex) ∧
    (segmentOf 0x100 [0, 0, 1, 1, 4400, 1]).last = true ∧ (segmentOf 0x100 [0, 0, 1, 0, 4400, 0]).steps = 0 := by decide

theorem test_witness_GaugeCalibrates :
    (underWay (.gauge (.full .a)) true).memoryCanonical ∧
    (underWay (.gauge (.full .a)) true).arbiter.underWay = some (.gauge (.full .a)) ∧
    (underWay (.gauge (.preset .b)) false).memoryCanonical ∧
    (underWay (.gauge (.preset .b)) false).arbiter.underWay = some (.gauge (.preset .b)) :=
  ⟨rfl, rfl, rfl, rfl⟩

theorem test_witness_AllocationCompletes :
    ((allocating .bulk base).allocator.inFlight = some (allocation .bulk) ∧ (allocation .bulk).counter.isSome = true) ∧
    ((allocating .bulk (withCellA tripped)).cell .a).charge = .tripped ∧
    (let s := allocating .bulk (withCellA { idleCell Reset.thresholdsA with charge := .absent });
      (s.cell .a).charge = .absent ∧ (allocation .bulk).becameAbsent.a = true) ∧
    ((allocating .tripped base).cell .a).charge = .idle ∧ (allocation .tripped).released.a = true ∧
    ((allocating .bulk base).cell .b).charge = .idle ∧ (allocation .bulk).released.b = false ∧
    (let held : Holds := { noHolds with window := true };
      held.hasBeyond ((allocation .bulk).snap.cells.get .b).holds = true) ∧
    ((base.cell .b).holds.hasBeyond ((allocation .bulk).snap.cells.get .b).holds = false ∧
      (base.cell .b).pathOpen = false ∧ (allocation .bulk).sourceLost = true ∧ 0 ≤ (base.cell .b).setPoint) ∧
    (resting 2).transfer.state = .rest ∧ base.control.state ≠ .quiet ∧ (quiet .quiet .fetch).control.state = .quiet ∧
    (quiet .quiet .fetch).readWord 0x0B3 = 0 ∧ ((quiet .quiet .fetch).writeWord 0x0B3 1).readWord 0x0B3 = 1 := by
  decide +kernel

/-- A cell that terminates takes FULL, and its FULL entry is appended. -/
theorem test_witness_TakesFull :
    let s := { base with allocator := { base.allocator with inFlight := some ending } }
    (s.cell .a).charge = .idle ∧ (after .allocationCompletion s).cells.a.charge = .full ∧
    (after .allocationCompletion s).notices.sticky.fullA = true ∧
    (after .allocationCompletion s).gauge = [.full .a] := by decide +kernel

/-- The shortfall test holds with the flag clear, which raises SHORTFALL, and with the flag set, which does not; where no
cell terminates the gauge list stands. -/
theorem test_witness_Shortfall :
    (let t := after .allocationCompletion (overloaded false);
      t.allocator.shortfall = true ∧ t.notices.sticky.shortfall = true) ∧
    (let t := after .allocationCompletion (overloaded true);
      t.allocator.shortfall = true ∧ t.notices.sticky.shortfall = false) ∧
    (after .allocationCompletion (allocating .bulk base)).gauge = [] := by decide +kernel

/-- The start test of the transfer converter holds on a gap of 200, and the stop conditions of the continue test one by
one, with the receiver at its Vlim of 4450 mV and just below it. -/
theorem test_witness_TransferFollows :
    let receiving := fun (vB : Nat) => (after .allocationCompletion (balancingAt vB .runAB 700 0x0A7 1)).transfer
    let after := fun (st : TransferState) (sA : Nat) (setting : Nat) (v : Word) =>
      (after .allocationCompletion (balancing st sA setting v)).transfer
    ((after .off 700 0x0A7 1).state = .runAB ∧ (after .off 700 0x0A7 1).current = 800) ∧
    (after .off 300 0x0A7 1).state = .runBA ∧ (after .off 500 0x0A7 1).state = .off ∧
    (after .runAB 500 0x0A7 1).stopCause = .reversed ∧ (after .runAB 700 0x0A7 0).stopCause = .ineligible ∧
    (after .runAB 512 0x0A7 1).stopCause = .balanced ∧ (after .runAB 513 0x0A7 1).stopCause = .lowCurrent ∧
    ((receiving 4450).stopCause = .receiverLimit ∧ (receiving 4450).state = .rest ∧
      (receiving 4449).state = .runAB) ∧
    ((after .runAB 525 0x0A7 1).state = .runAB ∧ (after .runAB 525 0x0A7 1).current = 100) := by decide +kernel

/-- R40 and the table of R46: CAP_x lowered after the counter point leaves Q above Cap_q, and the state of charge reads
1024. -/
theorem test_capacityLoweredAfterTheCounterPoint :
    (after .allocationCompletion ((allocating .bulk base).writeWord 0x08A 1000)).allocator.published.cells.a.s = 1024 ∧
    (after .allocationCompletion (allocating .bulk base)).allocator.published.cells.a.s = 500 := by decide +kernel

/-- Vcell at each side of the tests of R1. -/
theorem test_witness_ChargeStateTests :
    let found := fun (x : CellSnapshot) (pIn : Nat) (pAvail : Int) =>
      (ceilingStage x { ceiling := 3000, vcap := 4450 } .a false pIn pAvail ceilingDefaults).found
    let x := cellInBand 3 256 3600 .bulk 3000
    found { x with charge := .tripped } 9000 9000 = .tripped ∧ found { x with vpin := 1499 } 9000 9000 = .absent ∧
    found { x with vpin := 1500, holds := { noHolds with quiet := true } } 9000 9000 = .held ∧
    found { x with charge := .full, vcell := 4350 } 9000 9000 = .full ∧
    found { x with charge := .full, vcell := 4349 } 9000 9000 = .bulk ∧ found x 0 9000 = .idle ∧ found x 9000 0 = .idle ∧
    found { x with vcell := 2999 } 9000 1 = .precharge ∧ found { x with vcell := 3000 } 9000 1 = .bulk ∧
    found { x with vcell := 4450 } 9000 1 = .taper ∧
    found { x with vcell := 4450, tp := 80, termCount := 63 } 9000 1 = .full := by decide

theorem test_witness_RefreshWritesItsBlock :
    Memory.wf [] = true ∧ isChargeWord 0x01F = false ∧ (0x07F : Nat) / 32 = 3 ∧
    busy.arbiter.underWay = some (.refresh 0) := by decide

def fetching (st : ChannelState) (ignore : Bool) : State :=
  { underWay (.fetch .a 0x100 [1000, 0, 1, 1, 4400, 1]) true with
    channels := { base.channels with a := { Reset.channel 0x100 with state := st, ignore := ignore } } }

theorem test_witness_ProfileFetchCompletes :
    ((fetching .running false).arbiter.underWay = some (.fetch .a 0x100 [1000, 0, 1, 1, 4400, 1]) ∧
      (fetching .running false).arbiter.awaited = true) ∧
    ({ fetching .stopped false with arbiter := { (fetching .stopped false).arbiter with awaited := false } } :
      State).arbiter.awaited = false ∧
    ((fetching .stopped true).channel .a).ignore = true ∧ ((fetching .running false).channel .a).ignore = false ∧
    ((fetching .starting false).channel .a).state = .starting ∧ ((fetching .starved false).channel .a).state = .starved ∧
    ((fetching .running false).channel .a).state = .running ∧
    ((fetching .following false).channel .a).state = .following := by decide

def seqTransaction (t : Transaction) (st : SeqState) (awaited : Bool) : State :=
  { underWay t awaited with seq := { Reset.sequencer with state := st, current := some 0x100 } }

theorem test_witness_ItemFetchCompletes :
    let s := seqTransaction (.seqFetch 0x100 [0, 0, 0, 0]) .fetch true
    (s.arbiter.underWay = some (.seqFetch 0x100 [0, 0, 0, 0]) ∧ s.arbiter.awaited = true ∧ s.seq.state ≠ .frozen) ∧
    (seqTransaction (.seqFetch 0x100 [0, 0, 0, 0]) .frozen true).seq.state = .frozen ∧
    (seqTransaction (.seqFetch 0x100 [0, 0, 0, 0]) .idle false).arbiter.awaited = false := by decide

theorem test_witness_SeqWriteCompletes :
    let s := seqTransaction (.seqWrite 0x200 9) .write true
    (s.arbiter.underWay = some (.seqWrite 0x200 9) ∧ s.arbiter.awaited = true ∧ s.seq.state ≠ .frozen) ∧
    (seqTransaction (.seqWrite 0x200 9) .frozen true).seq.state = .frozen ∧
    (seqTransaction (.seqWrite 0x200 9) .idle false).arbiter.awaited = false := by decide

/-- A state with the converter busy and the requests of an arbiter. -/
def requesting (ar : Arbiter) : State :=
  { withOps busy [.run (readRun .waiting)] with
    arbiter := ar, gauge := [.full .a], refresh := { Reset.refresh with marks := [false, true, false, true] } }

theorem test_witness_ArbiterGrantsInOrder :
    busy.converter.inFlight ≠ .none ∧ busy.arbiter.underWay.isSome = true ∧
    (let s := requesting { Reset.arbiter with gauge := true };
      s.arbiter.underWay = none ∧ s.arbiter.gauge = true ∧ s.gauge = .full .a :: []) ∧
    (let s := requesting { Reset.arbiter with fetch := { a := some 0x100, b := some 0xFFA } };
      s.arbiter.gauge = false ∧ s.arbiter.fetch.a = some 0x100) ∧
    (let s := requesting { Reset.arbiter with fetch := { a := none, b := some 0xFFA } };
      s.arbiter.fetch.a = none ∧ s.arbiter.fetch.b = some 0xFFA) ∧
    (let s := requesting { Reset.arbiter with link := true };
      s.arbiter.fetch.b = none ∧ s.arbiter.link = true ∧ s.port.ops = [] ++ .run (readRun .waiting) :: []) ∧
    (let s := withOps (requesting { Reset.arbiter with link := true }) [.run (readRun .done), .run (readRun .waiting)];
      s.port.ops = [.run (readRun .done)] ++ .run (readRun .waiting) :: [] ∧ (readRun .done).phase = .done ∧
        (readRun .waiting).phase = .waiting ∧ (readRun .waiting).dir = .read) ∧
    (let s := requesting { Reset.arbiter with seqFetch := some 0xFFC };
      s.arbiter.link = false ∧ s.arbiter.seqFetch = some 0xFFC) ∧
    (let s := requesting { Reset.arbiter with seqWrite := some (0x080, 1) };
      s.arbiter.seqFetch = none ∧ s.arbiter.seqWrite = some (0x080, 1)) ∧
    (let s := requesting { Reset.arbiter with refresh := true };
      s.arbiter.seqWrite = none ∧ s.arbiter.refresh = true ∧ lowestMark s.refresh.marks = some 1) ∧
    (requesting Reset.arbiter).arbiter.refresh = false := by decide

/-- A state with the arbiter busy. -/
def converting (scanPending probePending : Nat) (q : Sequencer) : State :=
  { busy with
    seq := q
    converter := { busy.converter with inFlight := .none, scanPending := scanPending, probePending := probePending } }

theorem test_witness_ConverterGrantsScanFirst :
    (busy.arbiter.underWay.isSome = true ∧ busy.converter.inFlight ≠ .none) ∧
    (let s := converting 1 16 sampling;
      s.arbiter.underWay.isSome = true ∧ s.converter.inFlight = .none ∧ 0 < s.converter.scanPending) ∧
    (let s := converting 0 1 sampling;
      s.converter.scanPending = 0 ∧ 0 < s.converter.probePending ∧ s.seq.state ≠ .frozen) ∧
    (let s := converting 0 1 { sampling with state := .frozen };
      s.converter.scanPending = 0 ∧ s.seq.state = .frozen) := by decide

theorem test_witness_PlainLookup :
    (let u : List Int := [0, 10, 20, 38, 45, 50, 58, 125];
      (∃ j, j < 8 ∧ (125 : Int) ≤ u.getD j 0) ∧ ∀ j, j < 8 → u.getD j 0 < 126) := by decide

/-- P_avail above 0, at 0 and below 0, by the load. -/
theorem test_witness_ShareStaysWithinLimits :
    let pAvail := fun (vSys : Nat) => availablePower
      (snapshotOf vSys 1000 (cellInBand 3 256 3800 .idle 0) (cellInBand 3 256 3700 .idle 0) .coil)
      { vC := 5000, iC := 1000, convGain := 236 }
    0 < pAvail 4608 ∧ pAvail 4609 = 0 ∧ pAvail 4610 < 0 := by decide

/-- Both sides of the window of band 3, and the bands with one bound alone. -/
theorem test_witness_BandWindow :
    let u : List Int := [0, 10, 20, 38, 45, 50, 58, 125]
    inBandWindow u 3 19 = true ∧ inBandWindow u 3 40 = true ∧ inBandWindow u 3 18 = false ∧
    inBandWindow u 3 41 = false ∧ inBandWindow u 0 (-40) = true ∧ inBandWindow u 7 140 = true := by decide

end Sys2Proof.Tests
end

section
/-! PROOFS. What a step keeps, packaged once: an invariant that the effects of the commands and events keep, and that
does not see the operations the port holds, is kept by every step. -/

namespace Sys2Proof.Machine

/-- The effects of register writes and of the commands of CMD keep P (R174, R175). -/
structure CommandsKeep (P : State → Prop) : Prop where
  soft : ∀ s, P s → P s.softReset
  skipItem : ∀ s, P s → P s.skipItem
  skipList : ∀ s, P s → P s.skipList
  ship : ∀ s, P s → P s.ship
  release : ∀ s c, P s → P (s.release c)
  start : ∀ s c, P s → P (s.profileStart c)
  stop : ∀ s c, P s → P (s.profileStop c)
  clear : ∀ s, P s → P s.clearWindow
  preset : ∀ s c, P s → P (s.appendPreset c)
  next : ∀ s v, P s → P (s.writeNext v)
  note : ∀ s n, P s → P (s.clearCause n)
  mask : ∀ s w, P s → P (s.writeMask w)

theorem CommandsKeep.command {P : State → Prop} (k : CommandsKeep P) {s : State} (h : P s) (c : Command) :
    P (s.command c) := by
  cases c with
  | softReset => exact k.soft s h
  | skipItem => exact k.skipItem s h
  | skipList => exact k.skipList s h
  | ship => exact k.ship s h
  | release c => exact k.release s c h
  | profileStart c => exact k.start s c h
  | profileStop c => exact k.stop s c h
  | clearWindow => exact k.clear s h
  | preset c => exact k.preset s c h

theorem CommandsKeep.writeRegister {P : State → Prop} (k : CommandsKeep P) {s : State} (h : P s) (r : LinkRegister)
    (w : Word) : P (s.writeRegister r w) := by
  cases r with
  | id => exact h
  | next => exact k.next s w h
  | done => exact h
  | note => exact k.note s _ h
  | mask => exact k.mask s w h
  | cmd =>
    show P (s.writeCommand w)
    unfold State.writeCommand
    split
    · exact k.command h _
    · exact h

/-- The effects of every command and event, the grants and the moves at the port keep P. -/
structure StepKeeps (P : State → Prop) : Prop extends CommandsKeep P where
  queue : ∀ s q, P s → P (s.withPending q)
  settle : ∀ s, P s → P s.settle
  port : ∀ s p, p.serving = s.port.serving → P s → P (s.setPort p)
  endTransaction : ∀ s, P s → P s.endTransaction
  requestLink : ∀ s, P s → P s.requestLink
  readDone : ∀ s, P s → P s.readDone.2
  por : ∀ s, P s → P s.powerOnReset
  begins : ∀ s, s.startupDue = true → P s → P s.beginStartup
  slot : ∀ s, P s → P s.startupSlot
  rise : ∀ s, P s → P s.qreqRises
  fall : ∀ s, P s → P s.qreqFalls
  fast : ∀ s, s.control.fastArmed = true → ∀ c x, P s → P (s.fastEvent c x)
  collapse : ∀ s i, P s → P (s.collapseEvent i)
  wake : ∀ s, s.wakeCanArrive = true → ∀ i, P s → P (s.attachWake i)
  shipSlot : ∀ s, s.control.state = .shipEntry → P s → P s.shipSlotExpires
  period : ∀ s, s.timer.running = true → P s → P s.periodExpires
  scan : ∀ s x b, P s → P (s.scanConverted x b)
  probe : ∀ s x, P s → P (s.probeConverted x)
  gauge : ∀ s e, P s → P (s.gaugeCompleted e)
  alloc : ∀ s, s.allocationReady = true → P s → P s.completeAllocation
  waitRefresh : ∀ s, P s → P s.waitRefresh
  fetch : ∀ s c i ws, P s → P (s.profileFetchCompleted c i ws)
  item : ∀ s ws, P s → P (s.itemFetchCompleted ws)
  written : ∀ s, P s → P s.seqWriteCompleted

section Port

variable {P : State → Prop} (k : StepKeeps P) {s : State} (h : P s)
include k h

theorem StepKeeps.setOps (ops : List PortOp) : P (s.setOps ops) := k.port s { s.port with ops := ops } rfl h

theorem StepKeeps.setFrame (f : FramePhase) : P (s.setFrame f) := k.port s { s.port with frame := f } rfl h

theorem StepKeeps.shiftOut (w : Word) : P (s.shiftOut w) :=
  k.port s { s.port with shifted := s.port.shifted ++ [w] } rfl h

theorem StepKeeps.requestReadRun (i : Nat) : P (s.requestReadRun i) := by
  unfold State.requestReadRun
  split
  · exact k.setOps h _
  · exact h

theorem StepKeeps.writeAt (a w : Word) : P (s.writeAt a w) := by
  unfold State.writeAt
  split
  · unfold State.receiveWord
    split
    · exact k.setOps h _
    · split
      · exact k.setOps h _
      · exact h
  · unfold State.receiveRegister
    split
    · exact h
    · split
      · exact k.writeRegister h _ _
      · split
        · exact h
        · exact k.setOps h _
  · exact h

theorem StepKeeps.ensureRun (i : Nat) : P (s.ensureRun i) := by
  unfold State.ensureRun
  split
  · exact h
  · exact k.requestReadRun h i

theorem StepKeeps.readArea (i : Nat) : P (s.readArea i).2 := by
  have h1 := k.ensureRun h i
  unfold State.readArea
  dsimp only
  split
  · have h2 := fun j => k.ensureRun h1 j
    unfold State.readFromRun
    dsimp only
    split
    · exact k.setOps (h2 _) _
    · exact h2 _
  · exact h1

theorem StepKeeps.readRegister (r : LinkRegister) : P (s.readRegister r).2 := by
  cases r with
  | done => exact k.readDone s h
  | id | next | note | mask | cmd => exact h

theorem StepKeeps.readAt (a : Word) : P (s.readAt a).2 := by
  unfold State.readAt
  split
  · exact k.readArea h _
  · split
    · exact k.readRegister h _
    · exact h
  · exact h

theorem StepKeeps.frameEvent (e : FrameEvent) : P (s.frameEvent e) := by
  unfold State.frameEvent
  split
  · exact k.port s { s.port with frame := .control, shifted := [] } rfl h
  · exact k.setFrame h _
  · unfold State.takeAddress
    dsimp only
    split
    · exact k.requestReadRun (k.setFrame h _) _
    · exact k.setFrame h _
  · exact k.writeAt (k.setFrame h _) _ _
  · exact k.shiftOut (k.readAt (k.setFrame h _) _) _
  · exact h
  · exact k.setOps (k.setFrame h _) _
  · exact h

theorem StepKeeps.busEvent (e : FrameEvent) : P (s.busEvent e) := by
  unfold State.busEvent
  split
  · exact k.settle _ (k.requestLink _ (k.frameEvent h e))
  · exact h

theorem StepKeeps.actHeld : P s.actHeld := by
  unfold State.actHeld
  split
  · exact k.writeRegister (k.setOps h _) _ _
  · exact h

theorem StepKeeps.linkCompleted : P s.linkCompleted :=
  k.settle _ (k.requestLink _ (k.actHeld (k.endTransaction _ (k.setOps h _))))

theorem StepKeeps.after (c : Instr) : P (s.after c) :=
  State.after_induction P s h (fun t => k.settle t) (k.por s h) (fun d => k.begins s d h) (k.slot s h)
    (fun l => State.busEvents_induction P (fun _ e ht => k.busEvent ht e) l s h) (fun _ => k.linkCompleted h)
    (fun v => k.next s v h) (k.shiftOut (k.readDone s h) _) (fun n => k.note s n h) (fun w => k.mask s w h)
    (k.soft s h) (k.skipItem s h) (k.skipList s h) (k.ship s h) (fun c => k.release s c h) (fun c => k.start s c h)
    (fun c => k.stop s c h) (k.clear s h) (fun c => k.preset s c h) (k.rise s h) (k.fall s h)
    (fun a c x => k.fast s a c x h) (fun i => k.collapse s i h) (fun a i => k.wake s a i h)
    (fun a => k.shipSlot s a h) (fun a => k.period s a h) (fun x b => k.scan s x b h) (fun x => k.probe s x h)
    (fun e _ => k.gauge s e h) (fun a => k.alloc s a h) (fun _ _ => k.waitRefresh _ (k.endTransaction _ h))
    (fun c i ws _ => k.fetch s c i ws h) (fun _ ws _ => k.item s ws h) (fun _ _ _ => k.written s h) c

end Port

/-- An invariant that every effect keeps, every step keeps. -/
theorem StepKeeps.step {P : State → Prop} (k : StepKeeps P) {s t : State} (hs : step s = .next t) (h : P s) : P t :=
  step_keeps P k.queue (fun c _ hc => k.after hc c) hs h

end Sys2Proof.Machine
end

section
/-! PROOFS. What the grants, the sequencer and the profile channels leave of the converter, the allocator and the port. -/

namespace Sys2Proof.Machine

/-! ### The scan at the converter -/

/-- What the converter holds of the control scan, which neither a grant nor a probe conversion touches (2.2, R25, R30). -/
structure Converter.ScanView where
  scan : Option ScanRecord
  latest : Option ScanRecord
  lateCount : Nat

def Converter.scanView (x : Converter) : Converter.ScanView :=
  { scan := x.scan, latest := x.latest, lateCount := x.lateCount }

@[simp] theorem State.scanView_beginConverting (s : State) : s.beginConverting.converter.scanView = s.converter.scanView := by
  unfold State.beginConverting
  split
  · split
    · rfl
    · simp
  · rfl

@[simp] theorem State.scanView_takeTrigger (s : State) (g : Trigger) :
    (s.takeTrigger g).converter.scanView = s.converter.scanView := by
  unfold State.takeTrigger
  split
  · split
    · simp
    · rfl
  · rfl

@[simp] theorem State.scanView_carryOut (s : State) (x : Item) :
    (s.carryOut x).converter.scanView = s.converter.scanView := by
  unfold State.carryOut
  cases x with
  | sample ch count g target => cases g <;> simp
  | _ => dsimp only; (repeat' split) <;> simp

@[simp] theorem State.scanView_itemFetched (s : State) (x : Item) :
    (s.itemFetched x).converter.scanView = s.converter.scanView := by
  unfold State.itemFetched
  dsimp only
  split <;> simp

@[simp] theorem State.scanView_thaw (s : State) : s.thaw.converter.scanView = s.converter.scanView := by
  unfold State.thaw
  dsimp only
  (repeat' split) <;> simp

@[simp] theorem State.scanView_cancelSample (s : State) : s.cancelSample.converter.scanView = s.converter.scanView := rfl

@[simp] theorem State.scanView_skipItem (s : State) : s.skipItem.converter.scanView = s.converter.scanView := by
  unfold State.skipItem
  dsimp only
  split <;> simp

@[simp] theorem State.scanView_skipList (s : State) : s.skipList.converter.scanView = s.converter.scanView := by
  unfold State.skipList
  dsimp only
  (repeat' split) <;> simp

@[simp] theorem State.scanView_dropProbes (s : State) : s.dropProbes.converter.scanView = s.converter.scanView := rfl

@[simp] theorem State.scanView_resetSeq (s : State) (st kept : SeqState) :
    (s.resetSeq st kept).converter.scanView = s.converter.scanView := by simp [State.resetSeq]

@[simp] theorem State.scanView_stopSeqForShip (s : State) :
    s.stopSeqForShip.converter.scanView = s.converter.scanView := by simp [State.stopSeqForShip]

@[simp] theorem State.scanView_swap (s : State) (c : CellId) (g : Segment) :
    (s.swap c g).converter.scanView = s.converter.scanView := by simp [State.swap]

@[simp] theorem State.scanView_segmentEnd (s : State) (c : CellId) :
    (s.segmentEnd c).converter.scanView = s.converter.scanView := by
  unfold State.segmentEnd
  dsimp only
  (repeat' split) <;> simp

@[simp] theorem State.scanView_stepQuantum (s : State) (c : CellId) :
    (s.stepQuantum c).converter.scanView = s.converter.scanView := by
  unfold State.stepQuantum
  dsimp only
  (repeat' split) <;> simp

@[simp] theorem State.scanView_takeQuantum (s : State) (c : CellId) :
    (s.takeQuantum c).converter.scanView = s.converter.scanView := by
  unfold State.takeQuantum
  dsimp only
  split <;> simp

@[simp] theorem State.scanView_takeBatch (s : State) (c : CellId) (k : Nat) :
    (s.takeBatch c k).converter.scanView = s.converter.scanView := by
  induction k generalizing s with
  | zero => rfl
  | succ k ih => simp [State.takeBatch, ih]

@[simp] theorem State.scanView_fetchCompleted (s : State) (c : CellId) (i : Nat) (ws : List Word) :
    (s.fetchCompleted c i ws).converter.scanView = s.converter.scanView := by
  unfold State.fetchCompleted
  dsimp only
  (repeat' split) <;> simp

@[simp] theorem State.scanView_profileFetchCompleted (s : State) (c : CellId) (i : Nat) (ws : List Word) :
    (s.profileFetchCompleted c i ws).converter.scanView = s.converter.scanView := by
  unfold State.profileFetchCompleted
  split <;> simp

@[simp] theorem State.scanView_handBatches (s : State) (i j : Nat) :
    (s.handBatches i j).converter.scanView = s.converter.scanView := by simp [State.handBatches]

@[simp] theorem State.scanView_gaugeAwaited (s : State) (e : GaugeEntry) (i j : Nat) :
    (s.gaugeAwaited e i j).converter.scanView = s.converter.scanView := by
  unfold State.gaugeAwaited
  dsimp only
  split <;> simp

@[simp] theorem State.scanView_wake (s : State) (b : Bool) : (s.wake b).converter.scanView = s.converter.scanView := by
  unfold State.wake
  dsimp only
  split <;> simp

@[simp] theorem State.scanView_exitHeat (s : State) : s.exitHeat.converter.scanView = s.converter.scanView := by
  unfold State.exitHeat
  dsimp only
  split <;> simp

@[simp] theorem State.scanView_testHeat (s : State) (t : Int) :
    (s.testHeat t).converter.scanView = s.converter.scanView := by
  unfold State.testHeat
  (repeat' split) <;> simp

@[simp] theorem State.scanView_triggerAndHeat (s : State) (b : Bool) (t : Int) :
    (s.triggerAndHeat b t).converter.scanView = s.converter.scanView := by
  unfold State.triggerAndHeat
  (repeat' split) <;> simp

@[simp] theorem State.scanView_endConversion (s : State) :
    s.endConversion.converter.scanView = s.converter.scanView := rfl

@[simp] theorem State.scanView_convert (s : State) : s.convert.converter.scanView = s.converter.scanView := by
  unfold State.convert
  dsimp only
  (repeat' split) <;> rfl

@[simp] theorem State.scanView_settle (s : State) : s.settle.converter.scanView = s.converter.scanView := by
  simp [State.settle]

@[simp] theorem State.scanView_gaugeCompleted (s : State) (e : GaugeEntry) :
    (s.gaugeCompleted e).converter.scanView = s.converter.scanView := by
  unfold State.gaugeCompleted
  dsimp only
  split <;> simp

@[simp] theorem State.scanView_probeConverted (s : State) (x : Analog) :
    (s.probeConverted x).converter.scanView = s.converter.scanView := by
  unfold State.probeConverted
  split
  · split
    · split <;> simp
    · rfl
  · rfl

@[simp] theorem State.scanView_qreqFalls (s : State) : s.qreqFalls.converter.scanView = s.converter.scanView := by
  unfold State.qreqFalls
  dsimp only
  (repeat' split) <;> simp

/-! ### The allocation in flight at a grant -/

/-- The allocator after stages of its allocation have been worked: nothing but what that has read of the settings page
differs (R86). -/
def Allocator.workedInto (x y : Allocator) : Prop :=
  ∃ f : Allocation → Allocation, y = { x with inFlight := x.inFlight.map f } ∧
    ∀ al, (f al).snap = al.snap ∧ (f al).released = al.released ∧ (f al).becameAbsent = al.becameAbsent

theorem Allocator.workedInto_refl (x : Allocator) : x.workedInto x := ⟨id, by simp, fun _ => ⟨rfl, rfl, rfl⟩⟩

theorem Allocator.workedInto_of_eq {x y : Allocator} (h : y = x) : x.workedInto y := h ▸ x.workedInto_refl

theorem Allocator.workedInto_none {x y : Allocator} (h : x.workedInto y) (none : x.inFlight = none) :
    y.inFlight = Option.none := by
  obtain ⟨f, rfl, -⟩ := h
  simp [none]

theorem State.workStages_worked (s : State) (n : Nat) (early : Bool) :
    s.allocator.workedInto (s.workStages n early).allocator := by
  unfold State.workStages
  split
  · exact Allocator.workedInto_refl _
  · rename_i al hal
    exact ⟨fun al => al.work s n early, by simp [hal], fun _ => ⟨rfl, rfl, rfl⟩⟩

theorem State.workFreely_worked (s : State) : s.allocator.workedInto s.workFreely.allocator := by
  unfold State.workFreely
  split
  · exact Allocator.workedInto_refl _
  · exact s.workStages_worked _ _

theorem State.grantLink_worked (s : State) : s.allocator.workedInto s.grantLink.allocator := by
  unfold State.grantLink
  split
  · exact Allocator.workedInto_refl _
  · dsimp only
    split
    · exact Allocator.workedInto_refl _
    · rename_i ops r _ _ _
      exact ((s.setPort { s.port with ops := ops }).beginTransaction { s.arbiter with link := false }
        (.link r.dir)).workFreely_worked

theorem State.grantSeqWrite_worked (s : State) (i : Nat) (v : Word) :
    s.allocator.workedInto (s.grantSeqWrite i v).allocator := by
  have worked := (s.beginTransaction { s.arbiter with seqWrite := none } (.seqWrite i v)).workFreely_worked
  unfold State.grantSeqWrite
  dsimp only
  split
  · exact worked
  · exact worked

theorem State.grantFirst_worked (s : State) : s.allocator.workedInto s.grantFirst.allocator := by
  unfold State.grantFirst
  dsimp only
  split
  · exact Allocator.workedInto_of_eq (by simp)
  · split
    · exact Allocator.workedInto_of_eq (by simp)
    · exact Allocator.workedInto_of_eq (by simp)
    · split
      · exact s.grantLink_worked
      · split
        · exact Allocator.workedInto_of_eq (by simp)
        · exact s.grantSeqWrite_worked _ _
        · split
          · exact Allocator.workedInto_of_eq (by simp)
          · exact Allocator.workedInto_refl _

/-- Both grants do no more to the allocator than to have stages worked (R86, R170). -/
theorem State.settle_worked (s : State) : s.allocator.workedInto s.settle.allocator := by
  unfold State.settle State.arbitrate
  split
  · exact Allocator.workedInto_of_eq (by simp)
  · simpa using s.convert.grantFirst_worked

/-! ### The port at a grant -/

@[simp] theorem State.grantLink_serving (s : State) : s.grantLink.port.serving = s.port.serving := by
  unfold State.grantLink
  split
  · rfl
  · dsimp only
    split <;> simp

@[simp] theorem State.grantFirst_serving (s : State) : s.grantFirst.port.serving = s.port.serving := by
  unfold State.grantFirst
  dsimp only
  (repeat' split) <;> simp

@[simp] theorem State.settle_serving (s : State) : s.settle.port.serving = s.port.serving := by
  unfold State.settle State.arbitrate
  split <;> simp

end Sys2Proof.Machine
end

section
/-! PROOFS. What the share computation gives a cell by the state it finds, and the cases of R6. -/

namespace Sys2Proof.Machine

/-! ### The state found, and the set-point a cell is given -/

/-- Only a cell snapped as TRIPPED is found TRIPPED (R1). -/
theorem chargeTest_eq_tripped {x : CellSnapshot} {vlim pIn : Nat} {pAvail : Int} {rd : CeilingRead}
    (h : chargeTest x vlim pIn pAvail rd = some .tripped) : x.charge = .tripped := by
  unfold chargeTest at h
  split at h
  · assumption
  · (repeat' split at h) <;> simp at h

/-- The states a cell is charged in. -/
def ChargeState.charges (st : ChargeState) : Bool := st == .precharge || st.sharesRemainder

/-- Tp of a charging cell after the taper step (R2, R94), for its ceiling and voltage limit. -/
def taperOf (x : CellSnapshot) (rd : CeilingRead) (e vlim : Nat) : Nat :=
  taperStep (if x.charge.keepsTaper then if x.renewal then e else x.tp else e) e x.vcell vlim rd.taperMin rd.taperHyst

/-- The termination count of a charging cell whose Tp is tp: it goes on in TAPER at or below ITERM (R2). -/
def countOf (x : CellSnapshot) (rd : CeilingRead) (e tp : Nat) : Nat :=
  if tp < e ∧ tp ≤ rd.iterm then x.termCount + 1 else 0

/-- The charge of a charging cell ends: its count reaches TERM_COUNT (R2). -/
def chargeEnds (x : CellSnapshot) (rd : CeilingRead) (e tp : Nat) : Prop :=
  tp < e ∧ tp ≤ rd.iterm ∧ rd.termCount ≤ countOf x rd e tp

/-- A cell that is not charging has the state of the first test that holds (R1), its Tp carried or renewed, and G but in
PRECHARGE 0 (R95). -/
theorem ceilingStage_of_test {x : CellSnapshot} {out : Output} {c : CellId} {reduced : Bool} {pIn : Nat}
    {pAvail : Int} {rd : CeilingRead} {st : ChargeState}
    (h : chargeTest x (out.vcap - x.band.vcapDrop) pIn pAvail rd = some st) :
    let e := effectiveCeiling out.ceiling x.band.derate (rd.imaxChg.get c) reduced
    ceilingStage x out c reduced pIn pAvail rd =
      { e := e, vlim := out.vcap - x.band.vcapDrop, tp := if x.renewal then e else x.tp, termCount := 0
        terminated := false, found := st, g := if st = .precharge then min (rd.ipre.get c) (rd.imaxChg.get c) else 0 } := by
  dsimp only [ceilingStage]
  rw [h]

/-- A charging cell is in TAPER or BULK by its Tp, or FULL where its charge ends (R2, R94, R95). -/
theorem ceilingStage_of_charging {x : CellSnapshot} {out : Output} {c : CellId} {reduced : Bool} {pIn : Nat}
    {pAvail : Int} {rd : CeilingRead} (h : chargeTest x (out.vcap - x.band.vcapDrop) pIn pAvail rd = none) :
    let e := effectiveCeiling out.ceiling x.band.derate (rd.imaxChg.get c) reduced
    let vlim := out.vcap - x.band.vcapDrop
    let tp := taperOf x rd e vlim
    (chargeEnds x rd e tp → ceilingStage x out c reduced pIn pAvail rd =
      { e := e, vlim := vlim, tp := tp, termCount := 0, terminated := true, found := .full, g := 0 }) ∧
    (¬ chargeEnds x rd e tp → ceilingStage x out c reduced pIn pAvail rd =
      { e := e, vlim := vlim, tp := tp, termCount := countOf x rd e tp, terminated := false
        found := if tp < e then .taper else .bulk, g := min e tp }) := by
  intro e vlim tp
  have heq : ceilingStage x out c reduced pIn pAvail rd =
      let st : ChargeState := if tp < e then .taper else .bulk
      let count := if st = .taper ∧ tp ≤ rd.iterm then x.termCount + 1 else 0
      let terminated := decide (st = .taper ∧ tp ≤ rd.iterm ∧ rd.termCount ≤ count)
      { e := e, vlim := vlim, tp := tp, termCount := if terminated then 0 else count, terminated := terminated
        found := if terminated then .full else st, g := if terminated then 0 else min e tp } := by
    dsimp only [ceilingStage]
    rw [h]
    rfl
  rw [heq]
  unfold chargeEnds countOf
  by_cases ht : tp < e
  · simp only [ht, true_and, if_true]
    constructor
    · rintro ⟨low, reached⟩
      simp only [low, if_true] at reached
      simp [low, reached]
    · intro he
      simp [he]
  · simp [ht]

/-- The states of a cell that is charging, by whether its charge ends. -/
theorem ceilingStage_states_of_charging {x : CellSnapshot} {out : Output} {c : CellId} {reduced : Bool} {pIn : Nat}
    {pAvail : Int} {rd : CeilingRead} (h : chargeTest x (out.vcap - x.band.vcapDrop) pIn pAvail rd = none) :
    let st := ceilingStage x out c reduced pIn pAvail rd
    (st.found = .full ∧ st.g = 0) ∨ (st.terminated = false ∧ (st.found = .taper ∨ st.found = .bulk)) := by
  intro st
  obtain ⟨ends, goesOn⟩ := ceilingStage_of_charging (c := c) (reduced := reduced) h
  by_cases he : chargeEnds x rd (effectiveCeiling out.ceiling x.band.derate (rd.imaxChg.get c) reduced)
      (taperOf x rd (effectiveCeiling out.ceiling x.band.derate (rd.imaxChg.get c) reduced)
        (out.vcap - x.band.vcapDrop))
  · have hst : st = _ := ends he
    exact .inl (by rw [hst]; exact ⟨rfl, rfl⟩)
  · have hst : st = _ := goesOn he
    refine .inr ?_
    rw [hst]
    refine ⟨rfl, ?_⟩
    dsimp only
    split
    · exact .inl rfl
    · exact .inr rfl

theorem ceilingStage_found_tripped {x : CellSnapshot} {out : Output} {c : CellId} {reduced : Bool} {pIn : Nat}
    {pAvail : Int} {rd : CeilingRead} (h : (ceilingStage x out c reduced pIn pAvail rd).found = .tripped) :
    x.charge = .tripped := by
  cases ht : chargeTest x (out.vcap - x.band.vcapDrop) pIn pAvail rd with
  | none =>
    obtain ⟨hf, -⟩ | ⟨-, hf | hf⟩ := ceilingStage_states_of_charging (c := c) (reduced := reduced) ht <;> simp [hf] at h
  | some st =>
    rw [ceilingStage_of_test ht] at h
    exact chargeTest_eq_tripped (by rw [ht]; exact congrArg some h)

/-- A cell whose charge ended is found FULL (R2). -/
theorem ceilingStage_terminated {x : CellSnapshot} {out : Output} {c : CellId} {reduced : Bool} {pIn : Nat}
    {pAvail : Int} {rd : CeilingRead} (h : (ceilingStage x out c reduced pIn pAvail rd).terminated = true) :
    (ceilingStage x out c reduced pIn pAvail rd).found = .full := by
  cases ht : chargeTest x (out.vcap - x.band.vcapDrop) pIn pAvail rd with
  | none =>
    obtain ⟨hf, -⟩ | ⟨hn, -⟩ := ceilingStage_states_of_charging (c := c) (reduced := reduced) ht
    · exact hf
    · rw [hn] at h
      cases h
  | some st =>
    rw [ceilingStage_of_test ht] at h
    cases h

/-- G is 0 in every state but the charging ones (R95). -/
theorem ceilingStage_g_of_not_charges {x : CellSnapshot} {out : Output} {c : CellId} {reduced : Bool} {pIn : Nat}
    {pAvail : Int} {rd : CeilingRead} (h : (ceilingStage x out c reduced pIn pAvail rd).found.charges = false) :
    (ceilingStage x out c reduced pIn pAvail rd).g = 0 := by
  cases ht : chargeTest x (out.vcap - x.band.vcapDrop) pIn pAvail rd with
  | none =>
    obtain ⟨-, hg⟩ | ⟨-, hf | hf⟩ := ceilingStage_states_of_charging (c := c) (reduced := reduced) ht
    · exact hg
    · rw [hf] at h
      cases h
    · rw [hf] at h
      cases h
  | some st =>
    rw [ceilingStage_of_test ht] at h ⊢
    have hp : st ≠ .precharge := by
      rintro rfl
      cases h
    exact if_neg hp

theorem chargeSetPoint_zero (granted voltage : Nat) : chargeSetPoint granted voltage 0 = 0 := Nat.min_zero _

theorem supplySetPoint_nonpos (granted vcell : Nat) : supplySetPoint granted vcell ≤ 0 :=
  Int.neg_nonpos_of_nonneg (Int.natCast_nonneg _)

theorem supplySetPoint_zero (vcell : Nat) : supplySetPoint 0 vcell = 0 := by simp [supplySetPoint]

theorem supplyMost_of_absent {x : CellSnapshot} {st : CeilingStage} {vpre lim : Nat} (h : st.found = .absent) :
    supplyMost x st vpre lim = none := by
  simp [supplyMost, supplyEligible, h]

theorem splitPower_none_left (power wA : Nat) (mostB : Option Nat) : (splitPower power wA none mostB).1 = 0 := by
  cases mostB <;> rfl

theorem splitPower_none_right (power wA : Nat) (mostA : Option Nat) : (splitPower power wA mostA none).2 = 0 := by
  cases mostA <;> rfl

/-- The set-point of a charge split is 0 for a cell whose G is 0. -/
theorem chargeSplit_setPoint_of_g_zero {sa sb : CeilingStage} {vA vB pAvail wA hinge : Nat} :
    (sa.g = 0 → (chargeSplit sa sb vA vB pAvail wA hinge).a.setPoint = 0) ∧
    (sb.g = 0 → (chargeSplit sa sb vA vB pAvail wA hinge).b.setPoint = 0) := by
  constructor <;> intro h <;> simp [chargeSplit, h, chargeSetPoint_zero]

/-- What the share computation gives a cell (R1, R95, R101, R106): one found TRIPPED was so in the snapshot, one found
ABSENT is given 0, and one found FULL no charge; one whose charge ended is found FULL. -/
structure ShareLawful (snap : CellSnapshot) (sh : CellShare) : Prop where
  tripped : sh.stage.found = .tripped → snap.charge = .tripped
  absent : sh.stage.found = .absent → sh.setPoint = 0
  full : sh.stage.found = .full → sh.setPoint ≤ 0
  terminated : sh.stage.terminated = true → sh.stage.found = .full

theorem share_lawful (snap : Snapshot) (cp : CounterPoint) (capQ : PerCell Nat) (b : BudgetRead) (ce : CeilingRead)
    (sp : ChargeSplitRead) (su : SupplySplitRead) (c : CellId) :
    ShareLawful (snap.cells.get c) ((share snap cp capQ b ce sp su).cells.get c) := by
  cases c with
  | a =>
    refine ⟨fun h => ceilingStage_found_tripped h, fun h => ?_, fun h => ?_, fun h => ceilingStage_terminated h⟩
    all_goals
      change (ceilingStage snap.cells.a cp.output.a .a _ _ _ ce).found = _ at h
      have hg := ceilingStage_g_of_not_charges (by rw [h]; rfl)
      simp only [share, PerCell.get]
      split
      · simp [chargeSplit_setPoint_of_g_zero.1 hg]
      · split
        · simp [supplySplit, supplyMost_of_absent, h, splitPower_none_left, supplySetPoint_zero, supplySetPoint_nonpos]
        · simp [noGrant]
  | b =>
    refine ⟨fun h => ceilingStage_found_tripped h, fun h => ?_, fun h => ?_, fun h => ceilingStage_terminated h⟩
    all_goals
      change (ceilingStage snap.cells.b cp.output.b .b _ _ _ ce).found = _ at h
      have hg := ceilingStage_g_of_not_charges (by rw [h]; rfl)
      simp only [share, PerCell.get]
      split
      · simp [chargeSplit_setPoint_of_g_zero.2 hg]
      · split
        · simp [supplySplit, supplyMost_of_absent, h, splitPower_none_right, supplySetPoint_zero, supplySetPoint_nonpos]
        · simp [noGrant]

/-! ### The cases of R6 -/

/-- Cases 1 and 2 of R6: the completion finds the cell TRIPPED, ABSENT since the allocation began, or released since. -/
def leftAlone (x : CellPath) (al : Allocation) (c : CellId) : Prop :=
  x.charge = .tripped ∨ (x.charge = .absent ∧ al.becameAbsent.get c = true) ∨
    (x.charge = .idle ∧ al.released.get c = true)

/-- Case 3 of R6. -/
def heldAnew (x : CellPath) (al : Allocation) (sh : CellShare) (c : CellId) : Prop :=
  x.holds.hasBeyond (al.snap.cells.get c).holds = true ∧ ¬ (x.charge = .absent ∧ sh.stage.found = .absent)

theorem applyCase_of_leftAlone {x : CellPath} {al : Allocation} {sh : CellShare} {c : CellId} (h : leftAlone x al c) :
    applyCase x al sh c = .kept ∨ applyCase x al sh c = .released := by
  unfold leftAlone at h
  unfold applyCase
  grind

theorem applyCase_of_heldAnew {x : CellPath} {al : Allocation} {sh : CellShare} {c : CellId} (h : ¬ leftAlone x al c)
    (hold : heldAnew x al sh c) : applyCase x al sh c = .newHold := by
  unfold leftAlone at h
  unfold heldAnew at hold
  simp only [applyCase, stillAbsent]
  grind

/-- Cases 4 to 6 of R6. -/
theorem applyCase_of_found {x : CellPath} {al : Allocation} {sh : CellShare} {c : CellId} (h : ¬ leftAlone x al c)
    (hold : ¬ heldAnew x al sh c) :
    applyCase x al sh c =
      if x.pathOpen then .pathOpen else if 0 < sh.setPoint ∧ al.sourceLost then .sourceLost else .applied := by
  unfold leftAlone at h
  unfold heldAnew at hold
  simp only [applyCase, stillAbsent]
  grind

theorem CellPath.applyShare_of_leftAlone {x : CellPath} {al : Allocation} {sh : CellShare} {c : CellId} {kept : Bool}
    (h : leftAlone x al c) : x.applyShare al sh c kept = { x with setPoint := 0 } := by
  unfold CellPath.applyShare
  obtain hk | hr := applyCase_of_leftAlone (sh := sh) h
  · rw [hk]
  · rw [hr]

theorem CellPath.applyShare_of_heldAnew {x : CellPath} {al : Allocation} {sh : CellShare} {c : CellId} {kept : Bool}
    (h : ¬ leftAlone x al c) (hold : heldAnew x al sh c) :
    x.applyShare al sh c kept = { x.takeTaper al sh c with charge := .held, setPoint := 0, termCount := 0 } := by
  unfold CellPath.applyShare
  rw [applyCase_of_heldAnew h hold]

/-- Cases 4 to 6 of R6 with the set-point of each. -/
theorem CellPath.applyShare_of_found {x : CellPath} {al : Allocation} {sh : CellShare} {c : CellId} {kept : Bool}
    (h : ¬ leftAlone x al c) (hold : ¬ heldAnew x al sh c) :
    x.applyShare al sh c kept = x.takeFound al sh c
      (if x.pathOpen then 0
        else if 0 < sh.setPoint ∧ al.sourceLost then standingSupply kept x.setPoint
        else sh.setPoint) := by
  unfold CellPath.applyShare
  rw [applyCase_of_found h hold]
  by_cases ho : x.pathOpen = true
  · simp [ho]
  · by_cases hl : 0 < sh.setPoint ∧ al.sourceLost = true <;> simp [ho, hl]

/-- A cell takes the state found in cases 4 to 6 alone. -/
theorem applyCase_takesFound_iff {x : CellPath} {al : Allocation} {sh : CellShare} {c : CellId} :
    (applyCase x al sh c).takesFound = true ↔ ¬ leftAlone x al c ∧ ¬ heldAnew x al sh c := by
  by_cases h : leftAlone x al c
  · obtain hk | hr := applyCase_of_leftAlone (sh := sh) h
    · simp [hk, h, ApplyCase.takesFound]
    · simp [hr, h, ApplyCase.takesFound]
  · by_cases hold : heldAnew x al sh c
    · simp [applyCase_of_heldAnew h hold, hold, ApplyCase.takesFound]
    · rw [applyCase_of_found h hold]
      simp only [h, hold, not_false_eq_true, and_self, iff_true]
      split
      · rfl
      · split <;> rfl

end Sys2Proof.Machine
end

section
/-! PROOFS. The laws of the applied set-point hold at both cells after every step (R6, R7, R17, R19). -/

namespace Sys2Proof.Machine

/-! ### The laws on what they see of the state -/

/-- The laws of the applied set-point, on the view of a cell path (R6, R7, R17). -/
def CellPath.View.lawful (v : CellPath.View) : Prop :=
  (v.charge = .tripped → v.pathOpen = true) ∧ (v.pathOpen = true → v.setPoint = 0) ∧
  (v.charge = .absent → v.setPoint = 0) ∧ (v.charge = .full → v.setPoint ≤ 0)

/-- A cell that the allocation took as TRIPPED and that is in this state is TRIPPED still, or released or ABSENT since. -/
def Allocation.knows (al : Allocation) (c : CellId) (st : ChargeState) : Prop :=
  (al.snap.cells.get c).charge = .tripped →
    st = .tripped ∨ (st = .idle ∧ al.released.get c = true) ∨ (st = .absent ∧ al.becameAbsent.get c = true)

def State.pathsSafe (s : State) : Prop := ∀ c, s.pathSafe c

theorem State.pathSafe_iff (s : State) (c : CellId) :
    s.pathSafe c ↔ (s.cells.get c).view.lawful ∧
      ∀ al, s.allocator.inFlight = some al → al.knows c (s.cells.get c).view.charge := by
  unfold State.pathSafe CellPath.View.lawful State.tripsKnown Allocation.knows
  simp only [and_assoc]
  rfl

theorem CellPath.View.lawful_open (st : ChargeState) :
    CellPath.View.lawful { charge := st, pathOpen := true, setPoint := 0 } := by simp [CellPath.View.lawful]

/-- A set-point of 0 meets every law but that a TRIPPED cell's path is open. -/
theorem CellPath.View.lawful_zero {st : ChargeState} (o : Bool) (h : st ≠ .tripped) :
    CellPath.View.lawful { charge := st, pathOpen := o, setPoint := 0 } := by simp [CellPath.View.lawful, h]

/-- The allocation in flight at t, if any, is that of s in what the laws see of it. -/
def State.allocationAlike (s t : State) : Prop :=
  ∀ al', t.allocator.inFlight = some al' → ∃ al, s.allocator.inFlight = some al ∧ al'.snap = al.snap ∧
    al'.released = al.released ∧ al'.becameAbsent = al.becameAbsent

theorem State.allocationAlike_of_eq {s t : State} (h : t.allocator = s.allocator) : s.allocationAlike t :=
  fun al' hal => ⟨al', by rw [← h]; exact hal, rfl, rfl, rfl⟩

theorem State.allocationAlike_of_worked {s t : State} (h : s.allocator.workedInto t.allocator) : s.allocationAlike t := by
  intro al' hal'
  obtain ⟨f, hf, alike⟩ := h
  rw [hf] at hal'
  obtain ⟨al, hal, rfl⟩ := Option.map_eq_some_iff.1 hal'
  exact ⟨al, hal, alike al⟩

theorem Allocation.knows_congr {al al' : Allocation} (snap : al'.snap = al.snap) (released : al'.released = al.released)
    (absent : al'.becameAbsent = al.becameAbsent) {c : CellId} {st : ChargeState} (h : al.knows c st) :
    al'.knows c st := by
  unfold Allocation.knows at h ⊢
  rwa [snap, released, absent]

section Safe

variable {s : State} (h : s.pathsSafe)
include h

/-- An operation under which each cell keeps its charge state or trips keeps the laws when it leaves each view lawful. -/
theorem State.pathsSafe.of_lawful {t : State} (alloc : s.allocationAlike t)
    (view : ∀ d, (t.cells.get d).view.lawful ∧
      ((t.cells.get d).view.charge = (s.cells.get d).view.charge ∨ (t.cells.get d).view.charge = .tripped)) :
    t.pathsSafe := by
  intro d
  obtain ⟨-, known⟩ := (s.pathSafe_iff d).1 (h d)
  obtain ⟨lawful, charge⟩ := view d
  refine (t.pathSafe_iff d).2 ⟨lawful, fun al' hal' => ?_⟩
  obtain ⟨al, hal, snap, released, absent⟩ := alloc al' hal'
  obtain same | trip := charge
  · rw [same]
    exact Allocation.knows_congr snap released absent (known al hal)
  · rw [trip]
    exact fun _ => .inl rfl

/-- An operation that keeps every view and the allocation in flight keeps the laws. -/
theorem State.pathsSafe.of_view {t : State} (view : ∀ d, (t.cells.get d).view = (s.cells.get d).view)
    (alloc : t.allocator = s.allocator) : t.pathsSafe :=
  h.of_lawful (State.allocationAlike_of_eq alloc) fun d =>
    ⟨by rw [view d]; exact ((s.pathSafe_iff d).1 (h d)).1, .inl (by rw [view d])⟩

theorem State.pathsSafe.of_cells {t : State} (cells : t.cells = s.cells) (alloc : t.allocator = s.allocator) :
    t.pathsSafe := h.of_view (fun d => by rw [cells]) alloc

theorem State.pathsSafe.lawful (c : CellId) : (s.cells.get c).view.lawful := ((s.pathSafe_iff c).1 (h c)).1

/-! ### The operations on a cell path -/

theorem State.pathsSafe.openPath (c : CellId) : (s.openPath c).pathsSafe := by
  refine h.of_lawful (State.allocationAlike_of_eq (by simp)) fun d => ?_
  rw [State.view_openPath]
  split
  · subst_vars
    exact ⟨CellPath.View.lawful_open _, .inl rfl⟩
  · exact ⟨h.lawful d, .inl rfl⟩

theorem State.pathsSafe.closePath (c : CellId) : (s.closePath c).pathsSafe := by
  refine h.of_lawful (State.allocationAlike_of_eq (by simp)) fun d => ?_
  rw [State.view_closePath]
  split
  · rename_i hd
    obtain ⟨rfl, closes⟩ := hd
    obtain ⟨-, -, absent, full⟩ := h.lawful d
    have untripped : (s.cell d).charge ≠ .tripped := by
      intro ht
      simp [State.openingStands, ht] at closes
    exact ⟨⟨fun ht => absurd ht untripped, by simp, absent, full⟩, .inl rfl⟩
  · exact ⟨h.lawful d, .inl rfl⟩

theorem State.pathsSafe.tripCell (c : CellId) (r : TripRecord) : (s.tripCell c r).pathsSafe := by
  refine h.of_lawful (State.allocationAlike_of_eq (by simp)) fun d => ?_
  rw [State.view_tripCell]
  split
  · exact ⟨CellPath.View.lawful_open _, .inr rfl⟩
  · exact ⟨h.lawful d, .inl rfl⟩

theorem State.pathsSafe.zeroCharge (c : CellId) : (s.zeroCharge c).pathsSafe := by
  refine h.of_lawful (State.allocationAlike_of_eq (by simp)) fun d => ?_
  rw [State.view_zeroCharge]
  split
  · subst_vars
    obtain ⟨tripped, opened, absent, full⟩ := h.lawful d
    refine ⟨⟨tripped, fun ho => ?_, fun ha => ?_, fun _ => ?_⟩, .inl rfl⟩
    · have : (s.cell d).setPoint = 0 := opened ho
      simp [this]
    · have : (s.cell d).setPoint = 0 := absent ha
      simp [this]
    · dsimp only
      split <;> omega
  · exact ⟨h.lawful d, .inl rfl⟩

/-- A mark made on the allocation in flight that takes no mark away keeps the laws. -/
theorem State.pathsSafe.modAllocation {f : Allocation → Allocation}
    (more : ∀ al c st, al.knows c st → (f al).knows c st) : (s.modAllocation f).pathsSafe := by
  intro d
  obtain ⟨lawful, known⟩ := (s.pathSafe_iff d).1 (h d)
  refine ((s.modAllocation f).pathSafe_iff d).2 ⟨by simpa using lawful, fun al' hal' => ?_⟩
  simp only [State.modAllocation_fields, Option.map_eq_some_iff] at hal' ⊢
  obtain ⟨al, hal, rfl⟩ := hal'
  exact more al d _ (known al hal)

theorem State.pathsSafe.forceRest (x : StopCause) : (s.forceRest x).pathsSafe := h.of_cells (by simp) (by simp)

theorem State.pathsSafe.raise (x : StickyCause) : (s.raise x).pathsSafe := h.of_cells (by simp) (by simp)

end Safe

/-- A cell that leaves its state for another with 0 applied, which the allocation in flight is told of, keeps the laws. -/
theorem State.pathsSafe_setCell_told {s : State} (h : s.pathsSafe) (c : CellId) {x : CellPath} {f : Allocation → Allocation}
    (lawful : x.view.lawful) (told : ∀ al, (f al).knows c x.view.charge)
    (others : ∀ al d st, d ≠ c → al.knows d st → (f al).knows d st) :
    ((s.setCell c x).modAllocation f).pathsSafe := by
  intro d
  obtain ⟨lawful', known⟩ := (s.pathSafe_iff d).1 (h d)
  refine (State.pathSafe_iff _ d).2 ?_
  simp only [State.modAllocation_fields, State.setCell_fields, State.get_setCell, Option.map_eq_some_iff]
  by_cases hd : d = c
  · subst hd
    simp only [if_true]
    refine ⟨lawful, ?_⟩
    rintro _ ⟨al, -, rfl⟩
    exact told al
  · simp only [hd, if_false]
    refine ⟨lawful', ?_⟩
    rintro _ ⟨al, hal, rfl⟩
    exact others al d _ hd (known al hal)

theorem Allocation.knows_absent (al : Allocation) (c : CellId) :
    Allocation.knows { al with becameAbsent := al.becameAbsent.set c true } c .absent := by
  intro _
  exact .inr (.inr ⟨rfl, by simp⟩)

theorem Allocation.knows_released (al : Allocation) (c : CellId) :
    Allocation.knows { al with released := al.released.set c true } c .idle := by
  intro _
  exact .inr (.inl ⟨rfl, by simp⟩)

theorem State.pathsSafe.becomeAbsent {s : State} (h : s.pathsSafe) (c : CellId) : (s.becomeAbsent c).pathsSafe := by
  unfold State.becomeAbsent
  refine (State.pathsSafe_setCell_told h c ?_ (fun al => al.knows_absent c) fun al d st hd hk => ?_).forceRest _
  · exact CellPath.View.lawful_zero (st := .absent) _ (by decide)
  · unfold Allocation.knows at hk ⊢
    simpa [PerCell.get_set, hd] using hk

theorem State.pathsSafe.testCellAtScan {s : State} (h : s.pathsSafe) (r : ScanRecord) (c : CellId) :
    (s.testCellAtScan r c).pathsSafe := by
  unfold State.testCellAtScan
  split
  · exact h
  · split
    · exact h.tripCell _ _
    · split
      · exact h.becomeAbsent c
      · exact h

theorem State.pathsSafe.release {s : State} (h : s.pathsSafe) (c : CellId) : (s.release c).pathsSafe := by
  unfold State.release
  split
  · exact h.of_view (by simp) (by simp)
  · rename_i tripped
    split
    · exact h.of_view (by simp) (by simp)
    · obtain ⟨opens, zero, -, -⟩ := h.lawful c
      have applied : (s.cell c).setPoint = 0 := zero (opens (not_not.1 tripped))
      refine (State.pathsSafe_setCell_told h c ?_ (fun al => al.knows_released c) fun al d st hd hk => ?_).closePath c
      · simp only [CellPath.view, applied]
        exact CellPath.View.lawful_zero _ (by decide)
      · unfold Allocation.knows at hk ⊢
        simpa [PerCell.get_set, hd] using hk

theorem State.pathsSafe.fastEvent {s : State} (h : s.pathsSafe) (c : CellId) (x : TripCause) :
    (s.fastEvent c x).pathsSafe := by
  unfold State.fastEvent
  dsimp only
  split
  · exact h.of_view (State.view_setCell rfl) (by simp)
  · exact h.tripCell _ _

/-! ### The selector -/

theorem State.pathsSafe.loseSource {s : State} (h : s.pathsSafe) : s.loseSource.pathsSafe :=
  State.pathsSafe.of_cells (((h.zeroCharge .a).zeroCharge .b).modAllocation
    (f := fun al => { al with sourceLost := true }) fun _ _ _ hk => hk) rfl rfl

/-- A selection leaves the cell paths and the allocator as they are or as a loss of the selected source leaves them
(R129, R133). -/
theorem State.makeSelection_cases (s : State) (b : Option Bool) :
    ((s.makeSelection b).cells = s.cells ∧ (s.makeSelection b).allocator = s.allocator) ∨
    ((s.makeSelection b).cells = s.loseSource.cells ∧ (s.makeSelection b).allocator = s.loseSource.allocator) := by
  unfold State.makeSelection
  split
  · unfold State.selectPlain
    split
    · exact .inl ⟨rfl, rfl⟩
    · exact .inl (by simp)
    · exact .inr (by simp)
    · split
      · exact .inl ⟨rfl, rfl⟩
      · exact .inr ⟨rfl, rfl⟩
  · exact .inl (by simp)

theorem State.pathsSafe.makeSelection {s : State} (h : s.pathsSafe) (b : Option Bool) : (s.makeSelection b).pathsSafe := by
  obtain ⟨cells, alloc⟩ | ⟨cells, alloc⟩ := s.makeSelection_cases b
  · exact h.of_cells cells alloc
  · exact h.loseSource.of_cells cells alloc

theorem State.pathsSafe.collapseEvent {s : State} (h : s.pathsSafe) (i : Input) : (s.collapseEvent i).pathsSafe :=
  State.pathsSafe.makeSelection (h.of_cells (by simp) (by simp)) _

theorem State.pathsSafe.selectorAtScan {s : State} (h : s.pathsSafe) (r : Readings) (b : Bool) :
    (s.selectorAtScan r b).pathsSafe := State.pathsSafe.makeSelection (h.of_cells (by simp) (by simp)) _

/-! ### The state controller -/

theorem State.pathsSafe.testDie {s : State} (h : s.pathsSafe) (t : Int) : (s.testDie t).pathsSafe :=
  h.of_cells (by simp) (by simp)

theorem State.pathsSafe.enterHeat {s : State} (h : s.pathsSafe) : s.enterHeat.pathsSafe := by
  have opened := ((State.pathsSafe.of_cells (t := s.setPartState .heat) h (by simp) (by simp)).openPath .a).openPath .b
  exact opened.of_view (by simp [State.enterHeat]) (by simp [State.enterHeat])

theorem State.pathsSafe.exitHeat {s : State} (h : s.pathsSafe) : s.exitHeat.pathsSafe := by
  have closed : ∀ p, ((((s.setPartState p).putHoldBoth .heat false).closePath .a).closePath .b).pathsSafe := fun p =>
    State.pathsSafe.closePath (State.pathsSafe.closePath (h.of_view (by simp) (by simp)) .a) .b
  unfold State.exitHeat
  dsimp only
  split
  · exact (closed .quiet).of_view (by simp) (by simp)
  · exact (closed .run).of_view (by simp) (by simp)

theorem State.pathsSafe.testHeat {s : State} (h : s.pathsSafe) (t : Int) : (s.testHeat t).pathsSafe := by
  unfold State.testHeat
  split
  · exact h.enterHeat
  · split
    · exact h.exitHeat
    · exact h

theorem State.pathsSafe.takeTrigger {s : State} (h : s.pathsSafe) (g : Trigger) : (s.takeTrigger g).pathsSafe :=
  h.of_cells (by simp) (by simp)

theorem State.pathsSafe.triggerAndHeat {s : State} (h : s.pathsSafe) (b : Bool) (t : Int) :
    (s.triggerAndHeat b t).pathsSafe := by
  unfold State.triggerAndHeat
  split
  · split
    · exact (h.testHeat t).takeTrigger _
    · exact (h.takeTrigger _).testHeat t
  · exact h.testHeat t

/-! ### The scan -/

theorem State.pathsSafe.cellsAtScan {s : State} (h : s.pathsSafe) (r : ScanRecord) (b : Bool) :
    (s.cellsAtScan r b).pathsSafe := by
  unfold State.cellsAtScan
  exact State.pathsSafe.testCellAtScan (State.pathsSafe.testCellAtScan (h.of_view (by simp) (by simp)) r .a) r .b

theorem State.pathsSafe.blocksAtScan {s : State} (h : s.pathsSafe) (r : ScanRecord) (b : Bool) :
    (s.blocksAtScan r b).pathsSafe := by
  have counted : ((s.cellsAtScan r b).countersAtScan r).pathsSafe := (h.cellsAtScan r b).of_view (by simp) (by simp)
  have selected := counted.selectorAtScan r.readings (s.cellsAtScan r b).allocator.inFlight.isNone
  have heated := (selected.testDie r.readings.tDie).triggerAndHeat (foldSample s.fold b s.foldDeb).2 r.readings.tDie
  exact heated.of_view (by simp [State.blocksAtScan]) (by simp [State.blocksAtScan])

theorem State.pathsSafe.beginAllocation {s : State} (h : s.pathsSafe) : s.beginAllocation.pathsSafe := by
  intro d
  refine (State.pathSafe_iff _ d).2 ⟨by simpa using h.lawful d, fun al hal => ?_⟩
  have charge : (al.snap.cells.get d).charge = (s.beginAllocation.cells.get d).view.charge := by
    simp only [State.beginAllocation, State.setAllocator_fields, Option.some.injEq] at hal
    subst hal
    cases d <;> simp [State.snapshot, State.cellSnapshot, PerCell.get, State.cell, CellPath.view]
  exact fun ht => .inl (charge ▸ ht)

theorem State.pathsSafe.scanCompletes {s : State} (h : s.pathsSafe) (r : ScanRecord) (b : Bool) :
    (s.scanCompletes r b).pathsSafe := by
  have acted := State.pathsSafe.blocksAtScan (State.pathsSafe.of_cells (t := s.storeScan r) h (by simp) (by simp)) r b
  have begun : ((s.storeScan r).blocksAtScan r b).allocationAtScan.pathsSafe := by
    unfold State.allocationAtScan
    split
    · exact acted.beginAllocation
    · exact acted.of_lawful (fun al hal => ⟨al, by simpa using hal, rfl, rfl, rfl⟩)
        fun d => ⟨by simpa using acted.lawful d, .inl (by simp)⟩
  exact begun.of_cells (by simp [State.scanCompletes]) (by simp [State.scanCompletes])

/-! ### The allocation -/

theorem State.pathsSafe.workStages {s : State} (h : s.pathsSafe) (n : Nat) (early : Bool) :
    (s.workStages n early).pathsSafe :=
  h.of_lawful (State.allocationAlike_of_worked (s.workStages_worked n early))
    fun d => ⟨by simpa using h.lawful d, .inl (by simp)⟩

/-- A cell path after an allocation completion meets the laws, when the allocation knows of its trips (R6). -/
theorem CellPath.applyShare_lawful {x : CellPath} {al : Allocation} {sh : CellShare} {c : CellId} (kept : Bool)
    (lawful : x.view.lawful) (known : al.knows c x.charge) (given : ShareLawful (al.snap.cells.get c) sh) :
    (x.applyShare al sh c kept).view.lawful := by
  obtain ⟨tripped, -, -, -⟩ := lawful
  by_cases alone : leftAlone x al c
  · rw [CellPath.applyShare_of_leftAlone alone]
    exact ⟨tripped, fun _ => rfl, fun _ => rfl, fun _ => Int.le_refl 0⟩
  · have untripped : sh.stage.found ≠ .tripped := by
      intro hf
      obtain ht | ⟨hi, hr⟩ | ⟨ha, hb⟩ := known (given.tripped hf)
      · exact alone (.inl ht)
      · exact alone (.inr (.inr ⟨hi, hr⟩))
      · exact alone (.inr (.inl ⟨ha, hb⟩))
    by_cases hold : heldAnew x al sh c
    · rw [CellPath.applyShare_of_heldAnew alone hold]
      exact CellPath.View.lawful_zero (st := .held) _ (by decide)
    · rw [CellPath.applyShare_of_found alone hold]
      refine ⟨fun ht => absurd ht untripped, fun ho => ?_, fun ha => ?_, fun hf => ?_⟩
      · exact if_pos ho
      · have zero : sh.setPoint = 0 := given.absent ha
        simp [CellPath.view, CellPath.takeFound, zero]
      · have nonpos : sh.setPoint ≤ 0 := given.full hf
        have : ¬ (0 < sh.setPoint ∧ al.sourceLost = true) := by omega
        simp only [CellPath.view, CellPath.takeFound, this, if_false]
        split
        · exact Int.le_refl 0
        · exact nonpos

/-- A cell that the allocation took as TRIPPED is left in its state at the completion (R6). -/
theorem CellPath.applyShare_knows {x : CellPath} {al : Allocation} {sh : CellShare} {c : CellId} (kept : Bool)
    (known : al.knows c x.charge) : al.knows c (x.applyShare al sh c kept).charge := by
  intro ht
  have alone : leftAlone x al c := by
    obtain h | h | h := known ht
    · exact .inl h
    · exact .inr (.inr h)
    · exact .inr (.inl h)
  rw [CellPath.applyShare_of_leftAlone alone]
  exact known ht

theorem State.pathsSafe.applyToCell {s : State} (h : s.pathsSafe) {al : Allocation} (hal : s.allocator.inFlight = some al)
    {sh : CellShare} (kept : Bool) (c : CellId) (given : ShareLawful (al.snap.cells.get c) sh) :
    (s.applyToCell al sh kept c).pathsSafe := by
  have set : (s.setCell c ((s.cell c).applyShare al sh c kept)).pathsSafe := by
    intro d
    obtain ⟨lawful, known⟩ := (s.pathSafe_iff d).1 (h d)
    refine (State.pathSafe_iff _ d).2 ?_
    rw [State.get_setCell]
    split
    · subst_vars
      refine ⟨CellPath.applyShare_lawful kept lawful (known al hal) given, fun al' hal' => ?_⟩
      have : al' = al := by simpa [hal] using hal'.symm
      subst this
      exact CellPath.applyShare_knows kept (known al' hal)
    · exact ⟨lawful, by simpa using known⟩
  unfold State.applyToCell
  dsimp only
  split
  · exact set.of_cells (by simp) (by simp)
  · exact set

/-- With no allocation in flight the laws are those of the views. -/
theorem State.pathsSafe_of_none {t : State} (none : t.allocator.inFlight = none) (lawful : ∀ d, (t.cells.get d).view.lawful) :
    t.pathsSafe := fun d => (State.pathSafe_iff _ d).2 ⟨lawful d, fun al hal => by rw [none] at hal; cases hal⟩

theorem State.pathsSafe.handOn {s : State} (h : s.pathsSafe) {al : Allocation} (hal : s.allocator.inFlight = some al)
    (cp : CounterPoint) {res : ShareResult} (hinge : Nat)
    (given : ∀ c, ShareLawful (al.snap.cells.get c) (res.cells.get c)) : (s.handOn al cp res hinge).pathsSafe := by
  have applied := ((h.applyToCell hal (Config.standingSupplyKept (2 * s.freeCounter)) .a (given .a)).applyToCell
    (by simpa using hal) (Config.standingSupplyKept (2 * s.freeCounter + 1)) .b (given .b))
  refine State.pathsSafe_of_none ?_ fun d => by simpa [State.handOn, PerCell.get] using applied.lawful d
  simp only [State.handOn, State.tick_fields, State.refreshAtCompletion_frame, State.changeoverCompleted_frame]
  unfold State.writeResults
  dsimp only
  split <;> simp

theorem State.pathsSafe.completeAllocation {s : State} (h : s.pathsSafe) : s.completeAllocation.pathsSafe := by
  have worked := h.workStages 4 true
  unfold State.completeAllocation
  dsimp only
  split
  · exact h
  · split
    · exact worked.handOn (by assumption) _ _ fun c => share_lawful _ _ _ _ _ _ _ c
    · exact h

theorem State.pathsSafe.abandonAllocation {s : State} (h : s.pathsSafe) : s.abandonAllocation.pathsSafe := by
  unfold State.abandonAllocation
  split
  · exact h
  · exact State.pathsSafe_of_none (by simp) fun d => by simpa using h.lawful d

theorem State.pathsSafe.countIntegrate {s : State} (h : s.pathsSafe) : s.countIntegrate.pathsSafe := by
  unfold State.countIntegrate
  split
  · exact h
  · split
    · exact h
    · split
      · exact h.modAllocation fun _ _ _ hk => hk
      · exact h.modAllocation fun _ _ _ hk => hk

theorem State.pathsSafe.settle {s : State} (h : s.pathsSafe) : s.settle.pathsSafe :=
  h.of_lawful (State.allocationAlike_of_worked s.settle_worked) fun d => ⟨by simpa using h.lawful d, .inl (by simp)⟩

/-! ### Start-up, SHIP and the resets -/

theorem State.pathsSafe.closeCellA {s : State} (h : s.pathsSafe) : s.closeCellA.pathsSafe :=
  State.pathsSafe.closePath (s := s.setControl { s.control with shipStep := 6 }) (h.of_cells rfl rfl) .a

theorem State.pathsSafe.endStartup {s : State} (h : s.pathsSafe) : s.endStartup.pathsSafe := by
  have closed := State.pathsSafe.closePath (s := s.setControl { s.control with shipStep := 7 })
    (h.of_cells rfl rfl) .b
  unfold State.endStartup
  dsimp only
  split
  · exact closed.of_view (by simp) (by simp)
  · exact closed.of_cells (by simp) (by simp)

theorem State.pathsSafe.beginStartup {s : State} (h : s.pathsSafe) : s.beginStartup.pathsSafe := by
  unfold State.beginStartup
  dsimp only
  split
  · exact State.pathsSafe.endStartup (State.pathsSafe.closeCellA (h.of_cells rfl rfl))
  · exact h.of_cells rfl rfl

theorem State.pathsSafe.startupSlot {s : State} (h : s.pathsSafe) : s.startupSlot.pathsSafe := by
  unfold State.startupSlot
  split
  · split
    · exact h.closeCellA
    · exact h.endStartup
    · exact h
  · exact h

/-- Every cell path right after a reset is open and ABSENT and applies 0 (R20). -/
theorem Reset.cellPath_lawful (t : Thresholds) : (Reset.cellPath t).view.lawful := CellPath.View.lawful_open _

theorem State.pathsSafe_powerOnReset (s : State) : s.powerOnReset.pathsSafe :=
  State.pathsSafe_of_none rfl fun d => by cases d <;> exact Reset.cellPath_lawful _

theorem State.pathsSafe_shipWake (s : State) : s.shipWake.pathsSafe := by
  have woken : ((((s.resetChannel .a).resetChannel .b).resetSeq .idle .idle).wakeMeasurement.wakePower.wakeLink.wakeControl).pathsSafe :=
    State.pathsSafe_of_none rfl fun d => by cases d <;> exact Reset.cellPath_lawful _
  exact woken.beginStartup.of_cells (by simp [State.shipWake]) (by simp [State.shipWake])

theorem State.pathsSafe.enterShip {s : State} (h : s.pathsSafe) : s.enterShip.pathsSafe := by
  unfold State.enterShip
  dsimp only
  split
  · exact State.pathsSafe_shipWake _
  · exact (State.pathsSafe.abandonAllocation (s := s.abandonScan) (h.of_cells (by simp) (by simp))).of_cells
      (by simp) (by simp)

theorem State.pathsSafe.openInput {s : State} (h : s.pathsSafe) : s.openInput.pathsSafe :=
  State.pathsSafe.enterShip (h.of_cells rfl rfl)

theorem State.pathsSafe.openCellB {s : State} (h : s.pathsSafe) : s.openCellB.pathsSafe :=
  State.pathsSafe.openPath (h.of_cells rfl rfl) .b

theorem State.pathsSafe.openCellA {s : State} (h : s.pathsSafe) : s.openCellA.pathsSafe :=
  State.pathsSafe.openPath (h.of_cells rfl rfl) .a

theorem State.pathsSafe.shipSlotExpires {s : State} (h : s.pathsSafe) : s.shipSlotExpires.pathsSafe := by
  unfold State.shipSlotExpires
  split
  · split
    · exact h.openCellB
    · exact h.openCellA
    · exact h.openInput
    · exact h
  · exact h

theorem State.pathsSafe.acceptShip {s : State} (h : s.pathsSafe) : s.acceptShip.pathsSafe := by
  have accepted : ∀ x, (s.setControl x).pathsSafe := fun x => h.of_cells rfl rfl
  have stopped : ∀ {u : State}, u.pathsSafe → (u.forceOff .ship).pathsSafe := fun hu => hu.of_cells (by simp) (by simp)
  have thawed : ∀ {u : State}, u.pathsSafe → ((u.putHoldBoth .quiet false).thaw).pathsSafe :=
    fun hu => hu.of_view (by simp) (by simp)
  have ready : ∀ x, (State.forceOff (if s.control.state = .quiet then ((s.setControl x).putHoldBoth .quiet false).thaw
      else s.setControl x) .ship).pathsSafe := fun x => by
    split
    · exact stopped (thawed (accepted x))
    · exact stopped (accepted x)
  unfold State.acceptShip
  dsimp only
  split
  · exact (ready _).openCellB.openCellA.openInput
  · exact ready _

theorem State.pathsSafe.ship {s : State} (h : s.pathsSafe) : s.ship.pathsSafe := by
  have refused : s.refuseShip.pathsSafe := h.of_cells rfl rfl
  unfold State.ship
  split
  · split
    · exact h.acceptShip
    · exact refused
  · split
    · exact h.acceptShip
    · exact refused
  · exact refused
  · exact h
  · exact h

theorem State.pathsSafe.attachWake {s : State} (h : s.pathsSafe) (i : Input) : (s.attachWake i).pathsSafe := by
  unfold State.attachWake
  split
  · split
    · split
      · exact h
      · exact h.of_cells rfl rfl
    · exact State.pathsSafe_shipWake _
    · exact h
    · exact h
    · exact h
  · exact h

/-- After SOFT_RESET every cell applies 0, and a TRIPPED cell keeps its open path (R20). -/
theorem CellPath.afterSoftReset_lawful {x : CellPath} (h : x.view.lawful) : x.afterSoftReset.view.lawful := by
  obtain ⟨tripped, -, -, -⟩ := h
  refine ⟨fun ht => tripped ?_, fun _ => rfl, fun _ => rfl, fun _ => Int.le_refl 0⟩
  by_contra hn
  simp [CellPath.view] at hn
  simp [CellPath.afterSoftReset, CellPath.view, hn] at ht

theorem State.pathsSafe.softReset {s : State} (h : s.pathsSafe) : s.softReset.pathsSafe := by
  have reset : s.softResetBlocks.pathsSafe := by
    refine State.pathsSafe_of_none ?_ fun d => ?_
    · unfold State.softResetBlocks
      dsimp only
      split <;> simp [Allocator.afterSoftReset, Reset.allocator]
    · have lawful := CellPath.afterSoftReset_lawful (h.lawful d)
      unfold State.softResetBlocks
      dsimp only
      split <;> simp <;> cases d <;> exact lawful
  unfold State.softReset
  split
  · exact reset
  · exact h

/-! ### Every step -/

theorem pathsSafe_stepKeeps : StepKeeps State.pathsSafe where
  soft _ h := h.softReset
  skipItem _ h := h.of_cells (by simp) (by simp)
  skipList _ h := h.of_cells (by simp) (by simp)
  ship _ h := h.ship
  release _ c h := h.release c
  start _ _ h := h.of_cells (by simp) (by simp)
  stop _ _ h := h.of_cells (by simp) (by simp)
  clear _ h := h.of_view (by simp) (by simp)
  preset _ _ h := h.of_cells (by simp) (by simp)
  next _ _ h := h.of_cells (by simp) (by simp)
  note _ _ h := h.of_cells (by simp) (by simp)
  mask _ _ h := h.of_cells (by simp) (by simp)
  queue _ _ h := h.of_cells (by simp) (by simp)
  settle _ h := h.settle
  port _ _ _ h := h.of_cells (by simp) (by simp)
  endTransaction _ h := h.of_cells (by simp) (by simp)
  requestLink _ h := h.of_cells (by simp) (by simp)
  readDone _ h := h.of_cells (by simp) (by simp)
  por s _ := s.pathsSafe_powerOnReset
  begins _ _ h := h.beginStartup
  slot _ h := h.startupSlot
  rise _ h := by
    unfold State.qreqRises
    dsimp only
    split
    · exact h
    · split
      · exact h.of_view (by simp) (by simp)
      · exact h.of_cells (by simp) (by simp)
  fall _ h := by
    unfold State.qreqFalls
    dsimp only
    split
    · split
      · exact State.pathsSafe.settle (h.of_view (by simp) (by simp))
      · exact h.of_cells (by simp) (by simp)
    · exact h
  fast _ _ c x h := h.fastEvent c x
  collapse _ i h := h.collapseEvent i
  wake _ _ i h := h.attachWake i
  shipSlot _ _ h := h.shipSlotExpires
  period _ _ h := State.pathsSafe.settle (h.of_cells (by simp) (by simp))
  scan s x b h := by
    unfold State.scanConverted
    split
    · split
      · refine State.pathsSafe.settle ?_
        have ended : s.endConversion.pathsSafe := h.of_cells (by simp) (by simp)
        unfold State.scanReading
        dsimp only
        split
        · exact ended.scanCompletes _ _
        · exact ended.of_cells (by simp) (by simp)
      · exact h
    · exact h
  probe s x h := by
    unfold State.probeConverted
    split
    · split
      · refine State.pathsSafe.settle ?_
        split
        · exact h.of_cells (by simp) (by simp)
        · exact h.of_cells (by simp) (by simp)
      · exact h
    · exact h
  gauge s e h := by
    have written : (s.gaugeWrite e).pathsSafe := h.of_cells (by simp) (by simp)
    have ended : ∀ {u : State}, u.pathsSafe → u.endTransaction.requestGauge.pathsSafe :=
      fun hu => hu.of_cells (by simp) (by simp)
    refine State.pathsSafe.settle (ended ?_)
    split
    · unfold State.gaugeAwaited
      dsimp only
      split
      · exact State.pathsSafe.countIntegrate (written.of_cells (by simp) (by simp))
      · exact written.of_cells (by simp) (by simp)
      · exact written.of_cells (by simp) (by simp)
    · exact written
  alloc _ _ h := h.completeAllocation
  waitRefresh _ h := h.of_cells (by simp) (by simp)
  fetch _ _ _ _ h := h.of_cells (by simp) (by simp)
  item s ws h := by
    unfold State.itemFetchCompleted
    split
    · exact h.of_view (by simp) (by simp)
    · exact h.of_cells (by simp) (by simp)
  written s h := by
    unfold State.seqWriteCompleted
    split
    · exact h.of_cells (by simp) (by simp)
    · exact h.of_cells (by simp) (by simp)

/-- Settles O9: the laws, with what the allocation in flight knows of the trips, are kept by every effect. -/
theorem stepKeepsPathsSafe : Obligations.StepKeepsPathsSafe := by
  unfold Obligations.StepKeepsPathsSafe
  exact fun _ _ hs h => pathsSafe_stepKeeps.step hs h

end Sys2Proof.Machine
end

section
/-! PROOFS. In SHIP the paths are open, the timer stands and the link is inert, and SHIP_ENTRY opens the cell paths in order
(R186, R187): kept by every step. -/

namespace Sys2Proof.Machine

/-- What the ship sequence sees of the state controller. -/
structure Controller.ShipView where
  state : PartState
  startup : Bool
  shipStep : Nat
  inputOpen : Bool
  fastArmed : Bool

def Controller.shipView (x : Controller) : Controller.ShipView :=
  { state := x.state, startup := x.startup, shipStep := x.shipStep, inputOpen := x.inputOpen, fastArmed := x.fastArmed }

theorem Controller.shipView_eq {x y : Controller} (h : x.shipView = y.shipView) :
    x.state = y.state ∧ x.startup = y.startup ∧ x.shipStep = y.shipStep ∧ x.inputOpen = y.inputOpen ∧
      x.fastArmed = y.fastArmed := by simpa [Controller.shipView] using h

theorem State.pathOpen_of_view {s t : State} (view : ∀ d, (t.cells.get d).view = (s.cells.get d).view) (d : CellId)
    (h : (s.cells.get d).pathOpen = true) : (t.cells.get d).pathOpen = true := by
  obtain ⟨-, opened, -⟩ := CellPath.view_eq.1 (view d)
  exact opened.trans h

/-- Outside SHIP and SHIP_ENTRY nothing is to show. -/
theorem State.shipSequenced_of_awake {t : State} (notShip : t.control.state ≠ .ship) (notEntry : t.control.state ≠ .shipEntry) :
    t.shipSequenced := ⟨fun h => absurd h notShip, fun h => absurd h notEntry⟩

/-! ### What opens no path and closes none -/

theorem State.pathOpen_openPath_same (s : State) (c : CellId) : ((s.openPath c).cells.get c).pathOpen = true := by
  rw [State.get_openPath, if_pos rfl]

theorem State.pathOpen_openPath (s : State) (c d : CellId) (h : (s.cells.get d).pathOpen = true) :
    ((s.openPath c).cells.get d).pathOpen = true := by
  rw [State.get_openPath]
  split
  · rfl
  · exact h

theorem State.pathOpen_tripCell (s : State) (c : CellId) (r : TripRecord) (d : CellId)
    (h : (s.cells.get d).pathOpen = true) : ((s.tripCell c r).cells.get d).pathOpen = true := by
  have view := congrArg CellPath.View.pathOpen (s.view_tripCell c d r)
  refine view.trans ?_
  split
  · rfl
  · exact h

theorem State.pathOpen_becomeAbsent (s : State) (c d : CellId) :
    ((s.becomeAbsent c).cells.get d).pathOpen = (s.cells.get d).pathOpen := by
  have view := congrArg CellPath.View.pathOpen (s.view_becomeAbsent c d)
  refine view.trans ?_
  split
  · subst_vars
    rfl
  · rfl

theorem State.pathOpen_zeroCharge (s : State) (c d : CellId) :
    ((s.zeroCharge c).cells.get d).pathOpen = (s.cells.get d).pathOpen := by
  have view := congrArg CellPath.View.pathOpen (s.view_zeroCharge c d)
  refine view.trans ?_
  split
  · subst_vars
    rfl
  · rfl

theorem State.pathOpen_testCellAtScan (s : State) (r : ScanRecord) (c d : CellId)
    (h : (s.cells.get d).pathOpen = true) : ((s.testCellAtScan r c).cells.get d).pathOpen = true := by
  unfold State.testCellAtScan
  split
  · exact h
  · split
    · exact State.pathOpen_tripCell _ _ _ _ h
    · split
      · exact (State.pathOpen_becomeAbsent _ _ _).trans h
      · exact h

theorem State.pathOpen_cellsAtScan (s : State) (r : ScanRecord) (b : Bool) (d : CellId)
    (h : (s.cells.get d).pathOpen = true) : ((s.cellsAtScan r b).cells.get d).pathOpen = true :=
  State.pathOpen_testCellAtScan _ r .b d (State.pathOpen_testCellAtScan _ r .a d
    (State.pathOpen_of_view (s := s) (by simp) d h))

/-- A selection keeps the path switches, and begins no allocation (R128, R133). -/
theorem State.makeSelection_stops_no_path (s : State) (b : Option Bool) :
    (∀ d, (s.cells.get d).pathOpen = true → ((s.makeSelection b).cells.get d).pathOpen = true) ∧
    (s.allocator.inFlight = none → (s.makeSelection b).allocator.inFlight = none) := by
  obtain ⟨cells, alloc⟩ | ⟨cells, alloc⟩ := s.makeSelection_cases b
  · rw [cells, alloc]
    exact ⟨fun _ ho => ho, id⟩
  · rw [cells, alloc]
    refine ⟨fun d ho => ?_, fun hn => by simp [State.loseSource, hn]⟩
    exact (State.pathOpen_zeroCharge _ .b d).trans ((State.pathOpen_zeroCharge s .a d).trans ho)

/-- An allocation completion leaves every path switch (R6). -/
theorem State.pathOpen_applyToCell (s : State) (al : Allocation) (sh : CellShare) (kept : Bool) (c d : CellId) :
    ((s.applyToCell al sh kept c).cells.get d).pathOpen = (s.cells.get d).pathOpen := by
  have share : ∀ x : CellPath, (x.applyShare al sh c kept).pathOpen = x.pathOpen := fun x => by
    unfold CellPath.applyShare
    split <;> rfl
  have set : ((s.setCell c ((s.cell c).applyShare al sh c kept)).cells.get d).pathOpen = (s.cells.get d).pathOpen := by
    rw [State.get_setCell]
    split
    · subst_vars
      exact share _
    · rfl
  unfold State.applyToCell
  dsimp only
  split
  · simpa using set
  · exact set

theorem State.pathOpen_completeAllocation (s : State) (d : CellId) :
    (s.completeAllocation.cells.get d).pathOpen = (s.cells.get d).pathOpen := by
  unfold State.completeAllocation
  dsimp only
  split
  · rfl
  · split
    · simp [State.handOn, State.pathOpen_applyToCell]
    · rfl

/-- With no allocation in flight the batches leave none (R39, R64). -/
theorem State.handBatches_unallocated {s : State} (h : s.allocator.inFlight = none) (i j : Nat) :
    (s.handBatches i j).allocator.inFlight = none := by
  simp [State.handBatches, State.countIntegrate, h]

section Sequenced

variable {s : State} (h : s.shipSequenced)
include h

/-- An operation that leaves the controller's sequence, opens no less, and starts nothing keeps the ship sequence. -/
theorem State.shipSequenced.of_alike {t : State} (control : t.control.shipView = s.control.shipView)
    (opens : ∀ d, (s.cells.get d).pathOpen = true → (t.cells.get d).pathOpen = true)
    (timer : t.timer.running = s.timer.running) (scan : t.converter.scanView = s.converter.scanView)
    (alloc : s.allocator.inFlight = none → t.allocator.inFlight = none) (serving : t.port.serving = s.port.serving) :
    t.shipSequenced := by
  obtain ⟨state, startup, step, input, armed⟩ := Controller.shipView_eq control
  obtain ⟨inShip, inEntry⟩ := h
  have scanned : t.converter.scan = s.converter.scan := congrArg Converter.ScanView.scan scan
  unfold State.shipSequenced
  rw [state, startup, step, input, timer, scanned, serving, armed]
  refine ⟨fun hs => ?_, fun he => ?_⟩
  · obtain ⟨openA, openB, openIn, stopped, unscanned, unallocated, inert, disarmed⟩ := inShip hs
    exact ⟨opens .a openA, opens .b openB, openIn, stopped, unscanned, alloc unallocated, inert, disarmed⟩
  · obtain ⟨started, low, high, stepB, stepA⟩ := inEntry he
    exact ⟨started, low, high, fun h2 => opens .b (stepB h2), fun h3 => opens .a (stepA h3)⟩

/-- The same outside SHIP, where the timer, the scan, the allocation and the port may do what they do. -/
theorem State.shipSequenced.of_notShip {t : State} (notShip : s.control.state ≠ .ship)
    (control : t.control.shipView = s.control.shipView)
    (opens : ∀ d, (s.cells.get d).pathOpen = true → (t.cells.get d).pathOpen = true) : t.shipSequenced := by
  obtain ⟨state, startup, step, -, -⟩ := Controller.shipView_eq control
  obtain ⟨-, inEntry⟩ := h
  unfold State.shipSequenced
  rw [state, startup, step]
  refine ⟨fun hs => absurd hs notShip, fun he => ?_⟩
  obtain ⟨started, low, high, stepB, stepA⟩ := inEntry he
  exact ⟨started, low, high, fun h2 => opens .b (stepB h2), fun h3 => opens .a (stepA h3)⟩

/-- An operation that keeps all that the ship sequence sees but the cells, of which it keeps the views. -/
theorem State.shipSequenced.of_view {t : State} (control : t.control.shipView = s.control.shipView)
    (view : ∀ d, (t.cells.get d).view = (s.cells.get d).view) (timer : t.timer = s.timer)
    (scan : t.converter.scanView = s.converter.scanView) (alloc : t.allocator = s.allocator)
    (serving : t.port.serving = s.port.serving) : t.shipSequenced :=
  h.of_alike control (State.pathOpen_of_view view) (by rw [timer]) scan (fun hn => by rw [alloc]; exact hn) serving

/-- A closing asked for in SHIP or in SHIP_ENTRY after the cell's slot does not take place (R7). -/
theorem State.shipSequenced.closePath (c : CellId) : (s.closePath c).shipSequenced := by
  by_cases stands : s.openingStands c = true
  · rw [State.closePath, if_pos stands]
    exact h
  · have notShip : s.control.state ≠ .ship := by
      intro hs
      simp [State.openingStands, hs] at stands
    refine ⟨fun hs => absurd (by simpa using hs) notShip, fun he => ?_⟩
    simp only [State.closePath_frame] at he ⊢
    obtain ⟨started, low, high, stepB, stepA⟩ := h.2 he
    have early : s.control.shipStep < openingStep c := by
      by_contra hn
      simp [State.openingStands, he, Nat.le_of_not_lt hn] at stands
    have other : ∀ d, d ≠ c → (s.closePath c).cells.get d = s.cells.get d := fun d hd => by
      rw [State.get_closePath, if_neg fun hc => hd hc.1]
    refine ⟨started, low, high, fun h2 => ?_, fun h3 => ?_⟩
    · cases c with
      | a => exact (congrArg CellPath.pathOpen (other .b (by decide))).trans (stepB h2)
      | b => exact absurd h2 (Nat.not_le.2 early)
    · cases c with
      | a => exact absurd h3 (Nat.not_le.2 early)
      | b => exact (congrArg CellPath.pathOpen (other .a (by decide))).trans (stepA h3)

theorem State.shipSequenced.release (c : CellId) : (s.release c).shipSequenced := by
  unfold State.release
  split
  · exact h.of_view (by simp) (by simp) (by simp) (by simp) (by simp) (by simp)
  · split
    · exact h.of_view (by simp) (by simp) (by simp) (by simp) (by simp) (by simp)
    · refine State.shipSequenced.closePath (h.of_alike (by simp) (fun d ho => ?_) (by simp) (by simp) (fun hn => ?_)
        (by simp)) c
      · simp only [State.modAllocation_fields, State.get_setCell]
        split
        · subst_vars
          exact ho
        · exact ho
      · simp [hn]

theorem State.shipSequenced.settle : s.settle.shipSequenced :=
  h.of_alike (by simp) (by simp) (by simp) (by simp) (Allocator.workedInto_none s.settle_worked) (by simp)

theorem State.shipSequenced.fastEvent (armed : s.control.fastArmed = true) (c : CellId) (x : TripCause) :
    (s.fastEvent c x).shipSequenced := by
  have notShip : s.control.state ≠ .ship := by
    intro hs
    obtain ⟨-, -, -, -, -, -, -, disarmed⟩ := h.1 hs
    simp [disarmed] at armed
  refine h.of_notShip notShip (by simp) fun d ho => ?_
  unfold State.fastEvent
  dsimp only
  split
  · rw [State.get_setCell]
    split
    · subst_vars
      exact ho
    · exact ho
  · exact State.pathOpen_tripCell _ _ _ _ ho

theorem State.shipSequenced.collapseEvent (i : Input) : (s.collapseEvent i).shipSequenced := by
  obtain ⟨opens, alloc⟩ := (s.collapse i).makeSelection_stops_no_path none
  exact h.of_alike (by simp) (fun d ho => opens d (by simpa using ho)) (by simp) (by simp)
    (fun hn => alloc (by simpa using hn)) (by simp)

end Sequenced

/-! ### The scan -/

/-- At a scan completion in SHIP_ENTRY the HEAT test does nothing (R184). -/
theorem State.testHeat_of_shipEntry {s : State} (h : s.control.state = .shipEntry) (t : Int) : s.testHeat t = s := by
  simp [State.testHeat, State.heatEntryDue, State.heatExitDue, h]

/-- In RUN, QUIET and HEAT. -/
def State.awake (s : State) : Prop := s.control.state ≠ .ship ∧ s.control.state ≠ .shipEntry

theorem State.awake_enterQuiet (s : State) : s.enterQuiet.awake := by
  have quiet : s.enterQuiet.control.state = .quiet := by
    unfold State.enterQuiet
    dsimp only
    (repeat' split) <;> simp [State.setPartState]
  simp [State.awake, quiet]

theorem State.awake_wake (s : State) (b : Bool) : (s.wake b).awake := by
  have run : (s.wake b).control.state = .run := by
    unfold State.wake
    dsimp only
    split <;> simp [State.setPartState]
  simp [State.awake, run]

theorem State.awake.testHeat {s : State} (h : s.awake) (t : Int) : (s.testHeat t).awake := by
  unfold State.testHeat
  split
  · simp [State.awake, State.enterHeat, State.setPartState]
  · split
    · unfold State.exitHeat
      dsimp only
      split
      · exact State.awake_enterQuiet _
      · exact State.awake_wake _ _
    · exact h

theorem State.awake.triggerAndHeat {s : State} (h : s.awake) (b : Bool) (t : Int) : (s.triggerAndHeat b t).awake := by
  have triggered : ∀ {u : State} (g : Trigger), u.awake → (u.takeTrigger g).awake := fun g hu => by
    simpa [State.awake] using hu
  unfold State.triggerAndHeat
  split
  · split
    · exact triggered _ (h.testHeat t)
    · exact (triggered _ h).testHeat t
  · exact h.testHeat t

/-- In SHIP_ENTRY the trigger and the HEAT test leave the controller and the cells as they are. -/
theorem State.triggerAndHeat_of_shipEntry {s : State} (h : s.control.state = .shipEntry) (b : Bool) (t : Int) :
    (s.triggerAndHeat b t).control = s.control ∧ (s.triggerAndHeat b t).cells = s.cells := by
  have exits : s.heatExitDue t = false := by simp [State.heatExitDue, h]
  unfold State.triggerAndHeat
  split
  · rw [exits, Bool.false_and, if_neg (by decide), State.testHeat_of_shipEntry (by simpa using h)]
    simp
  · rw [State.testHeat_of_shipEntry h]
    simp

/-- What the blocks do before the selector's action at a scan completion, and that action (R26). -/
def State.selectedAtScan (s : State) (r : ScanRecord) (b : Bool) : State :=
  ((s.cellsAtScan r b).countersAtScan r).selectorAtScan r.readings (s.cellsAtScan r b).allocator.inFlight.isNone

theorem State.blocksAtScan_eq (s : State) (r : ScanRecord) (b : Bool) :
    s.blocksAtScan r b =
      (((((s.selectedAtScan r b).testDie r.readings.tDie).triggerAndHeat (foldSample s.fold b s.foldDeb).2
        r.readings.tDie).lookupBand r.readings .a).lookupBand r.readings .b).chooseStopCause s := rfl

theorem State.pathOpen_selectedAtScan (s : State) (r : ScanRecord) (b : Bool) (d : CellId)
    (h : (s.cells.get d).pathOpen = true) : ((s.selectedAtScan r b).cells.get d).pathOpen = true := by
  refine (State.makeSelection_stops_no_path _ _).1 d (State.pathOpen_of_view (s := s.cellsAtScan r b) (by simp) d ?_)
  exact s.pathOpen_cellsAtScan r b d h

theorem State.shipSequenced.scanCompletes {s : State} (h : s.shipSequenced) (notShip : s.control.state ≠ .ship)
    (r : ScanRecord) (b : Bool) : (s.scanCompletes r b).shipSequenced := by
  have control : (s.scanCompletes r b).control =
      ((((s.storeScan r).selectedAtScan r b).testDie r.readings.tDie).triggerAndHeat
        (foldSample (s.storeScan r).fold b (s.storeScan r).foldDeb).2 r.readings.tDie).control := by
    simp [State.scanCompletes, State.blocksAtScan_eq]
  have cells : ∀ d, ((s.scanCompletes r b).cells.get d).view =
      (((((s.storeScan r).selectedAtScan r b).testDie r.readings.tDie).triggerAndHeat
        (foldSample (s.storeScan r).fold b (s.storeScan r).foldDeb).2 r.readings.tDie).cells.get d).view := by
    simp [State.scanCompletes, State.blocksAtScan_eq]
  have state : (((s.storeScan r).selectedAtScan r b).testDie r.readings.tDie).control.shipView = s.control.shipView := by
    simp [State.selectedAtScan, State.testDie, Controller.shipView]
  by_cases entry : s.control.state = .shipEntry
  · obtain ⟨controlStands, cellsStand⟩ := State.triggerAndHeat_of_shipEntry
      ((Controller.shipView_eq state).1.trans entry) (foldSample (s.storeScan r).fold b (s.storeScan r).foldDeb).2
      r.readings.tDie
    refine h.of_notShip notShip (by rw [control, controlStands, state]) fun d ho => ?_
    refine State.pathOpen_of_view cells d ?_
    rw [cellsStand]
    exact (s.storeScan r).pathOpen_selectedAtScan r b d ho
  · have awake : (((s.storeScan r).selectedAtScan r b).testDie r.readings.tDie).awake := by
      unfold State.awake
      rw [(Controller.shipView_eq state).1]
      exact ⟨notShip, entry⟩
    obtain ⟨offShip, offEntry⟩ := awake.triggerAndHeat (foldSample (s.storeScan r).fold b (s.storeScan r).foldDeb).2
      r.readings.tDie
    rw [← control] at offShip offEntry
    exact State.shipSequenced_of_awake offShip offEntry

theorem State.shipSequenced.scanConverted {s : State} (h : s.shipSequenced) (x : Analog) (b : Bool) :
    (s.scanConverted x b).shipSequenced := by
  unfold State.scanConverted
  split
  · rename_i r _ scanning
    have notShip : s.control.state ≠ .ship := by
      intro hs
      obtain ⟨-, -, -, -, unscanned, -⟩ := h.1 hs
      rw [unscanned] at scanning
      cases scanning
    split
    · refine State.shipSequenced.settle ?_
      have ended : s.endConversion.shipSequenced := h.of_notShip notShip (by simp) (by simp)
      unfold State.scanReading
      dsimp only
      split
      · exact ended.scanCompletes (by simpa using notShip) _ _
      · exact ended.of_notShip (by simpa using notShip) (by simp) (by simp)
    · exact h
  · exact h

/-! ### Start-up -/

theorem State.shipSequenced.endStartup {s : State} (h : s.shipSequenced) (started : s.control.startup = true) :
    s.endStartup.shipSequenced := by
  have notEntry : s.control.state ≠ .shipEntry := by
    intro he
    obtain ⟨off, -⟩ := h.2 he
    rw [off] at started
    cases started
  unfold State.endStartup
  dsimp only
  split
  · obtain ⟨notShip, notEntry⟩ := State.awake_enterQuiet ((State.closePath
      (s.setControl { s.control with shipStep := 7 }) .b).setControl
      { (State.closePath (s.setControl { s.control with shipStep := 7 }) .b).control with
        startup := false, shipStep := 0 })
    exact State.shipSequenced_of_awake notShip notEntry
  · have stepped : (s.setControl { s.control with shipStep := 7 }).shipSequenced :=
      ⟨h.1, fun he => absurd he notEntry⟩
    have closed := stepped.closePath .b
    exact ⟨fun hs => by simpa using closed.1 (by simpa using hs), fun he => absurd (by simpa using he) notEntry⟩

theorem State.shipSequenced.closeCellA {s : State} (h : s.shipSequenced) (started : s.control.startup = true) :
    s.closeCellA.shipSequenced := by
  refine State.shipSequenced.closePath (s := s.setControl { s.control with shipStep := 6 }) ⟨h.1, fun he => ?_⟩ .a
  obtain ⟨off, -⟩ := h.2 he
  rw [off] at started
  cases started

theorem State.shipSequenced.startupSlot {s : State} (h : s.shipSequenced) : s.startupSlot.shipSequenced := by
  unfold State.startupSlot
  split
  · rename_i started
    split
    · exact h.closeCellA started
    · exact h.endStartup started
    · exact h
  · exact h

/-- The start-up sequence begins in RUN, and at a slot length of 0 it ends there or in QUIET (R188). -/
theorem State.awake_beginStartup (s : State) : s.beginStartup.awake := by
  unfold State.beginStartup
  dsimp only
  split
  · unfold State.endStartup
    dsimp only
    split
    · exact State.awake_enterQuiet _
    · simp [State.awake, State.closeCellA]
  · simp [State.awake]

/-! ### SHIP -/

theorem State.awake_shipWake (s : State) : s.shipWake.awake := by
  unfold State.shipWake
  simpa [State.awake] using State.awake_beginStartup _

/-- With every path open the entry to SHIP, or the wake pending at it, keeps the ship sequence (R187). -/
theorem State.shipSequenced_enterShip {s : State} (openA : s.cells.a.pathOpen = true) (openB : s.cells.b.pathOpen = true)
    (openIn : s.control.inputOpen = true) : s.enterShip.shipSequenced := by
  have unallocated : s.abandonScan.abandonAllocation.allocator.inFlight = none := by
    unfold State.abandonAllocation
    split
    · assumption
    · simp
  have unscanned : (s.abandonScan.abandonAllocation.stopSeqForShip.withdrawRefresh).converter.scan = none :=
    congrArg Converter.ScanView.scan
      (show (s.abandonScan.abandonAllocation.stopSeqForShip.withdrawRefresh).converter.scanView =
        s.abandonScan.converter.scanView by simp)
  unfold State.enterShip
  dsimp only
  split
  · obtain ⟨notShip, notEntry⟩ := State.awake_shipWake _
    exact State.shipSequenced_of_awake notShip notEntry
  · refine ⟨fun _ => ?_, fun he => by cases he⟩
    refine ⟨?_, ?_, ?_, rfl, unscanned, by simpa using unallocated, rfl, rfl⟩
    · simpa using openA
    · simpa using openB
    · simpa using openIn

theorem State.shipSequenced.shipSlotExpires {s : State} (h : s.shipSequenced) (entry : s.control.state = .shipEntry) :
    s.shipSlotExpires.shipSequenced := by
  obtain ⟨started, low, high, stepB, stepA⟩ := h.2 entry
  unfold State.shipSlotExpires
  rw [if_pos entry]
  split
  · refine ⟨fun hs => ?_, fun _ => ?_⟩
    · simp [State.openCellB, entry] at hs
    · exact ⟨by simpa [State.openCellB] using started, by simp [State.openCellB], by simp [State.openCellB],
        fun _ => State.pathOpen_openPath_same _ .b, fun h3 => by simp [State.openCellB] at h3⟩
  · rename_i step
    have openB := stepB (by omega)
    refine ⟨fun hs => ?_, fun _ => ?_⟩
    · simp [State.openCellA, entry] at hs
    · exact ⟨by simpa [State.openCellA] using started, by simp [State.openCellA], by simp [State.openCellA],
        fun _ => State.pathOpen_openPath _ .a .b openB, fun _ => State.pathOpen_openPath_same _ .a⟩
  · rename_i step
    exact State.shipSequenced_enterShip (stepA (by omega)) (stepB (by omega)) rfl
  · exact h

theorem State.shipSequenced_acceptShip {s : State} (started : s.control.startup = false) : s.acceptShip.shipSequenced := by
  have ready : ∀ u : State, u.control.state = .shipEntry → u.control.startup = false → u.control.shipStep = 1 →
      u.shipSequenced := fun u he hs h1 =>
    ⟨fun hn => absurd (he.symm.trans hn) (by decide), fun _ => ⟨hs, by omega, by omega, by omega, by omega⟩⟩
  unfold State.acceptShip
  dsimp only
  split
  · exact State.shipSequenced_enterShip (State.pathOpen_openPath_same _ .a)
      (State.pathOpen_openPath _ .a .b (State.pathOpen_openPath_same _ .b)) rfl
  · split
    · exact ready _ (by simp) (by simpa using started) (by simp)
    · exact ready _ (by simp) (by simpa using started) (by simp)

theorem State.shipSequenced.ship {s : State} (h : s.shipSequenced) : s.ship.shipSequenced := by
  have refused : s.refuseShip.shipSequenced := h.of_view rfl (by simp) (by simp) (by simp) (by simp) (by simp)
  have accepted : s.shipAccepted = true → s.acceptShip.shipSequenced := fun ha => by
    simp only [State.shipAccepted, Bool.and_eq_true, Bool.not_eq_true'] at ha
    obtain ⟨⟨-, started⟩, -⟩ := ha
    exact State.shipSequenced_acceptShip started
  unfold State.ship
  split
  · split
    · exact accepted (by assumption)
    · exact refused
  · split
    · exact accepted (by assumption)
    · exact refused
  · exact refused
  · exact h
  · exact h

theorem State.shipSequenced.attachWake {s : State} (h : s.shipSequenced) (i : Input) : (s.attachWake i).shipSequenced := by
  unfold State.attachWake
  split
  · split
    · split
      · exact h
      · exact h.of_view rfl (by simp) (by simp) (by simp) (by simp) (by simp)
    · obtain ⟨notShip, notEntry⟩ := State.awake_shipWake (s.setControl { s.control with wakingSource := some i })
      exact State.shipSequenced_of_awake notShip notEntry
    · exact h
    · exact h
    · exact h
  · exact h

/-- SOFT_RESET acts in RUN, QUIET and HEAT alone, and leaves the part state (R189). -/
theorem State.shipSequenced.softReset {s : State} (h : s.shipSequenced) : s.softReset.shipSequenced := by
  unfold State.softReset
  split
  · rename_i acts
    have state : s.softResetBlocks.control.state = s.control.state := by
      unfold State.softResetBlocks
      dsimp only
      split <;> simp
    simp only [State.softResetActs, Bool.and_eq_true, bne_iff_ne] at acts
    rw [← state] at acts
    exact State.shipSequenced_of_awake acts.2 acts.1
  · exact h

/-! ### Every step -/

theorem shipSequenced_stepKeeps : StepKeeps State.shipSequenced where
  soft _ h := h.softReset
  skipItem _ h := h.of_view (by simp) (by simp) (by simp) (by simp) (by simp) (by simp)
  skipList _ h := h.of_view (by simp) (by simp) (by simp) (by simp) (by simp) (by simp)
  ship _ h := h.ship
  release _ c h := h.release c
  start _ _ h := h.of_view (by simp) (by simp) (by simp) (by simp) (by simp) (by simp)
  stop _ _ h := h.of_view (by simp) (by simp) (by simp) (by simp) (by simp) (by simp)
  clear _ h := h.of_view (by simp) (by simp) (by simp) (by simp) (by simp) (by simp)
  preset _ _ h := h.of_view (by simp) (by simp) (by simp) (by simp) (by simp) (by simp)
  next _ _ h := h.of_view (by simp) (by simp) (by simp) (by simp) (by simp) (by simp)
  note _ _ h := h.of_view (by simp) (by simp) (by simp) (by simp) (by simp) (by simp)
  mask _ _ h := h.of_view (by simp) (by simp) (by simp) (by simp) (by simp) (by simp)
  queue _ _ h := h.of_view (by simp) (by simp) (by simp) (by simp) (by simp) (by simp)
  settle _ h := h.settle
  port _ _ hp h := h.of_view (by simp) (by simp) (by simp) (by simp) (by simp) (by simpa using hp)
  endTransaction _ h := h.of_view (by simp) (by simp) (by simp) (by simp) (by simp) (by simp)
  requestLink _ h := h.of_view (by simp) (by simp) (by simp) (by simp) (by simp) (by simp)
  readDone _ h := h.of_view (by simp) (by simp) (by simp) (by simp) (by simp) (by simp)
  por _ _ := State.shipSequenced_of_awake (by simp [State.powerOnReset, State.reset, Reset.controller])
    (by simp [State.powerOnReset, State.reset, Reset.controller])
  begins s _ _ := State.shipSequenced_of_awake s.awake_beginStartup.1 s.awake_beginStartup.2
  slot _ h := h.startupSlot
  rise s h := by
    have edge : (s.setQreq true).shipSequenced := h.of_view rfl (by simp) (by simp) (by simp) (by simp) (by simp)
    unfold State.qreqRises
    dsimp only
    split
    · exact h
    · split
      · obtain ⟨notShip, notEntry⟩ := (s.setQreq true).awake_enterQuiet
        exact State.shipSequenced_of_awake notShip notEntry
      · exact edge
  fall s h := by
    have edge : (s.setQreq false).shipSequenced := h.of_view rfl (by simp) (by simp) (by simp) (by simp) (by simp)
    unfold State.qreqFalls
    dsimp only
    split
    · split
      · obtain ⟨notShip, notEntry⟩ := (s.setQreq false).awake_wake true
        exact (State.shipSequenced_of_awake notShip notEntry).settle
      · exact edge
    · exact h
  fast _ armed c x h := h.fastEvent armed c x
  collapse _ i h := h.collapseEvent i
  wake _ _ i h := h.attachWake i
  shipSlot _ entry h := h.shipSlotExpires entry
  period s running h := by
    have notShip : s.control.state ≠ .ship := by
      intro hs
      obtain ⟨-, -, -, stopped, -⟩ := h.1 hs
      rw [stopped] at running
      cases running
    exact h.of_notShip notShip (by simp) (by simp)
  scan _ x b h := h.scanConverted x b
  probe s x h := by
    unfold State.probeConverted
    split
    · split
      · refine State.shipSequenced.settle ?_
        split
        · exact h.of_view (by simp) (by simp) (by simp) (by simp) (by simp) (by simp)
        · exact h.of_view (by simp) (by simp) (by simp) (by simp) (by simp) (by simp)
      · exact h
    · exact h
  gauge s e h := by
    have written : (s.gaugeWrite e).shipSequenced :=
      h.of_view (by simp) (by simp) (by simp) (by simp) (by simp) (by simp)
    have ended : ∀ {u : State}, u.shipSequenced → u.endTransaction.requestGauge.shipSequenced :=
      fun hu => hu.of_view (by simp) (by simp) (by simp) (by simp) (by simp) (by simp)
    refine State.shipSequenced.settle (ended ?_)
    split
    · refine written.of_alike (by simp) (by simp) (by simp) (by simp) (fun hn => ?_) (by simp)
      unfold State.gaugeAwaited
      dsimp only
      split
      · exact State.handBatches_unallocated (by simpa using hn) _ _
      · simpa using hn
      · simpa using hn
    · exact written
  alloc s ready h := by
    have notShip : s.control.state ≠ .ship := by
      intro hs
      obtain ⟨-, -, -, -, -, unallocated, -⟩ := h.1 hs
      simp [State.allocationReady, unallocated] at ready
    exact h.of_notShip notShip (by simp) fun d ho => (s.pathOpen_completeAllocation d).trans ho
  waitRefresh _ h := h.of_view (by simp) (by simp) (by simp) (by simp) (by simp) (by simp)
  fetch _ _ _ _ h := h.of_view (by simp) (by simp) (by simp) (by simp) (by simp) (by simp)
  item s ws h := by
    unfold State.itemFetchCompleted
    split
    · exact h.of_view (by simp) (by simp) (by simp) (by simp) (by simp) (by simp)
    · exact h.of_view (by simp) (by simp) (by simp) (by simp) (by simp) (by simp)
  written s h := by
    unfold State.seqWriteCompleted
    split
    · exact h.of_view (by simp) (by simp) (by simp) (by simp) (by simp) (by simp)
    · exact h.of_view (by simp) (by simp) (by simp) (by simp) (by simp) (by simp)

/-- Settles O11: the ship sequence is kept by every effect, and in SHIP none of the part's own events arrives. -/
theorem stepKeepsShipSequenced : Obligations.StepKeepsShipSequenced := by
  unfold Obligations.StepKeepsShipSequenced
  exact fun _ _ hs h => shipSequenced_stepKeeps.step hs h

end Sys2Proof.Machine
end

section
/-! PROOFS. O4: the power-on reset. -/
namespace Sys2Proof.Machine

/-- The converter after POR: only a probe conversion runs out, its reading dropped (log entry 49). -/
theorem Converter.afterPor_eq (x : Converter) :
    x.afterPor = { State.reset.converter with inFlight := onlyDroppedProbe x.inFlight } := by
  unfold Converter.afterPor
  cases x.inFlight <;> rfl

/-- The arbiter after POR: only a transaction of the counters ends there (log entry 49). -/
theorem Arbiter.afterPor_eq (x : Arbiter) :
    x.afterPor = { State.reset.arbiter with
      underWay := match x.underWay with
        | some (.gauge _) => none
        | y => y } := by
  obtain ⟨_, _, _, _, _, _, underWay, _⟩ := x
  rcases underWay with _ | t
  · rfl
  · cases t <;> rfl

/-- Settles O4: a POR writes the constants of the reset tables, but for what the two lemmas above keep. -/
theorem porGivesResetValues : Obligations.PorGivesResetValues := by
  unfold Obligations.PorGivesResetValues
  refine ⟨fun s => ?_, ?_, ?_, ?_, ?_, ?_, ?_, ?_, ?_, ?_, ?_, ?_, ?_, ?_⟩
  case refine_1 =>
    exact congrArg₂ (fun converter arbiter => Host.Outcome.next { s.powerOnReset with
      converter := converter, arbiter := arbiter }) s.converter.afterPor_eq s.arbiter.afterPor_eq
  case refine_2 => intro c; cases c <;> decide
  case refine_6 => intro c; cases c <;> rfl
  case refine_7 => intro c; cases c <;> decide
  case refine_9 =>
    refine ⟨rfl, rfl, rfl, rfl, rfl, rfl, rfl, rfl, rfl, rfl, rfl, rfl, fun c => ?_⟩
    cases c <;> rfl
  case refine_13 =>
    refine ⟨rfl, rfl, rfl, rfl, rfl, fun k => ?_, rfl, rfl⟩
    cases k <;> rfl
  all_goals decide
end Sys2Proof.Machine
end

section
/-! PROOFS. O3: the events that cannot arrive. Each event's meaning is guarded, and answers the state as it stands where
its guard fails. -/
namespace Sys2Proof.Machine

/-- A guarded meaning whose guard fails answers the state as it stands. -/
theorem next_of_guard_fails {p : Prop} [Decidable p] {s : State} (t : State) (h : ¬ p) :
    (Host.Outcome.next (if p then t else s) : Host.Outcome State Fault Refusal) = .next s := by
  rw [if_neg h]

/-- A scan conversion completes only while one is in flight for a scan record, and with a reading of its channel. -/
theorem State.scanConverted_of_no_scan {s : State} (x : Analog) (b : Bool) (h : s.converter.inFlight ≠ .scan) :
    s.scanConverted x b = s := by
  unfold State.scanConverted
  split
  next h' _ => exact absurd h' h
  next => rfl

/-- No reading of the first scan channel, a current, is an open thermistor. -/
theorem State.scanConverted_thermistorOpen {s : State} {r : ScanRecord} (b : Bool) (flight : s.converter.inFlight = .scan)
    (scan : s.converter.scan = some r) (first : r.next = 0) : s.scanConverted .thermistorOpen b = s := by
  simp [State.scanConverted, flight, scan, first, reading, isThermistor]

theorem State.probeConverted_of_no_probe {s : State} (x : Analog) (h : ∀ ch d, s.converter.inFlight ≠ .probe ch d) :
    s.probeConverted x = s := by
  unfold State.probeConverted
  split
  next ch d h' => exact absurd h' (h ch d)
  next => rfl

/-- The three transactions of the counters complete only while one of them is under way. -/
theorem exec_gauge_of_none {s : State} (h : s.arbiter.gaugeUnderWay = false) :
    exec .gaugeIntegrate s = .next s ∧ exec .gaugeFull s = .next s ∧ exec .gaugePreset s = .next s := by
  have none : ∀ e, s.arbiter.underWay ≠ some (.gauge e) := by
    intro e underWay
    simp [Arbiter.gaugeUnderWay, underWay] at h
  refine ⟨?_, ?_, ?_⟩ <;> refine congrArg Host.Outcome.next ?_
  · split
    next iA iB t eA eB underWay => exact absurd underWay (none _)
    next => rfl
  · split
    next c underWay => exact absurd underWay (none _)
    next => rfl
  · split
    next c underWay => exact absurd underWay (none _)
    next => rfl

/-- A run of LINK completes only in its own direction. -/
theorem Arbiter.runUnderWay_iff {x : Arbiter} {d : Direction} :
    x.runUnderWay d = true ↔ x.underWay = some (.link d) := by
  unfold Arbiter.runUnderWay
  split
  next e h => rw [h]; simp
  next h => constructor
            · intro h'; cases h'
            · intro h'; exact absurd h' (h d)

/-- Settles O3. -/
theorem eventsThatCannotArrive : Obligations.EventsThatCannotArrive := by
  unfold Obligations.EventsThatCannotArrive
  intro s
  refine ⟨?_, ?_, ?_, ?_, ?_, ?_, ?_, ?_, ?_, ?_, ?_, ?_, ?_, exec_gauge_of_none, ?_, ?_, ?_, ?_, ?_, ?_, ?_⟩
  case refine_1 => exact fun h => next_of_guard_fails _ (by rw [h]; decide)
  case refine_2 => exact fun h => congrArg Host.Outcome.next (by simp [State.startupSlot, h])
  case refine_3 => exact fun h => congrArg Host.Outcome.next (by simp [State.qreqRises, h])
  case refine_4 => exact fun h => congrArg Host.Outcome.next (by simp [State.qreqFalls, h])
  case refine_5 => exact fun h => next_of_guard_fails _ h
  case refine_6 => exact fun e h => next_of_guard_fails _ (by simp [h])
  case refine_7 =>
    refine fun i h => next_of_guard_fails _ ?_
    rcases h with disarmed | ⟨notEntry, notShip⟩
    · simp [State.wakeCanArrive, disarmed]
    · simp [State.wakeCanArrive, notEntry, notShip]
  case refine_8 => exact fun h => next_of_guard_fails _ (by simp [h])
  case refine_9 =>
    refine fun h => next_of_guard_fails _ ?_
    rcases h with stopped | notWait | more
    · simp [stopped]
    · simp [State.waitEnds, notWait]
    · simp [State.waitEnds, more]
  case refine_10 =>
    refine fun h => next_of_guard_fails _ ?_
    rcases h with notReady | notRest | more
    · simp [notReady]
    · simp [State.restEnds, notRest]
    · simp [State.restEnds, more]
  case refine_11 => exact fun x b h => congrArg Host.Outcome.next (State.scanConverted_of_no_scan x b h)
  case refine_12 =>
    exact fun r b flight scan first => congrArg Host.Outcome.next (State.scanConverted_thermistorOpen b flight scan first)
  case refine_13 => exact fun x h => congrArg Host.Outcome.next (State.probeConverted_of_no_probe x h)
  case refine_14 => exact fun h => next_of_guard_fails _ (by simp [h])
  case refine_15 =>
    refine fun h => congrArg Host.Outcome.next ?_
    split
    next b underWay => exact absurd underWay (h b)
    next => rfl
  case refine_16 =>
    refine fun h => congrArg Host.Outcome.next ?_
    split
    next c i ws underWay => exact absurd underWay (h c i ws)
    next => rfl
  case refine_17 =>
    refine fun h => congrArg Host.Outcome.next ?_
    split
    next i ws underWay => exact absurd underWay (h i ws)
    next => rfl
  case refine_18 =>
    refine fun h => congrArg Host.Outcome.next ?_
    split
    next i v underWay => exact absurd underWay (h i v)
    next => rfl
  case refine_19 => exact fun h => next_of_guard_fails _ (mt Arbiter.runUnderWay_iff.mp h)
  case refine_20 => exact fun h => next_of_guard_fails _ (mt Arbiter.runUnderWay_iff.mp h)

end Sys2Proof.Machine
end

section
/-! PROOFS. O33, O37 and O44: the trip conditions, the fast comparators and the release. -/
namespace Sys2Proof.Machine

/-- Settles O44: the trip condition found is the first of R14 that holds, in the order of R16. -/
theorem tripConditions : Obligations.TripConditions := by
  unfold Obligations.TripConditions
  intro s r c ov occ ocd ot hinge
  have found : s.tripConditionOf r c =
      if ov then some .ov else if occ then some .occ else if ocd then some .ocd else if ot then some .ot
      else if hinge then some .hinge else none := rfl
  rw [found]
  by_cases hov : ov
  · simp [hov]
  by_cases hocc : occ
  · simp [hov, hocc]
  by_cases hocd : ocd
  · simp [hov, hocc, hocd]
  by_cases hot : ot
  · simp [hov, hocc, hocd, hot]
  · simp [hov, hocc, hocd, hot]

theorem saturatingSucc_eq_min {top n : Nat} (h : n ≤ top) : saturatingSucc top n = min top (n + 1) := by
  unfold saturatingSucc
  split <;> omega

/-- The transfer converter after an event of R119. -/
def Transfer.rested (t : Transfer) (xrest : Nat) (cause : StopCause) : Transfer :=
  match t.state with
  | .off => t
  | .rest => { t with rest := xrest }
  | _ => { t with state := .rest, current := 0, rest := xrest, stopCause := cause }

theorem State.forceRest_eq (s : State) (cause : StopCause) :
    s.forceRest cause = s.setTransfer (s.transfer.rested s.xrest cause) := by
  simp only [State.forceRest, Transfer.rested]
  cases s.transfer.state <;> rfl

/-- A trip as one record: the cell path, the notice and the transfer converter (R17, R119). -/
theorem State.tripCell_eq (s : State) (c : CellId) (record : TripRecord) :
    s.tripCell c record = { s with
      cells := s.cells.set c { s.cell c with
        charge := .tripped
        pathOpen := true
        setPoint := 0
        termCount := 0
        trip := some ((s.cell c).trip.getD record)
        tripCount := saturatingSucc 255 (s.cell c).tripCount }
      notices := { s.notices with sticky := s.notices.sticky.set (tripCauseOf c) true }
      transfer := s.transfer.rested s.xrest .cell } := by
  unfold State.tripCell
  rw [State.forceRest_eq]
  rfl

/-- Settles O37. -/
theorem fastComparatorTrips : Obligations.FastComparatorTrips := by
  unfold Obligations.FastComparatorTrips
  intro s e c x
  have event : s.control.fastArmed = true →
      exec (.fastComparatorEvent e) s = .next (s.fastEvent c (comparatorCause e)) :=
    fun armed => congrArg Host.Outcome.next (if_pos armed)
  constructor
  · intro armed tripped count
    rw [event armed, State.fastEvent, if_pos tripped, ← saturatingSucc_eq_min count]
    rfl
  · intro armed notTripped count
    rw [event armed, State.fastEvent, if_neg notTripped, State.tripCell_eq, ← saturatingSucc_eq_min count]
    rfl

/-- An opening cause that stands for a cell that is not TRIPPED (R7, R19; log entry 31). -/
theorem State.openingStands_iff {s : State} {c : CellId} (h : (s.cell c).charge ≠ .tripped) :
    s.openingStands c = true ↔
      s.control.state = .heat ∨ s.control.state = .ship ∨
        (s.control.state = .shipEntry ∧ openingStep c ≤ s.control.shipStep) ∨
        (s.control.startup = true ∧ s.control.shipStep < closingStep c) := by
  simp [State.openingStands, h, or_assoc]

/-- A closing changes no more than the path switch, and that where no cause of opening stands. -/
theorem State.closePath_eq {s : State} {c : CellId} (h : (s.cell c).charge ≠ .tripped) :
    s.closePath c = s.setCell c { s.cell c with
      pathOpen :=
        if s.control.state = .heat ∨ s.control.state = .ship ∨
            (s.control.state = .shipEntry ∧ openingStep c ≤ s.control.shipStep) ∨
            (s.control.startup = true ∧ s.control.shipStep < closingStep c) then (s.cell c).pathOpen
        else false } := by
  unfold State.closePath
  split
  next stands =>
    rw [if_pos ((State.openingStands_iff h).mp stands)]
    cases c <;> rfl
  next free => rw [if_neg (mt (State.openingStands_iff h).mpr free)]

theorem exec_releaseOf {s : State} (serving : s.port.serving = true) (c : CellId) :
    exec (releaseOf c) s = .next (s.release c) := by
  cases c <;> exact congrArg Host.Outcome.next (if_pos serving)

/-- Settles O33. -/
theorem release : Obligations.Release := by
  unfold Obligations.Release
  intro s c serving x
  rw [exec_releaseOf serving, State.release]
  refine ⟨fun notTripped => ?_, fun tripped condition => ?_, fun tripped condition => ?_⟩
  · rw [if_pos notTripped]
    rfl
  · rw [if_neg (not_not.mpr tripped), if_pos condition]
    rfl
  · rw [if_neg (not_not.mpr tripped), if_neg (by simp [condition]), State.closePath_eq]
    · cases c <;> rfl
    · cases c <;> simp [State.modAllocation, State.cell, State.setCell, PerCell.get, PerCell.set]

end Sys2Proof.Machine
end

section
/-! PROOFS. O51: the charge state tests. -/
namespace Sys2Proof.Machine

theorem Holds.nonempty_iff {h : Holds} :
    h.nonempty = true ↔ h.band = true ∨ h.window = true ∨ h.quiet = true ∨ h.heat = true := by
  simp [Holds.nonempty, or_assoc]

theorem ChargeState.keepsTaper_iff {st : ChargeState} :
    st.keepsTaper = true ↔ st = .bulk ∨ st = .taper ∨ st = .idle := by
  cases st <;> decide

theorem effectiveCeiling_le (ceiling derate imaxChg : Nat) (reduced : Bool) :
    effectiveCeiling ceiling derate imaxChg reduced ≤ imaxChg := by
  unfold effectiveCeiling
  have bound : min (ceiling * derate / 256) imaxChg ≤ imaxChg := Nat.min_le_right _ _
  cases reduced
  · exact bound
  · exact (Nat.div_le_self _ 2).trans bound

theorem taperStep_le (tp e vcell vlim taperMin taperHyst : Nat) :
    taperStep tp e vcell vlim taperMin taperHyst ≤ e := by
  unfold taperStep
  dsimp only
  split
  · exact (Nat.sub_le _ _).trans (Nat.min_le_right _ _)
  · split
    · exact Nat.min_le_left _ _
    · exact Nat.min_le_right _ _

/-- E and Vlim, whatever state is found (R93). -/
theorem ceilingStage_e_vlim (x : CellSnapshot) (out : Output) (c : CellId) (reduced : Bool) (pIn : Nat) (pAvail : Int)
    (rd : CeilingRead) :
    (ceilingStage x out c reduced pIn pAvail rd).e =
        effectiveCeiling out.ceiling x.band.derate (rd.imaxChg.get c) reduced ∧
      (ceilingStage x out c reduced pIn pAvail rd).vlim = out.vcap - x.band.vcapDrop := by
  dsimp only [ceilingStage]
  split <;> exact ⟨rfl, rfl⟩

/-- What the statement says of a cell that is not charging. -/
theorem ceilingStage_not_charging {x : CellSnapshot} {out : Output} {c : CellId} {reduced : Bool} {pIn : Nat}
    {pAvail : Int} {rd : CeilingRead} {found : ChargeState}
    (h : chargeTest x (out.vcap - x.band.vcapDrop) pIn pAvail rd = some found) :
    let st := ceilingStage x out c reduced pIn pAvail rd
    st.found = found ∧ (found = .precharge → st.g = min (rd.ipre.get c) (rd.imaxChg.get c)) ∧
      st.tp = (if x.renewal then st.e else x.tp) ∧ st.termCount = 0 ∧ st.terminated = false ∧
      (st.found ≠ .precharge → st.g = 0) := by
  intro st
  have hst : st = _ := ceilingStage_of_test h
  rw [hst]
  exact ⟨rfl, fun hp => if_pos hp, rfl, rfl, rfl, fun hp => if_neg hp⟩

/-- What the statement says of a charging cell, for the Tp its taper step gives. -/
theorem ceilingStage_charging {x : CellSnapshot} {out : Output} {c : CellId} {reduced : Bool} {pIn : Nat}
    {pAvail : Int} {rd : CeilingRead} (h : chargeTest x (out.vcap - x.band.vcapDrop) pIn pAvail rd = none) :
    let st := ceilingStage x out c reduced pIn pAvail rd
    st.tp = taperOf x rd st.e st.vlim ∧ (st.terminated = true ↔ chargeEnds x rd st.e st.tp) ∧
      (st.tp = st.e → st.found = .bulk ∧ st.g = st.e ∧ st.termCount = 0) ∧
      (st.tp < st.e → ¬ chargeEnds x rd st.e st.tp →
        st.found = .taper ∧ st.g = st.tp ∧ st.termCount = countOf x rd st.e st.tp) ∧
      (chargeEnds x rd st.e st.tp → st.found = .full ∧ st.g = 0 ∧ st.termCount = 0) := by
  intro st
  have hle : taperOf x rd (effectiveCeiling out.ceiling x.band.derate (rd.imaxChg.get c) reduced)
      (out.vcap - x.band.vcapDrop) ≤ effectiveCeiling out.ceiling x.band.derate (rd.imaxChg.get c) reduced :=
    taperStep_le ..
  obtain ⟨ends, goesOn⟩ := ceilingStage_of_charging (c := c) (reduced := reduced) h
  by_cases he : chargeEnds x rd (effectiveCeiling out.ceiling x.band.derate (rd.imaxChg.get c) reduced)
      (taperOf x rd (effectiveCeiling out.ceiling x.band.derate (rd.imaxChg.get c) reduced)
        (out.vcap - x.band.vcapDrop))
  · have hst : st = _ := ends he
    rw [hst]
    exact ⟨rfl, iff_of_true rfl he, fun full => absurd full (Nat.ne_of_lt he.1), fun _ not => absurd he not,
      fun _ => ⟨rfl, rfl, rfl⟩⟩
  · have hst : st = _ := goesOn he
    rw [hst]
    refine ⟨rfl, iff_of_false Bool.false_ne_true he, fun full => ?_, fun below _ => ?_, fun ends => absurd ends he⟩
    · have notBelow := Nat.not_lt.mpr (Nat.le_of_eq full.symm)
      exact ⟨if_neg notBelow, Nat.min_eq_left (Nat.le_of_eq full.symm), if_neg fun low => notBelow low.1⟩
    · exact ⟨if_pos below, Nat.min_eq_right hle, rfl⟩

/-- Settles O51: the cases are the tests of R1, in their order. -/
theorem chargeStateTests : Obligations.ChargeStateTests := by
  unfold Obligations.ChargeStateTests
  intro x out c reduced pIn pAvail rd st bound t1 t2 t3 t4 t5 t6 charging keeps tp step count ends
  obtain ⟨he, hv⟩ := ceilingStage_e_vlim x out c reduced pIn pAvail rd
  have tests : chargeTest x (out.vcap - x.band.vcapDrop) pIn pAvail rd =
      if t1 then some .tripped else if t2 then some .absent else if t3 then some .held else if t4 then some .full
      else if t5 then some .idle else if t6 then some .precharge else none := by
    simp only [chargeTest, Holds.nonempty_iff, ← hv]
    rfl
  have hreads : st.e ≤ rd.imaxChg.get c := he ▸ effectiveCeiling_le ..
  have named : ∀ found, chargeTest x (out.vcap - x.band.vcapDrop) pIn pAvail rd = some found →
      st.found = found ∧ (found = .precharge → st.g = min (rd.ipre.get c) (rd.imaxChg.get c)) ∧
      st.tp = (if x.renewal then st.e else x.tp) ∧ st.termCount = 0 ∧ st.terminated = false ∧
      (st.found ≠ .precharge → st.g = 0) := fun _ h => ceilingStage_not_charging h
  refine ⟨he, hv, fun h1 => ?_, fun h1 h2 => ?_, fun h1 h2 h3 => ?_, fun h1 h2 h3 h4 => ?_, fun h1 h2 h3 h4 h5 => ?_,
    fun h1 h2 h3 h4 h5 h6 => ?_, fun h => ?_, fun h => ?_, hreads⟩
  · exact (named .tripped (by simp [tests, h1])).1
  · exact (named .absent (by simp [tests, h1, h2])).1
  · exact (named .held (by simp [tests, h1, h2, h3])).1
  · exact (named .full (by simp [tests, h1, h2, h3, h4])).1
  · exact (named .idle (by simp [tests, h1, h2, h3, h4, h5])).1
  · obtain ⟨found, g, -⟩ := named .precharge (by simp [tests, h1, h2, h3, h4, h5, h6])
    exact ⟨found, g rfl⟩
  · have some_ : chargeTest x (out.vcap - x.band.vcapDrop) pIn pAvail rd ≠ none := by
      intro none_
      rw [tests] at none_
      split_ifs at none_ with h1 h2 h3 h4 h5 h6
      exact h ⟨h1, h2, h3, h4, h5, h6⟩
    obtain ⟨found, hf⟩ := Option.ne_none_iff_exists'.mp some_
    exact (named found hf).2.2
  · obtain ⟨h1, h2, h3, h4, h5, h6⟩ := h
    have none_ : chargeTest x (out.vcap - x.band.vcapDrop) pIn pAvail rd = none := by
      simp [tests, h1, h2, h3, h4, h5, h6]
    obtain ⟨htp, hterm, bulk, taper, full⟩ := ceilingStage_charging (c := c) (reduced := reduced) none_
    have kept : (if x.charge.keepsTaper then if x.renewal then st.e else x.tp else st.e) =
        if keeps ∧ x.renewal = false then x.tp else st.e := by
      by_cases hk : keeps
      · rw [if_pos (ChargeState.keepsTaper_iff.mpr hk)]
        cases hr : x.renewal <;> simp [hk]
      · rw [if_neg (mt ChargeState.keepsTaper_iff.mp hk), if_neg fun h => hk h.1]
    have step_ : st.tp = if st.vlim ≤ x.vcell then tp - step
        else if x.vcell < st.vlim - rd.taperHyst then min st.e (tp + step) else tp := by
      rw [show st.tp = taperOf x rd st.e st.vlim from htp, taperOf, taperStep, kept]
    exact ⟨step_, hterm, bulk, taper, full, by rw [show st.tp = _ from htp]; exact taperStep_le ..⟩

end Sys2Proof.Machine
end

section
/-! PROOFS. O38: the collapse of an input and the selection that follows it. -/
namespace Sys2Proof.Machine

theorem sourceOf_otherInput_ne (i : Input) : sourceOf (otherInput i) ≠ sourceOf i := by cases i <;> decide

theorem sourceOf_ne_none (i : Input) : sourceOf i ≠ .none := by cases i <;> decide

/-- A collapse leaves its input DETACHED, the other as it was. -/
theorem State.collapse_detection (s : State) (i : Input) :
    ((s.collapse i).selector.detection i).state = .detached ∧
      (s.collapse i).selector.detection (otherInput i) = s.selector.detection (otherInput i) := by
  unfold State.collapse
  split
  next => cases i <;> exact ⟨rfl, rfl⟩
  next => cases i <;> exact ⟨rfl, rfl⟩
  next h => exact ⟨h, rfl⟩

/-- A collapse leaves the selection and the changeover as they are. -/
theorem State.collapse_selection (s : State) (i : Input) :
    (s.collapse i).selector.selected = s.selector.selected ∧ (s.collapse i).selector.phase = s.selector.phase ∧
      (s.collapse i).selector.target = s.selector.target := by
  unfold State.collapse
  split
  next => cases i <;> exact ⟨rfl, rfl, rfl⟩
  next => cases i <;> exact ⟨rfl, rfl, rfl⟩
  next => exact ⟨rfl, rfl, rfl⟩

theorem State.collapse_of_attached {s : State} {i : Input} (h : (s.selector.detection i).state = .attached) :
    s.collapse i = (s.setDetection i { state := .detached, settle := 0 }).raise .source := by
  unfold State.collapse
  rw [h]

theorem State.collapse_of_settling {s : State} {i : Input} (h : (s.selector.detection i).state = .settling) :
    s.collapse i = s.setDetection i { state := .detached, settle := 0 } := by
  unfold State.collapse
  rw [h]

theorem State.collapse_of_detached {s : State} {i : Input} (h : (s.selector.detection i).state = .detached) :
    s.collapse i = s := by
  unfold State.collapse
  rw [h]

/-- With one input not ATTACHED the wanted source is the other, or none (R128). -/
theorem State.wantedSource_of_not_attached {s : State} {i : Input} (h : (s.selector.detection i).state ≠ .attached) :
    s.wantedSource =
      if (s.selector.detection (otherInput i)).state = .attached then some (otherInput i) else none := by
  cases i
  · change s.selector.wired.state ≠ .attached at h
    change _ = if s.selector.coil.state = .attached then some Input.coil else none
    by_cases hc : s.selector.coil.state = .attached <;> simp [State.wantedSource, h, hc]
  · change s.selector.coil.state ≠ .attached at h
    change _ = if s.selector.wired.state = .attached then some Input.wired else none
    by_cases hw : s.selector.wired.state = .attached <;> simp [State.wantedSource, h, hw]

theorem State.wantedSource_collapse (s : State) (i : Input) :
    (s.collapse i).wantedSource =
      if (s.selector.detection (otherInput i)).state = .attached then some (otherInput i) else none := by
  obtain ⟨gone, other⟩ := s.collapse_detection i
  rw [State.wantedSource_of_not_attached (i := i) (by rw [gone]; decide), other]

theorem State.makeSelection_of_no_changeover {s : State} (h : s.selector.phase = .none) (b : Option Bool) :
    s.makeSelection b = s.selectPlain b := by
  unfold State.makeSelection
  rw [h]

theorem State.makeSelection_of_changeover {s : State} (h : s.selector.phase ≠ .none) (b : Option Bool) :
    s.makeSelection b = s.selectInChangeover b := by
  unfold State.makeSelection
  split
  next h' => exact absurd h' h
  next => rfl

/-- A selection that finds the selected source wanted, or none of both, changes nothing (R129). -/
theorem State.selectPlain_of_wanted {s : State} (b : Option Bool)
    (h : s.wantedSource.map sourceOf = if s.selector.selected = .none then none else some s.selector.selected) :
    s.selectPlain b = s := by
  unfold State.selectPlain
  split
  next => rfl
  next w selected wanted => simp [selected, wanted] at h
  next wanted none_ =>
    rw [if_neg none_, wanted] at h
    cases h
  next w wanted none_ =>
    rw [if_neg none_, wanted] at h
    exact if_pos (Option.some.inj h)

/-- A selection that finds the selected source no longer wanted loses it, to the other input when that is wanted. -/
theorem State.selectPlain_of_lost {s : State} {i : Input} (selected : s.selector.selected = sourceOf i)
    (wanted : s.wantedSource =
      if (s.selector.detection (otherInput i)).state = .attached then some (otherInput i) else none) :
    s.selectPlain none =
      if (s.selector.detection (otherInput i)).state = .attached then s.beginChangeover (otherInput i) false
      else s.loseSource.raise .source := by
  unfold State.selectPlain
  rw [wanted]
  split
  next none_ _ => exact absurd (selected.symm.trans none_) (sourceOf_ne_none i)
  next none_ _ => exact absurd (selected.symm.trans none_) (sourceOf_ne_none i)
  next wants _ =>
    rw [if_neg]
    intro attached
    rw [if_pos attached] at wants
    cases wants
  next w wants _ =>
    split at wants
    next attached =>
      obtain rfl : otherInput i = w := Option.some.inj wants
      rw [if_neg (by rw [selected]; exact sourceOf_otherInput_ne i), if_pos attached]
      rfl
    next => cases wants

/-- A selection at a collapse in a changeover: the other input is its target, or it is cancelled (R132). -/
theorem State.selectInChangeover_of_wanted {s : State} {i : Input}
    (wanted : s.wantedSource =
      if (s.selector.detection (otherInput i)).state = .attached then some (otherInput i) else none) :
    let turns := decide ((s.selector.detection (otherInput i)).state = .attached)
    s.selectInChangeover none = s.setSelector { s.selector with
      phase := if turns then s.selector.phase else .none
      target := if turns then some (otherInput i) else none } := by
  unfold State.selectInChangeover
  rw [wanted]
  by_cases attached : (s.selector.detection (otherInput i)).state = .attached
  · simp only [attached, decide_true, if_true]
  · simp only [attached, decide_false, Bool.false_eq_true, if_false]

/-- The set-points after a loss of the source: no charge, a supply as it stood (R8). -/
theorem State.loseSource_eq (s : State) :
    s.loseSource = { s with
      selector := { s.selector with selected := .none }
      cells := { a := { s.cells.a with setPoint := min 0 s.cells.a.setPoint }
                 b := { s.cells.b with setPoint := min 0 s.cells.b.setPoint } }
      allocator := { s.allocator with
        inFlight := s.allocator.inFlight.map fun al => { al with sourceLost := true } } } := by
  have zeroed : ∀ x : Int, (if 0 < x then 0 else x) = min 0 x := by
    intro x
    omega
  rw [← zeroed, ← zeroed]
  rfl

/-- Settles O38. -/
theorem inputCollapse : Obligations.InputCollapse := by
  unfold Obligations.InputCollapse
  have event : ∀ (s : State) (i : Input), exec (.inputCollapseEvent i) s = .next ((s.collapse i).makeSelection none) :=
    fun _ _ => rfl
  have kept : ∀ (s : State) (i : Input), s.selector.phase = .none →
      (s.collapse i).wantedSource.map sourceOf =
        (if s.selector.selected = .none then none else some s.selector.selected) →
      exec (.inputCollapseEvent i) s = .next (s.collapse i) := by
    intro s i plain wanted
    obtain ⟨selected, phase, -⟩ := s.collapse_selection i
    rw [event, State.makeSelection_of_no_changeover (phase.trans plain),
      State.selectPlain_of_wanted none (by rw [wanted, selected])]
  have turned : ∀ (s : State) (i : Input), s.selector.phase ≠ .none →
      let turns := decide ((s.selector.detection (otherInput i)).state = .attached)
      exec (.inputCollapseEvent i) s = .next ((s.collapse i).setSelector { (s.collapse i).selector with
        phase := if turns then s.selector.phase else .none
        target := if turns then some (otherInput i) else none }) := by
    intro s i changeover
    obtain ⟨-, phase, -⟩ := s.collapse_selection i
    obtain ⟨-, other⟩ := s.collapse_detection i
    rw [event, State.makeSelection_of_changeover (by rw [phase]; exact changeover),
      State.selectInChangeover_of_wanted (i := i)
        (by rw [State.wantedSource_collapse, other]), phase, other]
  refine ⟨fun s i settling plain unselected selected => ?_, fun s i attached plain selected other => ?_,
    fun s i attached selected plain => ?_, fun s i present changeover => ?_, fun s i gone changeover => ?_,
    fun s i gone plain wanted => ?_⟩
  · rw [← State.collapse_of_settling settling]
    refine kept s i plain ?_
    rw [State.wantedSource_collapse]
    by_cases hs : s.selector.selected = .none
    · rw [if_pos hs, if_neg (unselected hs)]
      rfl
    · obtain ⟨source, other⟩ := selected hs
      rw [if_neg hs, if_pos other, source]
      rfl
  · rw [kept s i plain, State.collapse_of_attached attached]
    · cases i <;> rfl
    · rw [State.wantedSource_collapse, if_pos other, selected, if_neg (sourceOf_ne_none _)]
      rfl
  · intro turns
    obtain ⟨hselected, phase, -⟩ := s.collapse_selection i
    obtain ⟨-, other⟩ := s.collapse_detection i
    rw [event, State.makeSelection_of_no_changeover (phase.trans plain),
      State.selectPlain_of_lost (hselected.trans selected) (by rw [State.wantedSource_collapse, other]), other,
      State.collapse_of_attached attached]
    by_cases ho : (s.selector.detection (otherInput i)).state = .attached
    · have ht : turns = true := decide_eq_true ho
      rw [if_pos ho, State.beginChangeover, State.loseSource_eq, ht]
      cases i <;> rfl
    · have ht : turns = false := decide_eq_false ho
      rw [if_neg ho, State.loseSource_eq, ht]
      cases i <;> (simp only [plain.symm]; rfl)
  · rw [turned s i changeover]
    cases hd : (s.selector.detection i).state with
    | detached => exact absurd hd present
    | settling =>
      rw [State.collapse_of_settling hd, show decide (DetectionState.settling = .attached) = false from rfl,
        Bool.or_false]
      cases i <;> rfl
    | attached =>
      rw [State.collapse_of_attached hd, show decide (DetectionState.attached = .attached) = true from rfl,
        Bool.or_true]
      cases i <;> rfl
  · rw [turned s i changeover, State.collapse_of_detached gone]
    rfl
  · rw [kept s i plain (by rw [State.collapse_of_detached gone, wanted]), State.collapse_of_detached gone]

end Sys2Proof.Machine
end

section
/-! PROOFS. Every step keeps the bounds of the lists, the weights and the counts (R17, R21, R25, R75, R88, R99, R141, R149,
R156). -/

namespace Sys2Proof.Machine

/-! ### The lists and counts of the sequencer -/

/-- Each bound of the sequencer passes from one state of it to another: 4 entries in the done queue (R156), an index
within range in the slot (R141), and the two counts (R149, R156). -/
structure Sequencer.KeepsBounds (q q' : Sequencer) : Prop where
  done : q.done.length ≤ 4 → q'.done.length ≤ 4
  slot : (∀ i, q.slot = some i → 0x100 ≤ i ∧ i ≤ 0xFFC) → ∀ i, q'.slot = some i → 0x100 ≤ i ∧ i ≤ 0xFFC
  faults : q.writeFaults ≤ 255 → q'.writeFaults ≤ 255
  overrun : q.doneOverrun ≤ 255 → q'.doneOverrun ≤ 255

theorem Sequencer.KeepsBounds.refl (q : Sequencer) : q.KeepsBounds q := ⟨id, id, id, id⟩

theorem Sequencer.KeepsBounds.trans {q r t : Sequencer} (h : q.KeepsBounds r) (k : r.KeepsBounds t) : q.KeepsBounds t :=
  ⟨fun x => k.done (h.done x), fun x => k.slot (h.slot x), fun x => k.faults (h.faults x), fun x => k.overrun (h.overrun x)⟩

theorem Sequencer.KeepsBounds.of_eq {q q' : Sequencer} (done : q'.done = q.done) (slot : q'.slot = q.slot)
    (faults : q'.writeFaults = q.writeFaults) (overrun : q'.doneOverrun = q.doneOverrun) : q.KeepsBounds q' :=
  ⟨fun h => by rwa [done], fun h => by rwa [slot], fun h => by rwa [faults], fun h => by rwa [overrun]⟩

/-- What an operation keeps, it keeps after a change of the sequencer that the bounds do not see. -/
theorem Sequencer.KeepsBounds.after_change {q r t : Sequencer} (k : r.KeepsBounds t) (done : r.done = q.done)
    (slot : r.slot = q.slot) (faults : r.writeFaults = q.writeFaults) (overrun : r.doneOverrun = q.doneOverrun) :
    q.KeepsBounds t := (Sequencer.KeepsBounds.of_eq done slot faults overrun).trans k

theorem saturatingSucc_le (top n : Nat) : saturatingSucc top n ≤ top := by
  unfold saturatingSucc
  split <;> omega

theorem isItemIndex_iff {i : Nat} : isItemIndex i = true ↔ 0x100 ≤ i ∧ i ≤ 0xFFC := by simp [isItemIndex]

theorem State.seqKept_post (s : State) (x : EndCode) : s.seq.KeepsBounds (s.post x).seq := by
  unfold State.post
  split
  · exact .refl _
  · split
    · rename_i room
      refine ⟨fun _ => ?_, id, id, id⟩
      simpa using room
    · exact ⟨id, id, id, fun _ => saturatingSucc_le _ _⟩

theorem State.seqKept_requestItem (s : State) (i : Nat) : s.seq.KeepsBounds (s.requestItem i).seq := .of_eq rfl rfl rfl rfl

theorem State.seqKept_startList (s : State) : s.seq.KeepsBounds s.startList.seq := by
  unfold State.startList
  split
  · exact .of_eq rfl rfl rfl rfl
  · exact ⟨id, fun _ _ hi => (Option.some_ne_none _ hi.symm).elim, id, id⟩

theorem State.seqKept_endList (s : State) : s.seq.KeepsBounds s.endList.seq :=
  (State.seqKept_startList (s.setSeq { s.seq with current := none })).after_change rfl rfl rfl rfl

theorem State.seqKept_endListWith (s : State) (x : EndCode) : s.seq.KeepsBounds (s.endListWith x).seq := by
  refine (s.seqKept_post x).trans ?_
  cases x with
  | bad => exact ((s.post .bad).raise .listBad).seqKept_endList
  | budget => exact ((s.post .budget).raise .listBad).seqKept_endList
  | ended => exact (s.post .ended).seqKept_endList
  | pass => exact (s.post .pass).seqKept_endList

theorem State.seqKept_finishItem (s : State) (i : Nat) : s.seq.KeepsBounds (s.finishItem i).seq := by
  unfold State.finishItem State.goOn
  split
  · exact s.seqKept_endListWith _
  · split
    · exact s.seqKept_requestItem i
    · exact s.seqKept_endListWith _

theorem State.seqKept_writeFault (s : State) : s.seq.KeepsBounds s.writeFault.seq := ⟨id, id, fun _ => saturatingSucc_le _ _, id⟩

theorem State.seqKept_writeResult (s : State) (i : Nat) (v : Word) : s.seq.KeepsBounds (s.writeResult i v).seq := by
  unfold State.writeResult
  split
  · exact .of_eq rfl rfl rfl rfl
  · exact s.seqKept_writeFault.trans (s.writeFault.seqKept_finishItem _)

theorem State.seqKept_writeSetting (s : State) (i : Nat) (v : Word) : s.seq.KeepsBounds (s.writeSetting i v).seq := by
  unfold State.writeSetting
  split
  · exact .of_eq rfl rfl rfl rfl
  · exact s.seqKept_writeFault.trans (s.writeFault.seqKept_finishItem _)

theorem State.seqKept_formResult (s : State) : s.seq.KeepsBounds s.formResult.seq := by
  unfold State.formResult
  split
  · exact (State.seqKept_writeResult (s.setSeq { s.seq with last := _ }) _ _).after_change rfl rfl rfl rfl
  · exact .refl _

theorem State.seqKept_beginConverting (s : State) : s.seq.KeepsBounds s.beginConverting.seq := by
  unfold State.beginConverting
  split
  · split
    · exact .of_eq rfl rfl rfl rfl
    · exact (State.seqKept_formResult (s.setSeq { s.seq with sum := _, taken := _ })).after_change rfl rfl rfl rfl
  · exact .refl _

theorem State.seqKept_takeTrigger (s : State) (g : Trigger) : s.seq.KeepsBounds (s.takeTrigger g).seq := by
  unfold State.takeTrigger
  split
  · split
    · exact s.seqKept_beginConverting
    · exact .refl _
  · exact .refl _

theorem State.seqKept_takeReading (s : State) (v : Int) : s.seq.KeepsBounds (s.takeReading v).seq := by
  unfold State.takeReading
  split
  · exact .of_eq rfl rfl rfl rfl
  · split
    · dsimp only
      split
      · exact .of_eq rfl rfl rfl rfl
      · split
        · exact .of_eq rfl rfl rfl rfl
        · exact (State.seqKept_formResult (s.setSeq { s.seq with sum := s.seq.sum + v, taken := s.seq.taken + 1 })).after_change rfl rfl rfl rfl
    · exact .refl _

theorem State.seqKept_compareFires (s : State) (n : Nat) (x : CompareAction) :
    s.seq.KeepsBounds (s.compareFires n x).seq := by
  unfold State.compareFires
  dsimp only
  cases x with
  | stopXfer => exact .of_eq (by simp) (by simp) (by simp) (by simp)
  | note | holdA | holdB => exact .of_eq rfl rfl rfl rfl

theorem State.seqKept_jump (s : State) (i : Nat) : s.seq.KeepsBounds (s.jump i).seq := by
  unfold State.jump
  dsimp only
  refine (s.seqKept_post .pass).trans ?_
  split
  · exact (s.post .pass).seqKept_endList
  · exact (s.post .pass).seqKept_finishItem i

theorem State.seqKept_carryOut (s : State) (x : Item) : s.seq.KeepsBounds (s.carryOut x).seq := by
  have counted : s.seq.KeepsBounds (s.setSeq { s.seq with budget := x.budgetAfter s.seq.budget }).seq :=
    .of_eq rfl rfl rfl rfl
  refine counted.trans ?_
  generalize hu : s.setSeq { s.seq with budget := x.budgetAfter s.seq.budget } = u
  unfold State.carryOut
  rw [hu]
  dsimp only
  cases x with
  | endItem => exact u.seqKept_endListWith _
  | bad k => exact u.seqKept_endListWith _
  | sample ch count g target =>
    cases g with
    | now => exact (State.seqKept_beginConverting (u.setSeq { u.seq with sum := 0, taken := 0 })).after_change rfl rfl rfl rfl
    | period | fold | swapA | swapB => exact .of_eq rfl rfl rfl rfl
  | compare flag action low high =>
    refine Sequencer.KeepsBounds.trans ?_ (State.seqKept_finishItem _ _)
    split
    · exact u.seqKept_compareFires _ _
    · exact .refl _
  | wait periods => exact .of_eq rfl rfl rfl rfl
  | mark what target => exact u.seqKept_writeResult _ _
  | branch c a target => exact u.seqKept_finishItem _
  | jump target => exact u.seqKept_jump _
  | setw v target => exact u.seqKept_writeSetting _ _

theorem State.seqKept_countWait (s : State) : s.seq.KeepsBounds s.countWait.seq := by
  unfold State.countWait
  split
  · dsimp only
    split
    · exact (State.seqKept_finishItem (s.setSeq { s.seq with waitCount := s.seq.waitCount - 1 }) _).after_change rfl rfl rfl rfl
    · exact .of_eq rfl rfl rfl rfl
  · exact .refl _

theorem State.seqKept_itemFetched (s : State) (x : Item) : s.seq.KeepsBounds (s.itemFetched x).seq := by
  unfold State.itemFetched
  dsimp only
  split
  · exact .of_eq rfl rfl rfl rfl
  · exact (State.seqKept_carryOut (s.setSeq { s.seq with item := some x, inFlight := .none }) x).after_change rfl rfl rfl rfl

theorem State.seqKept_itemWritten (s : State) : s.seq.KeepsBounds s.itemWritten.seq := by
  unfold State.itemWritten
  dsimp only
  split
  · exact .of_eq rfl rfl rfl rfl
  · exact (State.seqKept_finishItem (s.setSeq { s.seq with inFlight := .none }) _).after_change rfl rfl rfl rfl

theorem State.seqKept_writeNext (s : State) (v : Word) : s.seq.KeepsBounds (s.writeNext v).seq := by
  unfold State.writeNext
  split
  · exact .refl _
  · split
    · rename_i index
      have filled : s.seq.KeepsBounds (s.setSeq { s.seq with slot := some v.toNat }).seq :=
        ⟨id, fun _ _ hi => Option.some.inj hi ▸ isItemIndex_iff.1 index, id, id⟩
      dsimp only
      split
      · exact filled.trans (State.seqKept_startList _)
      · exact filled
    · exact .refl _

theorem State.seqKept_readDone (s : State) : s.seq.KeepsBounds s.readDone.2.seq := by
  unfold State.readDone
  split
  · exact .refl _
  · rename_i e rest queue
    refine ⟨fun h => ?_, id, id, id⟩
    simp only [queue, List.length_cons] at h
    show rest.length ≤ 4
    omega

theorem State.seqKept_skipToNext (s : State) : s.seq.KeepsBounds s.skipToNext.seq := by
  unfold State.skipToNext
  split
  · exact .of_eq rfl rfl rfl rfl
  · exact s.seqKept_finishItem _

theorem State.seqKept_skipItem (s : State) : s.seq.KeepsBounds s.skipItem.seq := by
  unfold State.skipItem
  split
  · exact s.seqKept_skipToNext
  · exact (State.seqKept_skipToNext (s.cancelSample.setSeq { s.cancelSample.seq with sum := 0, taken := 0 })).after_change rfl rfl rfl rfl
  · exact s.seqKept_skipToNext
  · exact .refl _
  · exact .refl _
  · exact .refl _
  · exact .refl _

theorem State.seqKept_skipList (s : State) : s.seq.KeepsBounds s.skipList.seq := by
  unfold State.skipList
  split
  · exact .refl _
  · dsimp only
    split
    · exact .of_eq rfl rfl rfl rfl
    · exact (State.seqKept_endList s.withdrawSeq.cancelSample).after_change rfl rfl rfl rfl

theorem State.seqKept_freeze (s : State) : s.seq.KeepsBounds s.freeze.seq := by
  unfold State.freeze
  split
  · exact .refl _
  · exact .of_eq rfl rfl rfl rfl

theorem State.seqKept_thaw (s : State) : s.seq.KeepsBounds s.thaw.seq := by
  have back : s.seq.KeepsBounds (s.setSeq { s.seq with state := s.seq.kept, held := none }).seq := .of_eq rfl rfl rfl rfl
  unfold State.thaw
  split
  · dsimp only
    refine back.trans ?_
    split
    · split
      · exact State.seqKept_carryOut _ _
      · exact .refl _
    · exact State.seqKept_finishItem _ _
    · exact State.seqKept_formResult _
    · exact State.seqKept_startList _
    · exact .refl _
  · exact .refl _

/-- A reset of the sequencer leaves its lists and counts empty (R164). -/
theorem State.seqKept_resetSeq (s : State) (q : Sequencer) (st kept : SeqState) : q.KeepsBounds (s.resetSeq st kept).seq :=
  ⟨fun _ => Nat.zero_le 4, fun _ _ hi => (Option.some_ne_none _ hi.symm).elim, fun _ => Nat.zero_le 255, fun _ => Nat.zero_le 255⟩

theorem State.seqKept_swap (s : State) (c : CellId) (g : Segment) : s.seq.KeepsBounds (s.swap c g).seq := by
  unfold State.swap
  simpa using State.seqKept_takeTrigger (s.setChannel c _) (swapTrigger c)

theorem State.seqKept_segmentEnd (s : State) (c : CellId) : s.seq.KeepsBounds (s.segmentEnd c).seq := by
  unfold State.segmentEnd
  dsimp only
  split
  · exact .refl _
  · split
    · exact s.seqKept_swap c _
    · exact .refl _

theorem State.seqKept_takeQuantum (s : State) (c : CellId) : s.seq.KeepsBounds (s.takeQuantum c).seq := by
  unfold State.takeQuantum
  dsimp only
  split
  · unfold State.stepQuantum
    dsimp only
    split
    · exact .refl _
    · split
      · exact State.seqKept_segmentEnd (s.setChannel c _) c
      · exact .refl _
  · exact .refl _
  · exact .refl _
  · exact .refl _
  · exact .refl _
  · exact .refl _

theorem State.seqKept_fetchCompleted (s : State) (c : CellId) (i : Nat) (ws : List Word) :
    s.seq.KeepsBounds (s.fetchCompleted c i ws).seq := by
  unfold State.fetchCompleted
  dsimp only
  split
  · exact .refl _
  · split
    · exact .of_eq (by simp) (by simp) (by simp) (by simp)
    · exact .refl _
    · exact State.seqKept_swap (s.setChannel c _) c _
    · exact .refl _
    · exact .refl _
    · exact .refl _

theorem State.seqKept_enterQuiet (s : State) : s.seq.KeepsBounds s.enterQuiet.seq := by
  have held : ∀ u : State, s.seq.KeepsBounds u.seq → s.seq.KeepsBounds (if u.qpolProbe = .stopEffective then u.freeze else u).seq := by
    intro u h
    split
    · exact h.trans u.seqKept_freeze
    · exact h
  unfold State.enterQuiet
  dsimp only
  refine held _ ?_
  split <;> exact .of_eq (by simp) (by simp) (by simp) (by simp)

theorem State.seqKept_wake (s : State) (b : Bool) : s.seq.KeepsBounds (s.wake b).seq := by
  have thawed := State.seqKept_thaw ((s.setPartState .run).putHoldBoth .quiet false)
  unfold State.wake
  dsimp only
  split
  · simpa using thawed
  · simpa using thawed

theorem State.seqKept_testHeat (s : State) (t : Int) : s.seq.KeepsBounds (s.testHeat t).seq := by
  unfold State.testHeat
  split
  · exact .of_eq (by simp) (by simp) (by simp) (by simp)
  · split
    · unfold State.exitHeat
      dsimp only
      split
      · exact (State.seqKept_enterQuiet _).after_change (by simp) (by simp) (by simp) (by simp)
      · exact (State.seqKept_wake _ _).after_change (by simp) (by simp) (by simp) (by simp)
    · exact .refl _

theorem State.seqKept_triggerAndHeat (s : State) (b : Bool) (t : Int) :
    s.seq.KeepsBounds (s.triggerAndHeat b t).seq := by
  unfold State.triggerAndHeat
  split
  · split
    · exact (s.seqKept_testHeat t).trans (State.seqKept_takeTrigger _ _)
    · exact (s.seqKept_takeTrigger _).trans (State.seqKept_testHeat _ t)
  · exact s.seqKept_testHeat t

/-! ### The trip counts -/

/-- An update of a cell path that leaves its trip count leaves every cell's. -/
theorem State.tripCount_setCell {s : State} {c : CellId} {x : CellPath} (h : x.tripCount = (s.cells.get c).tripCount)
    (d : CellId) : ((s.setCell c x).cells.get d).tripCount = (s.cells.get d).tripCount := by
  rw [State.get_setCell]
  split
  · subst_vars
    exact h
  · rfl

@[simp] theorem State.tripCount_putHold (s : State) (c : CellId) (r : HoldReason) (v : Bool) (d : CellId) :
    ((s.putHold c r v).cells.get d).tripCount = (s.cells.get d).tripCount := by
  unfold State.putHold
  exact State.tripCount_setCell (by rfl) d

@[simp] theorem State.tripCount_putHoldBoth (s : State) (r : HoldReason) (v : Bool) (d : CellId) :
    ((s.putHoldBoth r v).cells.get d).tripCount = (s.cells.get d).tripCount := by simp [State.putHoldBoth]

@[simp] theorem State.tripCount_openPath (s : State) (c d : CellId) :
    ((s.openPath c).cells.get d).tripCount = (s.cells.get d).tripCount := by
  unfold State.openPath
  exact State.tripCount_setCell (by rfl) d

@[simp] theorem State.tripCount_closePath (s : State) (c d : CellId) :
    ((s.closePath c).cells.get d).tripCount = (s.cells.get d).tripCount := by
  unfold State.closePath
  split
  · rfl
  · exact State.tripCount_setCell (by rfl) d

@[simp] theorem State.tripCount_computeVcell (s : State) (r : Readings) (c d : CellId) :
    ((s.computeVcell r c).cells.get d).tripCount = (s.cells.get d).tripCount := by
  unfold State.computeVcell
  exact State.tripCount_setCell (by rfl) d

@[simp] theorem State.tripCount_followThresholds (s : State) (c d : CellId) :
    ((s.followThresholds c).cells.get d).tripCount = (s.cells.get d).tripCount := by
  unfold State.followThresholds
  exact State.tripCount_setCell (by rfl) d

@[simp] theorem State.tripCount_setReleaseResult (s : State) (c : CellId) (r : ReleaseResult) (d : CellId) :
    ((s.setReleaseResult c r).cells.get d).tripCount = (s.cells.get d).tripCount := by
  unfold State.setReleaseResult
  exact State.tripCount_setCell (by rfl) d

@[simp] theorem State.tripCount_zeroCharge (s : State) (c d : CellId) :
    ((s.zeroCharge c).cells.get d).tripCount = (s.cells.get d).tripCount := by
  unfold State.zeroCharge
  exact State.tripCount_setCell (by rfl) d

@[simp] theorem State.tripCount_setRenewal (s : State) (c d : CellId) :
    ((s.setRenewal c).cells.get d).tripCount = (s.cells.get d).tripCount := by
  unfold State.setRenewal
  exact State.tripCount_setCell (by rfl) d

@[simp] theorem State.tripCount_updateLatch (s : State) (r : Readings) (c d : CellId) :
    ((s.updateLatch r c).cells.get d).tripCount = (s.cells.get d).tripCount := by
  unfold State.updateLatch
  exact State.tripCount_setCell (by rfl) d

@[simp] theorem State.tripCount_becomeAbsent (s : State) (c d : CellId) :
    ((s.becomeAbsent c).cells.get d).tripCount = (s.cells.get d).tripCount := by
  simp only [State.becomeAbsent, State.forceRest_frame, State.modAllocation_fields]
  exact State.tripCount_setCell (by rfl) d

@[simp] theorem State.tripCount_release (s : State) (c d : CellId) :
    ((s.release c).cells.get d).tripCount = (s.cells.get d).tripCount := by
  unfold State.release
  split
  · simp
  · split
    · simp
    · simp only [State.tripCount_closePath, State.modAllocation_fields]
      exact State.tripCount_setCell (by rfl) d

@[simp] theorem State.tripCount_countersAtScan (s : State) (r : ScanRecord) (d : CellId) :
    ((s.countersAtScan r).cells.get d).tripCount = (s.cells.get d).tripCount := by simp [State.countersAtScan]

@[simp] theorem State.tripCount_lookupBand (s : State) (r : Readings) (c d : CellId) :
    ((s.lookupBand r c).cells.get d).tripCount = (s.cells.get d).tripCount := by
  unfold State.lookupBand
  dsimp only
  split <;> simp

@[simp] theorem State.tripCount_clearWindow (s : State) (d : CellId) :
    ((s.clearWindow).cells.get d).tripCount = (s.cells.get d).tripCount := by simp [State.clearWindow]

@[simp] theorem State.tripCount_compareFires (s : State) (n : Nat) (x : CompareAction) (d : CellId) :
    ((s.compareFires n x).cells.get d).tripCount = (s.cells.get d).tripCount := by
  unfold State.compareFires
  cases x <;> simp

@[simp] theorem State.tripCount_carryOut (s : State) (x : Item) (d : CellId) :
    ((s.carryOut x).cells.get d).tripCount = (s.cells.get d).tripCount := by
  unfold State.carryOut
  cases x with
  | sample ch count g target => cases g <;> simp
  | _ => dsimp only; (repeat' split) <;> simp

@[simp] theorem State.tripCount_itemFetched (s : State) (x : Item) (d : CellId) :
    ((s.itemFetched x).cells.get d).tripCount = (s.cells.get d).tripCount := by
  unfold State.itemFetched
  dsimp only
  split <;> simp

@[simp] theorem State.tripCount_thaw (s : State) (d : CellId) :
    (s.thaw.cells.get d).tripCount = (s.cells.get d).tripCount := by
  unfold State.thaw
  dsimp only
  (repeat' split) <;> simp

@[simp] theorem State.tripCount_enterQuiet (s : State) (d : CellId) :
    (s.enterQuiet.cells.get d).tripCount = (s.cells.get d).tripCount := by
  unfold State.enterQuiet
  dsimp only
  (repeat' split) <;> simp

@[simp] theorem State.tripCount_wake (s : State) (b : Bool) (d : CellId) :
    ((s.wake b).cells.get d).tripCount = (s.cells.get d).tripCount := by
  unfold State.wake State.wakeFreshStep
  dsimp only
  (repeat' split) <;> simp

@[simp] theorem State.tripCount_testHeat (s : State) (t : Int) (d : CellId) :
    ((s.testHeat t).cells.get d).tripCount = (s.cells.get d).tripCount := by
  unfold State.testHeat State.enterHeat State.exitHeat
  dsimp only
  (repeat' split) <;> simp

@[simp] theorem State.tripCount_triggerAndHeat (s : State) (b : Bool) (t : Int) (d : CellId) :
    ((s.triggerAndHeat b t).cells.get d).tripCount = (s.cells.get d).tripCount := by
  unfold State.triggerAndHeat
  (repeat' split) <;> simp

theorem State.tripCount_makeSelection (s : State) (b : Option Bool) (d : CellId) :
    ((s.makeSelection b).cells.get d).tripCount = (s.cells.get d).tripCount := by
  obtain ⟨cells, -⟩ | ⟨cells, -⟩ := s.makeSelection_cases b
  · rw [cells]
  · rw [cells]
    exact (State.tripCount_zeroCharge _ .b d).trans (State.tripCount_zeroCharge s .a d)

@[simp] theorem State.tripCount_applyToCell (s : State) (al : Allocation) (sh : CellShare) (kept : Bool) (c d : CellId) :
    ((s.applyToCell al sh kept c).cells.get d).tripCount = (s.cells.get d).tripCount := by
  have share : ∀ x : CellPath, (x.applyShare al sh c kept).tripCount = x.tripCount := fun x => by
    unfold CellPath.applyShare
    split <;> rfl
  unfold State.applyToCell
  dsimp only
  split
  · simp only [State.appendFull_frame, State.raise_fields]
    exact State.tripCount_setCell (share _) d
  · exact State.tripCount_setCell (share _) d

@[simp] theorem State.tripCount_completeAllocation (s : State) (d : CellId) :
    (s.completeAllocation.cells.get d).tripCount = (s.cells.get d).tripCount := by
  unfold State.completeAllocation
  dsimp only
  split
  · rfl
  · split
    · simp [State.handOn]
    · rfl

/-- A trip counts up to 255 (R17). -/
theorem State.tripCount_tripCell (s : State) (c d : CellId) (r : TripRecord) (h : (s.cells.get d).tripCount ≤ 255) :
    ((s.tripCell c r).cells.get d).tripCount ≤ 255 := by
  simp only [State.tripCell, State.forceRest_frame, State.raise_fields, State.get_setCell]
  split
  · exact saturatingSucc_le _ _
  · exact h

theorem State.tripCount_fastEvent (s : State) (c d : CellId) (x : TripCause) (h : (s.cells.get d).tripCount ≤ 255) :
    ((s.fastEvent c x).cells.get d).tripCount ≤ 255 := by
  unfold State.fastEvent
  dsimp only
  split
  · rw [State.get_setCell]
    split
    · exact saturatingSucc_le _ _
    · exact h
  · exact s.tripCount_tripCell c d _ h

theorem State.tripCount_testCellAtScan (s : State) (r : ScanRecord) (c d : CellId) (h : (s.cells.get d).tripCount ≤ 255) :
    ((s.testCellAtScan r c).cells.get d).tripCount ≤ 255 := by
  unfold State.testCellAtScan
  split
  · exact h
  · split
    · exact s.tripCount_tripCell c d _ h
    · split
      · simpa using h
      · exact h

theorem State.tripCount_cellsAtScan (s : State) (r : ScanRecord) (b : Bool) (d : CellId)
    (h : (s.cells.get d).tripCount ≤ 255) : ((s.cellsAtScan r b).cells.get d).tripCount ≤ 255 :=
  State.tripCount_testCellAtScan _ r .b d (State.tripCount_testCellAtScan _ r .a d (by simpa using h))

/-! ### The starved counts -/

/-- The starved count of each channel stays within its range (R75). -/
def State.keepsStarved (s t : State) : Prop :=
  ∀ d, (s.channels.get d).starvedCount ≤ 65535 → (t.channels.get d).starvedCount ≤ 65535

theorem State.keepsStarved_refl (s : State) : s.keepsStarved s := fun _ h => h

theorem State.keepsStarved.trans {s t u : State} (h : s.keepsStarved t) (k : t.keepsStarved u) : s.keepsStarved u :=
  fun d x => k d (h d x)

theorem State.keepsStarved_of_eq {s t : State} (h : t.channels = s.channels) : s.keepsStarved t := fun d x => by rwa [h]

/-- An update of a channel that leaves its starved count within range leaves every channel's so. -/
theorem State.keepsStarved_setChannel {s : State} {c : CellId} {x : Channel}
    (h : (s.channels.get c).starvedCount ≤ 65535 → x.starvedCount ≤ 65535) : s.keepsStarved (s.setChannel c x) := by
  intro d hd
  rw [State.get_setChannel]
  split
  · subst_vars
    exact h hd
  · exact hd

/-- The same for a state with one channel updated. -/
theorem State.keepsStarved_of_set {s t : State} {c : CellId} {x : Channel} (set : t.channels = s.channels.set c x)
    (h : (s.channels.get c).starvedCount ≤ 65535 → x.starvedCount ≤ 65535) : s.keepsStarved t :=
  (State.keepsStarved_setChannel h).trans (State.keepsStarved_of_eq set)

theorem State.keepsStarved_requestFetch (s : State) (c : CellId) : s.keepsStarved (s.requestFetch c) := by
  unfold State.requestFetch
  dsimp only
  split
  · exact State.keepsStarved_setChannel id
  · exact State.keepsStarved_of_set rfl id

theorem State.keepsStarved_dropTable (s : State) (c : CellId) : s.keepsStarved (s.dropTable c) := by
  unfold State.dropTable
  refine State.keepsStarved.trans ?_ (State.keepsStarved_setChannel id)
  unfold State.discardFetch
  dsimp only
  split
  · exact s.keepsStarved_refl
  · exact State.keepsStarved_of_set rfl id

theorem State.keepsStarved_startOwn (s : State) (c : CellId) : s.keepsStarved (s.startOwn c) :=
  ((s.keepsStarved_dropTable c).trans (State.keepsStarved_setChannel fun _ => Nat.zero_le _)).trans
    (State.keepsStarved_requestFetch _ c)

theorem State.keepsStarved_profileStart (s : State) (c : CellId) : s.keepsStarved (s.profileStart c) := by
  cases c with
  | a => exact s.keepsStarved_startOwn .a
  | b =>
    show s.keepsStarved (if s.bMode = 0 then s.startOwn .b else s.startFollowing)
    split
    · exact s.keepsStarved_startOwn .b
    · exact (s.keepsStarved_dropTable .b).trans (State.keepsStarved_setChannel fun _ => Nat.zero_le _)

theorem State.keepsStarved_profileStop (s : State) (c : CellId) : s.keepsStarved (s.profileStop c) := by
  unfold State.profileStop
  split
  · exact s.keepsStarved_refl
  · exact (s.keepsStarved_dropTable c).trans (State.keepsStarved_setChannel id)

theorem State.keepsStarved_resetChannel (s : State) (c : CellId) : s.keepsStarved (s.resetChannel c) :=
  (s.keepsStarved_dropTable c).trans (State.keepsStarved_setChannel id)

theorem State.keepsStarved_fetchAfter (s : State) (c : CellId) (g : Segment) : s.keepsStarved (s.fetchAfter c g) := by
  unfold State.fetchAfter
  split
  · exact s.keepsStarved_refl
  · exact s.keepsStarved_requestFetch c

theorem State.keepsStarved_swap (s : State) (c : CellId) (g : Segment) : s.keepsStarved (s.swap c g) :=
  (State.keepsStarved_of_set (x := { (s.channel c).work g (s.channel c).ceiling with stagedValid := false }) (by simp)
    id).trans (State.keepsStarved_fetchAfter _ c g)

theorem State.keepsStarved_segmentEnd (s : State) (c : CellId) : s.keepsStarved (s.segmentEnd c) := by
  unfold State.segmentEnd
  dsimp only
  split
  · exact State.keepsStarved_setChannel id
  · split
    · exact s.keepsStarved_swap c _
    · exact State.keepsStarved_of_set rfl id

theorem State.keepsStarved_takeQuantum (s : State) (c : CellId) : s.keepsStarved (s.takeQuantum c) := by
  unfold State.takeQuantum
  dsimp only
  split
  · unfold State.stepQuantum
    dsimp only
    split
    · exact State.keepsStarved_setChannel id
    · split
      · refine State.keepsStarved.trans ?_ (State.keepsStarved_segmentEnd _ c)
        exact State.keepsStarved_of_set rfl id
      · exact State.keepsStarved_setChannel id
  · exact State.keepsStarved_setChannel fun _ => saturatingSucc_le _ _
  · exact s.keepsStarved_refl
  · exact s.keepsStarved_refl
  · exact s.keepsStarved_refl
  · exact s.keepsStarved_refl

theorem State.keepsStarved_fetchCompleted (s : State) (c : CellId) (i : Nat) (ws : List Word) :
    s.keepsStarved (s.fetchCompleted c i ws) := by
  unfold State.fetchCompleted
  dsimp only
  split
  · exact State.keepsStarved_setChannel id
  · refine State.keepsStarved.trans (State.keepsStarved_setChannel (c := c) (x := { s.channel c with fetch := none }) id) ?_
    split
    · refine State.keepsStarved.trans ?_ (State.keepsStarved_fetchAfter _ c _)
      exact State.keepsStarved_of_set rfl id
    · exact State.keepsStarved_setChannel id
    · exact State.keepsStarved_swap _ c _
    · exact State.keepsStarved_refl _
    · exact State.keepsStarved_refl _
    · exact State.keepsStarved_refl _

end Sys2Proof.Machine
end

section
/-! PROOFS. The weights and the skipped count of the allocator, and the bounds but those of the port over every step. -/

namespace Sys2Proof.Machine

/-! ### What the events leave of the weights and the skipped count -/

/-- The weights and the skipped count (R88, R99). -/
structure Allocator.Balance where
  w : PerCell Nat
  v : PerCell Nat
  skipped : Nat

def Allocator.balance (x : Allocator) : Allocator.Balance := { w := x.w, v := x.v, skipped := x.skipped }

theorem Allocator.balance_of_worked {x y : Allocator} (h : x.workedInto y) : y.balance = x.balance := by
  obtain ⟨f, rfl, -⟩ := h
  rfl

@[simp] theorem State.balance_settle (s : State) : s.settle.allocator.balance = s.allocator.balance :=
  Allocator.balance_of_worked s.settle_worked

@[simp] theorem State.balance_workFreely (s : State) : s.workFreely.allocator.balance = s.allocator.balance :=
  Allocator.balance_of_worked s.workFreely_worked

@[simp] theorem State.balance_workStages (s : State) (n : Nat) (early : Bool) :
    (s.workStages n early).allocator.balance = s.allocator.balance :=
  Allocator.balance_of_worked (s.workStages_worked n early)

@[simp] theorem Allocator.balance_with_inFlight (x : Allocator) (al : Option Allocation) :
    ({ x with inFlight := al } : Allocator).balance = x.balance := rfl

@[simp] theorem State.balance_becomeAbsent (s : State) (c : CellId) :
    (s.becomeAbsent c).allocator.balance = s.allocator.balance := by simp [State.becomeAbsent]

@[simp] theorem State.balance_testCellAtScan (s : State) (r : ScanRecord) (c : CellId) :
    (s.testCellAtScan r c).allocator.balance = s.allocator.balance := by
  unfold State.testCellAtScan
  (repeat' split) <;> simp

@[simp] theorem State.balance_release (s : State) (c : CellId) :
    (s.release c).allocator.balance = s.allocator.balance := by
  unfold State.release
  dsimp only
  (repeat' split) <;> simp

@[simp] theorem State.balance_loseSource (s : State) : s.loseSource.allocator.balance = s.allocator.balance := rfl

theorem State.balance_makeSelection (s : State) (b : Option Bool) :
    (s.makeSelection b).allocator.balance = s.allocator.balance := by
  obtain ⟨-, allocator⟩ | ⟨-, allocator⟩ := s.makeSelection_cases b
  · rw [allocator]
  · rw [allocator, State.balance_loseSource]

@[simp] theorem State.balance_collapseEvent (s : State) (i : Input) :
    (s.collapseEvent i).allocator.balance = s.allocator.balance := by
  simp [State.collapseEvent, State.balance_makeSelection]

@[simp] theorem State.balance_selectorAtScan (s : State) (r : Readings) (b : Bool) :
    (s.selectorAtScan r b).allocator.balance = s.allocator.balance := by
  simp [State.selectorAtScan, State.balance_makeSelection]

@[simp] theorem State.balance_abandonAllocation (s : State) :
    s.abandonAllocation.allocator.balance = s.allocator.balance := by
  unfold State.abandonAllocation
  split
  · rfl
  · simp only [State.changeoverAbandoned_frame]
    rfl

@[simp] theorem State.balance_countIntegrate (s : State) :
    s.countIntegrate.allocator.balance = s.allocator.balance := by
  unfold State.countIntegrate
  (repeat' split) <;> rfl

/-! ### The relation every effect stands in -/

/-- Each bound of the lists, the weights and the counts passes from one state to another. -/
structure State.KeepsBounds (s t : State) : Prop where
  seq : s.seq.KeepsBounds t.seq
  weights : s.allocator.weightsBalanced → t.allocator.weightsBalanced
  skipped : s.allocator.skipped ≤ 255 → t.allocator.skipped ≤ 255
  timer : s.timer.count ≤ 65535 → t.timer.count ≤ 65535
  late : s.converter.lateCount ≤ 65535 → t.converter.lateCount ≤ 65535
  trips : ∀ c, (s.cells.get c).tripCount ≤ 255 → (t.cells.get c).tripCount ≤ 255
  starved : s.keepsStarved t

theorem State.KeepsBounds.refl (s : State) : s.KeepsBounds s := ⟨.refl _, id, id, id, id, fun _ => id, s.keepsStarved_refl⟩

theorem State.KeepsBounds.trans {s t u : State} (h : s.KeepsBounds t) (k : t.KeepsBounds u) : s.KeepsBounds u where
  seq := h.seq.trans k.seq
  weights x := k.weights (h.weights x)
  skipped x := k.skipped (h.skipped x)
  timer x := k.timer (h.timer x)
  late x := k.late (h.late x)
  trips c x := k.trips c (h.trips c x)
  starved := h.starved.trans k.starved

/-- An effect on the sequencer, and otherwise on nothing bounded. -/
theorem State.KeepsBounds.of_seq {s t : State} (seq : s.seq.KeepsBounds t.seq)
    (starved : s.keepsStarved t := by exact State.keepsStarved_of_eq (by simp))
    (trips : ∀ c, (s.cells.get c).tripCount ≤ 255 → (t.cells.get c).tripCount ≤ 255 := by intro c h; simpa using h)
    (balance : t.allocator.balance = s.allocator.balance := by simp)
    (timer : t.timer.count = s.timer.count := by simp)
    (late : t.converter.scanView = s.converter.scanView := by simp) : s.KeepsBounds t where
  seq := seq
  weights h := by
    have w : t.allocator.w = s.allocator.w := congrArg Allocator.Balance.w balance
    have v : t.allocator.v = s.allocator.v := congrArg Allocator.Balance.v balance
    unfold Allocator.weightsBalanced
    rw [w, v]
    exact h
  skipped h := by rwa [show t.allocator.skipped = s.allocator.skipped from congrArg Allocator.Balance.skipped balance]
  timer h := by rwa [timer]
  late h := by
    rwa [show t.converter.lateCount = s.converter.lateCount from congrArg Converter.ScanView.lateCount late]
  trips := trips
  starved := starved

theorem Sequencer.KeepsBounds.of_same {q q' : Sequencer} (h : q' = q) : q.KeepsBounds q' := h ▸ .refl q

/-- An effect on nothing bounded but the starved counts and the trip counts, as given. -/
theorem State.KeepsBounds.of_frame {s t : State} (seq : t.seq = s.seq := by simp)
    (starved : s.keepsStarved t := by exact State.keepsStarved_of_eq (by simp))
    (trips : ∀ c, (s.cells.get c).tripCount ≤ 255 → (t.cells.get c).tripCount ≤ 255 := by intro c h; simpa using h)
    (balance : t.allocator.balance = s.allocator.balance := by simp)
    (timer : t.timer.count = s.timer.count := by simp)
    (late : t.converter.scanView = s.converter.scanView := by simp) : s.KeepsBounds t :=
  .of_seq (.of_same seq) starved trips balance timer late

/-! ### The events -/

theorem State.KeepsBounds.settle (s : State) : s.KeepsBounds s.settle := .of_frame

theorem State.KeepsBounds.enterQuiet (s : State) : s.KeepsBounds s.enterQuiet := .of_seq s.seqKept_enterQuiet

theorem State.KeepsBounds.closeCellA (s : State) : s.KeepsBounds s.closeCellA :=
  .of_frame (trips := fun c h => by simpa [State.closeCellA, State.setControl] using h)

theorem State.KeepsBounds.endStartup (s : State) : s.KeepsBounds s.endStartup := by
  have closed : ∀ x y : Controller, s.KeepsBounds (((s.setControl x).closePath .b).setControl y) := fun x y => .of_frame
  unfold State.endStartup
  dsimp only
  split
  · exact (closed _ _).trans (State.KeepsBounds.enterQuiet _)
  · exact closed _ _

theorem State.KeepsBounds.beginStartup (s : State) : s.KeepsBounds s.beginStartup := by
  have began : ∀ (x : Controller) (p : Port), s.KeepsBounds { s.setControl x with
      timer := { count := 0, length := .ms4, running := true }, port := p } := fun x p =>
    ⟨.refl _, id, id, fun _ => Nat.zero_le _, id, fun _ => id, s.keepsStarved_refl⟩
  unfold State.beginStartup
  dsimp only
  split
  · exact ((began _ _).trans (State.KeepsBounds.closeCellA _)).trans (State.KeepsBounds.endStartup _)
  · exact began _ _

theorem State.KeepsBounds.startupSlot (s : State) : s.KeepsBounds s.startupSlot := by
  unfold State.startupSlot
  split
  · split
    · exact .closeCellA s
    · exact .endStartup s
    · exact .refl s
  · exact .refl s

theorem Reset.allocator_weightsBalanced : Reset.allocator.weightsBalanced := by
  unfold Allocator.weightsBalanced
  decide

theorem State.KeepsBounds.powerOnReset (s : State) : s.KeepsBounds s.powerOnReset where
  seq := ⟨fun _ => Nat.zero_le 4, fun _ _ hi => (Option.some_ne_none _ hi.symm).elim, fun _ => Nat.zero_le 255,
    fun _ => Nat.zero_le 255⟩
  weights _ := Reset.allocator_weightsBalanced
  skipped _ := Nat.zero_le _
  timer _ := Nat.zero_le _
  late _ := Nat.zero_le _
  trips c _ := by cases c <;> exact Nat.zero_le _
  starved c _ := by cases c <;> exact Nat.zero_le _

theorem State.keepsStarved_resetChannels (s : State) : s.keepsStarved ((s.resetChannel .a).resetChannel .b) :=
  (s.keepsStarved_resetChannel .a).trans (State.keepsStarved_resetChannel _ .b)

/-- A ship wake puts everything bounded but the starved counts at its reset value (R187). -/
theorem State.KeepsBounds.shipWake (s : State) : s.KeepsBounds s.shipWake := by
  have woken : s.KeepsBounds
      ((((s.resetChannel .a).resetChannel .b).resetSeq .idle .idle).wakeMeasurement.wakePower.wakeLink.wakeControl) :=
    { seq := State.seqKept_resetSeq _ _ _ _
      weights := fun _ => Reset.allocator_weightsBalanced
      skipped := fun _ => Nat.zero_le _
      timer := fun _ => Nat.zero_le _
      late := fun _ => Nat.zero_le _
      trips := fun c _ => by cases c <;> exact Nat.zero_le _
      starved := s.keepsStarved_resetChannels }
  unfold State.shipWake
  refine (woken.trans (State.KeepsBounds.beginStartup _)).trans ?_
  exact .of_frame

theorem State.seqKept_withdrawSeq (s : State) : s.seq.KeepsBounds s.withdrawSeq.seq := .of_eq rfl rfl rfl rfl

theorem State.KeepsBounds.enterShip (s : State) : s.KeepsBounds s.enterShip := by
  have abandoned : s.KeepsBounds s.abandonScan := ⟨.refl _, id, id, id, id, fun _ => id, s.keepsStarved_refl⟩
  have stopped : s.abandonScan.KeepsBounds s.abandonScan.abandonAllocation.stopSeqForShip.withdrawRefresh :=
    .of_seq (by simpa [State.stopSeqForShip] using State.seqKept_withdrawSeq s.abandonScan.abandonAllocation)
  have entered : ∀ (u : State) (x : Bool) (p : Port) (a : Arbiter) (k : Controller),
      u.KeepsBounds { u with timer := { u.timer with running := x }, port := p, arbiter := a, control := k } :=
    fun u _ _ _ _ => ⟨.refl _, id, id, id, id, fun _ => id, u.keepsStarved_refl⟩
  have ship := fun a k => (abandoned.trans stopped).trans (entered _ false Reset.port a k)
  unfold State.enterShip
  dsimp only
  split
  · exact (ship _ _).trans (State.KeepsBounds.shipWake _)
  · exact ship _ _

theorem State.KeepsBounds.openInput (s : State) : s.KeepsBounds s.openInput :=
  State.KeepsBounds.trans (.of_frame (t := s.setControl _)) (State.KeepsBounds.enterShip _)

theorem State.KeepsBounds.openCellB (s : State) : s.KeepsBounds s.openCellB :=
  .of_frame (trips := fun c h => by simpa [State.openCellB] using h)

theorem State.KeepsBounds.openCellA (s : State) : s.KeepsBounds s.openCellA :=
  .of_frame (trips := fun c h => by simpa [State.openCellA] using h)

theorem State.KeepsBounds.shipSlotExpires (s : State) : s.KeepsBounds s.shipSlotExpires := by
  unfold State.shipSlotExpires
  split
  · split
    · exact .openCellB s
    · exact .openCellA s
    · exact .openInput s
    · exact .refl s
  · exact .refl s

theorem State.KeepsBounds.acceptShip (s : State) : s.KeepsBounds s.acceptShip := by
  have accepted : ∀ x, s.KeepsBounds (s.setControl x) := fun x => .of_frame
  have thawed : ∀ u : State, u.KeepsBounds (u.putHoldBoth .quiet false).thaw := fun u =>
    .of_seq ((State.seqKept_thaw _).after_change (by simp) (by simp) (by simp) (by simp))
  have ready : ∀ x, s.KeepsBounds (State.forceOff (if s.control.state = .quiet then
      ((s.setControl x).putHoldBoth .quiet false).thaw else s.setControl x) .ship) := fun x => by
    split
    · exact ((accepted x).trans (thawed _)).trans .of_frame
    · exact (accepted x).trans .of_frame
  unfold State.acceptShip
  dsimp only
  split
  · exact (((ready _).trans (State.KeepsBounds.openCellB _)).trans (State.KeepsBounds.openCellA _)).trans
      (State.KeepsBounds.openInput _)
  · exact ready _

theorem State.KeepsBounds.ship (s : State) : s.KeepsBounds s.ship := by
  have refused : s.KeepsBounds s.refuseShip := .of_frame
  unfold State.ship
  split
  · split
    · exact .acceptShip s
    · exact refused
  · split
    · exact .acceptShip s
    · exact refused
  · exact refused
  · exact .refl s
  · exact .refl s

theorem State.KeepsBounds.attachWake (s : State) (i : Input) : s.KeepsBounds (s.attachWake i) := by
  unfold State.attachWake
  split
  · split
    · split
      · exact .refl s
      · exact .of_frame
    · exact State.KeepsBounds.trans (.of_frame (t := s.setControl _)) (State.KeepsBounds.shipWake _)
    · exact .refl s
    · exact .refl s
    · exact .refl s
  · exact .refl s

end Sys2Proof.Machine
end

section
/-! PROOFS. The bounds of the lists, the weights and the counts over the resets, the scans and the allocations, and so
over every step. -/

namespace Sys2Proof.Machine

/-! ### SOFT_RESET -/

theorem State.KeepsBounds.softReset (s : State) : s.KeepsBounds s.softReset := by
  have abandoned : s.KeepsBounds s.workFreely.abandonAllocation := .of_frame
  have reset : ∀ u : State, u.KeepsBounds { u with
      cells := { a := u.cells.a.afterSoftReset, b := u.cells.b.afterSoftReset }
      allocator := u.allocator.afterSoftReset
      transfer := Reset.transfer
      notices := { sticky := Reset.sticky, mask := 0 }
      control := { u.control with shipResult := .none } } := fun u =>
    { seq := .refl _, weights := fun _ => Reset.allocator_weightsBalanced, skipped := id, timer := id, late := id
      trips := fun c => by cases c <;> exact id
      starved := u.keepsStarved_refl }
  have channels : ∀ u : State, u.KeepsBounds ((u.clearBandIndices.resetChannel .a).resetChannel .b) := fun u =>
    .of_frame (starved := (State.keepsStarved_of_eq (by simp)).trans u.clearBandIndices.keepsStarved_resetChannels)
  have ended : ∀ (u : State) (x : SeqState), u.KeepsBounds (u.resetSeq x .idle).requestRefresh := fun u x =>
    .of_seq (by simpa using u.seqKept_resetSeq u.seq x .idle)
  unfold State.softReset
  split
  · unfold State.softResetBlocks
    dsimp only
    refine ((abandoned.trans (reset _)).trans (channels _)).trans ?_
    split
    · exact ended _ _
    · exact ended _ _
  · exact .refl s

/-! ### Scans -/

theorem State.KeepsBounds.allocationAtScan (s : State) : s.KeepsBounds s.allocationAtScan := by
  unfold State.allocationAtScan
  split
  · unfold State.beginAllocation
    exact .of_frame (balance := by simp)
  · exact ⟨.refl _, id, fun _ => saturatingSucc_le _ _, id, id, fun _ => id, s.keepsStarved_refl⟩

theorem State.KeepsBounds.blocksAtScan (s : State) (r : ScanRecord) (b : Bool) : s.KeepsBounds (s.blocksAtScan r b) := by
  have cells : s.KeepsBounds (s.cellsAtScan r b) :=
    .of_frame (trips := fun c h => s.tripCount_cellsAtScan r b c h) (balance := by simp [State.cellsAtScan])
  have selected : ∀ (u : State) (begins : Bool), u.KeepsBounds ((u.countersAtScan r).selectorAtScan r.readings begins) :=
    fun u begins => .of_frame (trips := fun c h => by
      simpa [State.selectorAtScan, State.tripCount_makeSelection] using h)
  have tested : ∀ (u : State) (f : Bool), u.KeepsBounds ((u.testDie r.readings.tDie).triggerAndHeat f r.readings.tDie) :=
    fun u f => .of_seq (by
      simpa using State.seqKept_triggerAndHeat (u.testDie r.readings.tDie) f r.readings.tDie)
  have banded : ∀ u v : State, u.KeepsBounds
      (((u.lookupBand r.readings .a).lookupBand r.readings .b).chooseStopCause v) := fun u v => .of_frame
  unfold State.blocksAtScan
  exact ((cells.trans (selected _ _)).trans (tested _ _)).trans (banded _ _)

theorem State.KeepsBounds.scanCompletes (s : State) (r : ScanRecord) (b : Bool) :
    s.KeepsBounds (s.scanCompletes r b) := by
  have stored : s.KeepsBounds (s.storeScan r) := ⟨.refl _, id, id, id, id, fun _ => id, s.keepsStarved_refl⟩
  have ticked : ∀ u : State, u.KeepsBounds u.tick := fun u => .of_frame
  exact ((stored.trans (.blocksAtScan _ r b)).trans (.allocationAtScan _)).trans (ticked _)

theorem State.KeepsBounds.scanConverted (s : State) (x : Analog) (b : Bool) : s.KeepsBounds (s.scanConverted x b) := by
  have stored : ∀ u r, s.KeepsBounds u → s.KeepsBounds (u.setConverter { u.converter with scan := r }) :=
    fun u r h => h.trans ⟨.refl _, id, id, id, id, fun _ => id, u.keepsStarved_refl⟩
  have ended : s.KeepsBounds s.endConversion := .of_frame
  unfold State.scanConverted
  split
  · split
    · refine State.KeepsBounds.trans ?_ (State.KeepsBounds.settle _)
      unfold State.scanReading
      dsimp only
      split
      · exact ended.trans (.scanCompletes _ _ _)
      · exact stored _ _ ended
    · exact .refl s
  · exact .refl s

/-- The period count wraps, and the late count saturates (R21, R25). -/
theorem State.KeepsBounds.periodExpires (s : State) : s.KeepsBounds s.periodExpires := by
  have counted : s.KeepsBounds s.countPeriod :=
    ⟨.refl _, id, id, fun _ => by simp only [State.countPeriod, State.setTimer_fields]; omega, id, fun _ => id,
      s.keepsStarved_refl⟩
  have asked : ∀ u : State, u.KeepsBounds u.askScan := fun u => by
    unfold State.askScan
    split
    · exact ⟨.refl _, id, id, id, id, fun _ => id, u.keepsStarved_refl⟩
    · exact ⟨.refl _, id, id, id, fun _ => saturatingSucc_le _ _, fun _ => id, u.keepsStarved_refl⟩
  have handed : ∀ u : State, u.KeepsBounds (u.countWait.takeTrigger .period) := fun u =>
    .of_seq (u.seqKept_countWait.trans (State.seqKept_takeTrigger _ _))
  exact ((counted.trans (asked _)).trans (handed _)).trans (.settle _)

/-! ### The counters and the profile channels -/

theorem State.KeepsBounds.takeQuantum (s : State) (c : CellId) : s.KeepsBounds (s.takeQuantum c) :=
  .of_seq (s.seqKept_takeQuantum c) (starved := s.keepsStarved_takeQuantum c)

theorem State.KeepsBounds.takeBatch (s : State) (c : CellId) (k : Nat) : s.KeepsBounds (s.takeBatch c k) := by
  induction k generalizing s with
  | zero => exact .refl s
  | succ k ih => exact (State.KeepsBounds.takeQuantum s c).trans (ih _)

theorem State.KeepsBounds.gaugeCompleted (s : State) (e : GaugeEntry) : s.KeepsBounds (s.gaugeCompleted e) := by
  have written : s.KeepsBounds (s.gaugeWrite e) := .of_frame
  have listed : ∀ u : State, u.KeepsBounds (u.setGauge u.gauge.tail) := fun u => .of_frame
  have ended : ∀ u : State, u.KeepsBounds u.endTransaction.requestGauge.settle := fun u => .of_frame
  have counted : ∀ u : State, u.KeepsBounds u.countIntegrate := fun u => .of_frame
  have handed : ∀ (u : State) i j, u.KeepsBounds (u.handBatches i j) := fun u i j =>
    ((State.KeepsBounds.takeBatch u .a i).trans (State.KeepsBounds.takeBatch _ .b j)).trans (counted _)
  refine State.KeepsBounds.trans ?_ (ended _)
  split
  · refine written.trans ?_
    unfold State.gaugeAwaited
    dsimp only
    split
    · exact (listed _).trans (handed _ _ _)
    · exact listed _
    · exact listed _
  · exact written

theorem State.KeepsBounds.profileFetchCompleted (s : State) (c : CellId) (i : Nat) (ws : List Word) :
    s.KeepsBounds (s.profileFetchCompleted c i ws) := by
  have ended : s.KeepsBounds s.endTransaction := .of_frame
  have fetched : ∀ u : State, u.KeepsBounds (u.fetchCompleted c i ws) := fun u =>
    .of_seq (u.seqKept_fetchCompleted c i ws) (starved := u.keepsStarved_fetchCompleted c i ws)
  unfold State.profileFetchCompleted
  split
  · exact ended.trans (fetched _)
  · exact ended

/-! ### Allocations -/

theorem weightA_bounds (x : Int) : 64 ≤ weightA x ∧ weightA x ≤ 960 := by
  unfold weightA clampInt
  omega

/-- The weights of a share computation lie within 64..960, and each pair sums to 1024 (R99). -/
theorem share_weights (snap : Snapshot) (cp : CounterPoint) (capQ : PerCell Nat) (b : BudgetRead) (ce : CeilingRead)
    (sp : ChargeSplitRead) (su : SupplySplitRead) :
    let res := share snap cp capQ b ce sp su
    64 ≤ res.w.a ∧ res.w.a ≤ 960 ∧ res.w.a + res.w.b = 1024 ∧ 64 ≤ res.v.a ∧ res.v.a ≤ 960 ∧
      res.v.a + res.v.b = 1024 := by
  have pair : ∀ x, weightA x + (1024 - weightA x) = 1024 := fun x => by
    have := weightA_bounds x
    omega
  exact ⟨(weightA_bounds _).1, (weightA_bounds _).2, pair _, (weightA_bounds _).1, (weightA_bounds _).2, pair _⟩

theorem State.KeepsBounds.completeAllocation (s : State) : s.KeepsBounds s.completeAllocation := by
  have worked : s.KeepsBounds (s.workStages 4 true) := .of_frame
  have applied : ∀ (u : State) al sh k c, u.KeepsBounds (u.applyToCell al sh k c) := fun u _ _ _ _ => .of_frame
  have wrote : ∀ (u : State) al cp cap b ce sp su, u.KeepsBounds
      (u.writeResults al cp (share al.snap cp cap b ce sp su)) := fun u al cp cap b ce sp su => by
    have weights := share_weights al.snap cp cap b ce sp su
    unfold State.writeResults
    dsimp only
    split
    · exact ⟨.refl _, fun _ => weights, id, id, id, fun _ => id, State.keepsStarved_of_eq rfl⟩
    · exact ⟨.refl _, fun _ => weights, id, id, id, fun _ => id, State.keepsStarved_of_eq rfl⟩
  have handed : ∀ (u : State) al cp cap b ce sp su i, u.KeepsBounds
      (u.handOn al cp (share al.snap cp cap b ce sp su) i) := fun u al cp cap b ce sp su i => by
    have transferred : ∀ (u : State) t, u.KeepsBounds (u.setTransfer t) := fun u _ => .of_frame
    have refreshed : ∀ u : State, u.KeepsBounds u.changeoverCompleted.refreshAtCompletion.tick := fun u => .of_frame
    exact ((((applied u _ _ _ _).trans (applied _ _ _ _ _)).trans (transferred _ _)).trans
      (wrote _ al cp cap b ce sp su)).trans (refreshed _)
  unfold State.completeAllocation
  dsimp only
  split
  · exact .refl s
  · split
    · exact worked.trans (handed _ _ _ _ _ _ _ _ _)
    · exact .refl s

/-! ### Every step -/

theorem keepsBounds_stepKeeps (s₀ : State) : StepKeeps fun t => s₀.KeepsBounds t where
  soft s h := h.trans (.softReset s)
  skipItem s h := h.trans (.of_seq s.seqKept_skipItem)
  skipList s h := h.trans (.of_seq s.seqKept_skipList)
  ship s h := h.trans (.ship s)
  release s c h := h.trans .of_frame
  start s c h := h.trans (.of_frame (starved := s.keepsStarved_profileStart c))
  stop s c h := h.trans (.of_frame (starved := s.keepsStarved_profileStop c))
  clear s h := h.trans (.of_seq (.of_eq (by simp [State.clearWindow]) (by simp [State.clearWindow])
    (by simp [State.clearWindow]) (by simp [State.clearWindow])))
  preset s c h := h.trans .of_frame
  next s v h := h.trans (.of_seq (s.seqKept_writeNext v))
  note s n h := h.trans .of_frame
  mask s w h := h.trans .of_frame
  queue s q h := h.trans .of_frame
  settle s h := h.trans (.settle s)
  port s p _ h := h.trans .of_frame
  endTransaction s h := h.trans .of_frame
  requestLink s h := h.trans .of_frame
  readDone s h := h.trans (.of_seq s.seqKept_readDone)
  por s h := h.trans (.powerOnReset s)
  begins s _ h := h.trans (.beginStartup s)
  slot s h := h.trans (.startupSlot s)
  rise s h := by
    have rose : s.KeepsBounds (s.setQreq true) := .of_frame
    unfold State.qreqRises
    dsimp only
    split
    · exact h
    · split
      · exact h.trans (rose.trans (.enterQuiet _))
      · exact h.trans rose
  fall s h := by
    have fell : s.KeepsBounds (s.setQreq false) := .of_frame
    have woke : ∀ u : State, u.KeepsBounds (u.wake true) := fun u => .of_seq (u.seqKept_wake true)
    unfold State.qreqFalls
    dsimp only
    split
    · split
      · exact h.trans ((fell.trans (woke _)).trans (.settle _))
      · exact h.trans fell
    · exact h
  fast s _ c x h := h.trans (.of_frame (trips := fun d => s.tripCount_fastEvent c d x))
  collapse s i h := h.trans (.of_frame (trips := fun d hd => by
    simpa [State.collapseEvent, State.tripCount_makeSelection] using hd))
  wake s _ i h := h.trans (.attachWake s i)
  shipSlot s _ h := h.trans (.shipSlotExpires s)
  period s _ h := h.trans (.periodExpires s)
  scan s x b h := h.trans (.scanConverted s x b)
  probe s x h := by
    have ended : s.KeepsBounds s.endConversion := .of_frame
    have taken : ∀ (u : State) v, u.KeepsBounds (u.takeReading v) := fun u v => .of_seq (u.seqKept_takeReading v)
    refine h.trans ?_
    unfold State.probeConverted
    split
    · split
      · refine State.KeepsBounds.trans ?_ (State.KeepsBounds.settle _)
        split
        · exact ended
        · exact ended.trans (taken _ _)
      · exact .refl s
    · exact .refl s
  gauge s e h := h.trans (.gaugeCompleted s e)
  alloc s _ h := h.trans (.completeAllocation s)
  waitRefresh s h := h.trans .of_frame
  fetch s c i ws h := h.trans (.profileFetchCompleted s c i ws)
  item s ws h := by
    have ended : s.KeepsBounds s.endTransaction := .of_frame
    unfold State.itemFetchCompleted
    split
    · exact h.trans (ended.trans (.of_seq (State.seqKept_itemFetched _ _)))
    · exact h.trans ended
  written s h := by
    have ended : s.KeepsBounds s.endTransaction := .of_frame
    unfold State.seqWriteCompleted
    split
    · exact h.trans (ended.trans (.of_seq (State.seqKept_itemWritten _)))
    · exact h.trans ended

theorem State.KeepsBounds.step {s t : State} (hs : Machine.step s = .next t) : s.KeepsBounds t :=
  (keepsBounds_stepKeeps s).step hs (.refl s)

theorem State.KeepsBounds.lists {s t : State} (k : s.KeepsBounds t) (h : s.listsWithinBounds) : t.listsWithinBounds :=
  ⟨k.seq.done h.1, k.seq.slot h.2⟩

theorem State.KeepsBounds.counts {s t : State} (k : s.KeepsBounds t) (h : s.countsWithinRange) : t.countsWithinRange := by
  obtain ⟨timer, late, tripsA, tripsB, starvedA, starvedB, skipped, faults, overrun⟩ := h
  exact ⟨k.timer timer, k.late late, k.trips .a tripsA, k.trips .b tripsB, k.starved .a starvedA, k.starved .b starvedB,
    k.skipped skipped, k.seq.faults faults, k.seq.overrun overrun⟩

end Sys2Proof.Machine
end

section
/-! PROOFS. The bounds of the port, and O12. -/

namespace Sys2Proof.Machine

/-! ### Lists of operations -/

/-- No more runs, and no more held writes. -/
def FewerOps (ops' ops : List PortOp) : Prop :=
  (ops'.filter PortOp.isRun).length ≤ (ops.filter PortOp.isRun).length ∧
    (ops'.filter fun op => !op.isRun).length ≤ (ops.filter fun op => !op.isRun).length

theorem FewerOps.refl (ops : List PortOp) : FewerOps ops ops := ⟨Nat.le_refl _, Nat.le_refl _⟩

theorem FewerOps.nil (ops : List PortOp) : FewerOps [] ops := ⟨Nat.zero_le _, Nat.zero_le _⟩

theorem FewerOps.append {a b x y : List PortOp} (h : FewerOps a x) (k : FewerOps b y) : FewerOps (a ++ b) (x ++ y) := by
  obtain ⟨hr, hw⟩ := h
  obtain ⟨kr, kw⟩ := k
  simp only [FewerOps, List.filter_append, List.length_append]
  exact ⟨Nat.add_le_add hr kr, Nat.add_le_add hw kw⟩

theorem FewerOps.cons {a b : List PortOp} (op : PortOp) (h : FewerOps a b) : FewerOps (op :: a) (op :: b) :=
  FewerOps.append (a := [op]) (x := [op]) (.refl _) h

theorem FewerOps.drop (op : PortOp) (ops : List PortOp) : FewerOps ops (op :: ops) :=
  FewerOps.append (a := []) (x := [op]) (.nil _) (.refl ops)

/-- A run in the place of a run. -/
theorem FewerOps.run (r r' : Run) : FewerOps [.run r'] [.run r] := .refl [.run r]

theorem FewerOps.flatMap {f : PortOp → List PortOp} (h : ∀ op, FewerOps (f op) [op]) (ops : List PortOp) :
    FewerOps (ops.flatMap f) ops := by
  induction ops with
  | nil => exact .refl []
  | cons op ops ih => exact FewerOps.append (x := [op]) (h op) ih

theorem PortOp.shiftedOut_fewer (op : PortOp) : FewerOps op.shiftedOut [op] := by
  cases op with
  | run r =>
    unfold PortOp.shiftedOut
    dsimp only
    split
    · exact .nil _
    · exact .run _ _
  | write r w => exact .refl _

theorem PortOp.atFrameEnd_fewer (op : PortOp) : FewerOps op.atFrameEnd [op] := by
  cases op with
  | run r =>
    unfold PortOp.atFrameEnd
    dsimp only
    split
    · exact PortOp.shiftedOut_fewer _
    · exact .run _ _
  | write r w => exact .refl _

theorem finishRead_fewer (ops : List PortOp) (i : Nat) : FewerOps (finishRead ops i) ops :=
  FewerOps.flatMap (fun op => by
    split
    · exact op.shiftedOut_fewer
    · exact .refl _) ops

theorem completeGranted_fewer (ops : List PortOp) : FewerOps (completeGranted ops) ops := by
  induction ops with
  | nil => exact .refl _
  | cons op ops ih =>
    cases op with
    | run r =>
      unfold completeGranted
      split
      · refine FewerOps.append (x := [.run r]) ?_ (.refl ops)
        unfold Run.completed
        (repeat' split)
        · exact .nil _
        · exact .run _ _
        · exact .nil _
      · exact ih.cons _
    | write r w => exact ih.cons _

theorem releaseHeld_fewer {ops : List PortOp} {p : LinkRegister × Word × List PortOp} (h : releaseHeld ops = some p) :
    FewerOps p.2.2 ops := by
  induction ops generalizing p with
  | nil => cases h
  | cons op ops ih =>
    cases op with
    | run r =>
      unfold releaseHeld at h
      split at h
      · obtain ⟨q, hq, rfl⟩ := Option.map_eq_some_iff.mp h
        exact (ih hq).cons _
      · cases h
    | write r w =>
      obtain rfl := Option.some.inj h
      exact .drop _ _

theorem takeWaiting_fewer {m : Memory} {ops : List PortOp} {p : List PortOp × Run} (h : takeWaiting m ops = some p) :
    FewerOps p.1 ops := by
  induction ops generalizing p with
  | nil => cases h
  | cons op ops ih =>
    cases op with
    | run r =>
      unfold takeWaiting at h
      split at h
      · obtain rfl := Option.some.inj h
        exact FewerOps.append (a := [_]) (x := [.run r]) (.run _ _) (.refl ops)
      · obtain ⟨q, hq, rfl⟩ := Option.map_eq_some_iff.mp h
        exact (ih hq).cons _
    | write r w =>
      obtain ⟨q, hq, rfl⟩ := Option.map_eq_some_iff.mp h
      exact (ih hq).cons _

theorem receiveInto_fewer {ops ops' : List PortOp} {i : Nat} {w : Word} (h : receiveInto ops i w = some ops') :
    FewerOps ops' ops := by
  unfold receiveInto at h
  split at h
  next r last =>
    split at h
    · obtain rfl := Option.some.inj h
      conv => rhs; rw [← List.dropLast_append_getLast? _ last]
      exact FewerOps.append (.refl _) (.run _ _)
    · cases h
  next => cases h

/-! ### The port over every event -/

theorem State.portWithinBounds_of_ops {s t : State} (h : s.portWithinBounds) (ops : FewerOps t.port.ops s.port.ops) :
    t.portWithinBounds := ⟨ops.1.trans h.1, ops.2.trans h.2⟩

theorem State.portWithinBounds_of_eq {s t : State} (h : s.portWithinBounds) (ops : t.port.ops = s.port.ops) :
    t.portWithinBounds := State.portWithinBounds_of_ops h (ops ▸ .refl _)

theorem State.portWithinBounds_of_none {t : State} (ops : t.port.ops = []) : t.portWithinBounds := by
  unfold State.portWithinBounds
  rw [ops]
  exact ⟨Nat.zero_le _, Nat.zero_le _⟩

theorem State.settle_ops (s : State) : FewerOps s.settle.port.ops s.port.ops := by
  have link : ∀ u : State, FewerOps u.grantLink.port.ops u.port.ops := fun u => by
    unfold State.grantLink
    split
    · exact .refl _
    next ops r taken =>
      dsimp only
      split
      · exact takeWaiting_fewer taken
      · simpa using takeWaiting_fewer taken
  have first : ∀ u : State, FewerOps u.grantFirst.port.ops u.port.ops := fun u => by
    have kept : ∀ v : State, v.port = u.port → FewerOps v.port.ops u.port.ops := fun v h => h ▸ .refl _
    unfold State.grantFirst
    dsimp only
    split
    · exact kept _ (by simp)
    · split
      · exact kept _ (by simp)
      · exact kept _ (by simp)
      · split
        · exact link u
        · split
          · exact kept _ (by simp)
          · exact kept _ (by simp)
          · split
            · exact kept _ (by simp)
            · exact .refl _
  unfold State.settle State.arbitrate
  split
  · simpa using FewerOps.refl s.port.ops
  · simpa using first s.convert

theorem State.portWithinBounds_settle {s : State} (h : s.portWithinBounds) : s.settle.portWithinBounds :=
  State.portWithinBounds_of_ops h s.settle_ops

/-- A run added where the port has room. -/
theorem State.portWithinBounds_addRun {s : State} (h : s.portWithinBounds) (room : s.port.hasRoom = true) (r : Run) :
    (s.setOps (s.port.ops ++ [.run r])).portWithinBounds := by
  obtain ⟨-, writes⟩ := h
  have runs : (s.port.ops.filter PortOp.isRun).length < 2 := of_decide_eq_true room
  constructor
  · rw [show (s.setOps (s.port.ops ++ [.run r])).port.ops = s.port.ops ++ [.run r] from rfl, List.filter_append,
      List.length_append]
    exact runs
  · rw [show (s.setOps (s.port.ops ++ [.run r])).port.ops = s.port.ops ++ [.run r] from rfl, List.filter_append,
      List.length_append]
    exact writes

theorem State.portWithinBounds_requestReadRun {s : State} (h : s.portWithinBounds) (i : Nat) :
    (s.requestReadRun i).portWithinBounds := by
  unfold State.requestReadRun
  split
  next room => exact State.portWithinBounds_addRun h room _
  next => exact h

theorem State.portWithinBounds_ensureRun {s : State} (h : s.portWithinBounds) (i : Nat) :
    (s.ensureRun i).portWithinBounds := by
  unfold State.ensureRun
  split
  · exact h
  · exact State.portWithinBounds_requestReadRun h i

theorem State.portWithinBounds_readArea {s : State} (h : s.portWithinBounds) (i : Nat) :
    (s.readArea i).2.portWithinBounds := by
  have ensured := State.portWithinBounds_ensureRun h i
  unfold State.readArea
  dsimp only
  split
  · unfold State.readFromRun
    dsimp only
    split
    · exact State.portWithinBounds_of_ops (State.portWithinBounds_ensureRun ensured _) (finishRead_fewer _ _)
    · exact State.portWithinBounds_ensureRun ensured _
  · exact ensured

theorem State.portWithinBounds_readRegister {s : State} (h : s.portWithinBounds) (r : LinkRegister) :
    (s.readRegister r).2.portWithinBounds := by
  cases r with
  | done => exact State.portWithinBounds_of_eq h (by simp [State.readRegister])
  | id | next | note | mask | cmd => exact h

theorem State.portWithinBounds_readAt {s : State} (h : s.portWithinBounds) (a : Word) :
    (s.readAt a).2.portWithinBounds := by
  unfold State.readAt
  split
  · exact State.portWithinBounds_readArea h _
  · split
    · exact State.portWithinBounds_readRegister h _
    · exact h
  · exact h

theorem State.beginStartup_ops (s : State) : s.beginStartup.port.ops = s.port.ops := by
  unfold State.beginStartup
  dsimp only
  split <;> simp

theorem State.shipWake_ops (s : State) : s.shipWake.port.ops = [] := by
  simp only [State.shipWake, State.requestRefresh_frame, State.beginStartup_ops]
  rfl

/-- An entry to SHIP leaves the port no operation, with a ship wake at once too (R180, R187). -/
theorem State.enterShip_ops (s : State) : s.enterShip.port.ops = [] := by
  unfold State.enterShip
  dsimp only
  split
  · exact State.shipWake_ops _
  · rfl

theorem State.portWithinBounds_ship {s : State} (h : s.portWithinBounds) : s.ship.portWithinBounds := by
  have refused : s.refuseShip.portWithinBounds := State.portWithinBounds_of_eq h rfl
  have accepted : s.acceptShip.portWithinBounds := by
    unfold State.acceptShip
    dsimp only
    split
    · exact State.portWithinBounds_of_none (State.enterShip_ops _)
    · refine State.portWithinBounds_of_eq h ?_
      split <;> simp
  unfold State.ship
  (repeat' split) <;> assumption

theorem State.portWithinBounds_softReset {s : State} (h : s.portWithinBounds) : s.softReset.portWithinBounds := by
  refine State.portWithinBounds_of_eq h ?_
  unfold State.softReset State.softResetBlocks
  dsimp only
  (repeat' split) <;> simp

theorem State.portWithinBounds_writeRegister {s : State} (h : s.portWithinBounds) (r : LinkRegister) (w : Word) :
    (s.writeRegister r w).portWithinBounds := by
  have kept : ∀ {t : State}, t.port = s.port → t.portWithinBounds :=
    fun ht => State.portWithinBounds_of_eq h (congrArg Port.ops ht)
  cases r with
  | id => exact h
  | next => exact kept (by simp [State.writeRegister])
  | done => exact h
  | note => exact kept (by simp [State.writeRegister])
  | mask => exact kept rfl
  | cmd =>
    show (s.writeCommand w).portWithinBounds
    unfold State.writeCommand
    split
    next c _ =>
      cases c with
      | softReset => exact State.portWithinBounds_softReset h
      | ship => exact State.portWithinBounds_ship h
      | skipItem | skipList | release | profileStart | profileStop | clearWindow | preset =>
        exact kept (by simp [State.command])
    next => exact h

theorem State.portWithinBounds_writeAt {s : State} (h : s.portWithinBounds) (a w : Word) :
    (s.writeAt a w).portWithinBounds := by
  unfold State.writeAt
  split
  · unfold State.receiveWord
    split
    next received => exact State.portWithinBounds_of_ops h (receiveInto_fewer received)
    next =>
      split
      next room => exact State.portWithinBounds_addRun h room _
      next => exact h
  · unfold State.receiveRegister
    split
    · exact h
    · split
      · exact State.portWithinBounds_writeRegister h _ _
      · split
        · exact h
        next free =>
          obtain ⟨runs, -⟩ := h
          have none_ : s.port.ops.filter (fun op => !op.isRun) = [] := by
            simpa [Port.holdsWrite] using free
          constructor
          · simpa [State.setOps, State.setPort, PortOp.isRun] using runs
          · rw [show (s.setOps (s.port.ops ++ [.write _ w])).port.ops = s.port.ops ++ [.write _ w] from rfl,
              List.filter_append, none_]
            exact Nat.le_refl 1
  · exact h

theorem State.portWithinBounds_frameEvent {s : State} (h : s.portWithinBounds) (e : FrameEvent) :
    (s.frameEvent e).portWithinBounds := by
  have framed : ∀ f, (s.setFrame f).portWithinBounds := fun f => State.portWithinBounds_of_eq h rfl
  have ended : s.endFrame.portWithinBounds :=
    State.portWithinBounds_of_ops h (FewerOps.flatMap PortOp.atFrameEnd_fewer _)
  unfold State.frameEvent
  split
  · exact State.portWithinBounds_of_eq h rfl
  · exact framed _
  · unfold State.takeAddress
    dsimp only
    split
    · exact State.portWithinBounds_requestReadRun (framed _) _
    · exact framed _
  · exact State.portWithinBounds_writeAt (framed _) _ _
  · exact State.portWithinBounds_of_eq (State.portWithinBounds_readAt (framed _) _) rfl
  · exact h
  · exact ended
  · exact h

theorem State.portWithinBounds_busEvent {s : State} (h : s.portWithinBounds) (e : FrameEvent) :
    (s.busEvent e).portWithinBounds := by
  unfold State.busEvent
  split
  · exact State.portWithinBounds_settle (State.portWithinBounds_of_eq (State.portWithinBounds_frameEvent h e) (by simp))
  · exact h

theorem State.portWithinBounds_linkCompleted {s : State} (h : s.portWithinBounds) :
    s.linkCompleted.portWithinBounds := by
  have completed : (s.setOps (completeGranted s.port.ops)).endTransaction.portWithinBounds :=
    State.portWithinBounds_of_ops h (completeGranted_fewer _)
  have acted : (s.setOps (completeGranted s.port.ops)).endTransaction.actHeld.portWithinBounds := ?_
  · exact State.portWithinBounds_settle (State.portWithinBounds_of_eq acted (by simp))
  unfold State.actHeld
  split
  next held => exact State.portWithinBounds_writeRegister (State.portWithinBounds_of_ops completed (releaseHeld_fewer held)) _ _
  next => exact completed

theorem State.portWithinBounds_after {s : State} (h : s.portWithinBounds) (c : Instr) : (s.after c).portWithinBounds := by
  have kept : ∀ {t : State}, t.port = s.port → t.portWithinBounds :=
    fun ht => State.portWithinBounds_of_eq h (congrArg Port.ops ht)
  have settled : ∀ {u : State}, u.port = s.port → u.settle.portWithinBounds :=
    fun hu => State.portWithinBounds_settle (State.portWithinBounds_of_eq h (congrArg Port.ops hu))
  apply State.after_induction State.portWithinBounds s h (c := c)
  case settle => exact fun t ht => State.portWithinBounds_settle ht
  case por => exact State.portWithinBounds_of_none rfl
  case begin_ => exact fun _ => State.portWithinBounds_of_eq h s.beginStartup_ops
  case slot => exact kept (by simp)
  case bus =>
    exact fun l => State.busEvents_induction State.portWithinBounds
      (fun s e hs => State.portWithinBounds_busEvent hs e) l s h
  case link => exact fun _ => State.portWithinBounds_linkCompleted h
  case next => exact fun _ => kept (by simp)
  case done => exact State.portWithinBounds_of_eq h (by simp [State.shiftOut])
  case note => exact fun _ => kept (by simp)
  case mask => exact fun _ => kept (by simp)
  case soft => exact State.portWithinBounds_softReset h
  case skipItem => exact kept (by simp)
  case skipList => exact kept (by simp)
  case ship => exact State.portWithinBounds_ship h
  case release => exact fun _ => kept (by simp)
  case start => exact fun _ => kept (by simp)
  case stop => exact fun _ => kept (by simp)
  case clear => exact kept (by simp)
  case preset => exact fun _ => kept (by simp)
  case rise => exact kept (by simp)
  case fall =>
    unfold State.qreqFalls
    dsimp only
    split
    · split
      · exact settled (by simp)
      · exact kept (by simp)
    · exact h
  case fast => exact fun _ _ _ => kept (by simp)
  case collapse => exact fun _ => kept (by simp)
  case wake =>
    intro _ i
    unfold State.attachWake
    split
    · split
      · split
        · exact h
        · exact kept (by simp)
      · exact State.portWithinBounds_of_none (State.shipWake_ops _)
      · exact h
      · exact h
      · exact h
    · exact h
  case shipSlot =>
    intro entry
    rw [State.shipSlotExpires, if_pos entry]
    split
    · exact kept (by simp)
    · exact kept (by simp)
    · exact State.portWithinBounds_of_none (State.enterShip_ops _)
    · exact h
  case period => exact fun _ => settled (by simp)
  case scan =>
    intro x b
    unfold State.scanConverted
    split
    · split
      · exact settled (by simp)
      · exact h
    · exact h
  case probe =>
    intro x
    unfold State.probeConverted
    split
    · split
      · exact settled (by split <;> simp)
      · exact h
    · exact h
  case gauge => exact fun e _ => settled (by split <;> simp)
  case alloc => exact fun _ => kept (by simp)
  case refresh => exact fun _ _ => kept (by simp)
  case fetch => exact fun _ _ _ _ => kept (by simp)
  case item =>
    intro _ _ _
    unfold State.itemFetchCompleted
    split <;> exact kept (by simp)
  case written =>
    intro _ _ _
    unfold State.seqWriteCompleted
    split <;> exact kept (by simp)

/-! ### Every step -/

theorem portWithinBounds_step {s t : State} (hs : step s = .next t) (h : s.portWithinBounds) : t.portWithinBounds :=
  step_keeps State.portWithinBounds (fun _ _ h => State.portWithinBounds_of_eq h rfl)
    (fun c _ h => State.portWithinBounds_after h c) hs h

/-- Settles O12: the port's operations are counted over every event, and each other bound passes from a state to the
next. -/
theorem stepKeepsBounds : Obligations.StepKeepsBounds := by
  unfold Obligations.StepKeepsBounds
  intro s t hs
  have kept := State.KeepsBounds.step hs
  exact ⟨portWithinBounds_step hs, kept.lists, kept.weights, kept.counts⟩

end Sys2Proof.Machine
end

section
/-! PROOFS. What the sequencer owns of the state: its record, the probe conversions and the transactions it asks for, and
the causes it raises. An operation of the sequencer acts on that part as that part and a few readings tell it. -/

namespace Sys2Proof.Machine

/-- The sequencer's record with what it asks for and raises. -/
structure SeqPart where
  seq : Sequencer
  probePending : Nat
  probeChannel : Nat
  seqFetch : Option Nat
  seqWrite : Option (Nat × Word)
  window : Bool
  writeFault : Bool
  listBad : Bool

def State.seqPart (s : State) : SeqPart :=
  { seq := s.seq, probePending := s.converter.probePending, probeChannel := s.converter.probeChannel
    seqFetch := s.arbiter.seqFetch, seqWrite := s.arbiter.seqWrite, window := s.notices.sticky.window
    writeFault := s.notices.sticky.writeFault, listBad := s.notices.sticky.listBad }

/-- The sequencer's part put into a state. -/
def State.putSeq (u : State) (p : SeqPart) : State :=
  { u with
    seq := p.seq
    converter := { u.converter with probePending := p.probePending, probeChannel := p.probeChannel }
    arbiter := { u.arbiter with seqFetch := p.seqFetch, seqWrite := p.seqWrite }
    notices := { u.notices with sticky := { u.notices.sticky with
      window := p.window, writeFault := p.writeFault, listBad := p.listBad } } }

@[simp] theorem State.seqPart_putSeq (s : State) (p : SeqPart) : (s.putSeq p).seqPart = p := rfl

theorem State.putSeq_record (u : State) (p : SeqPart) : (u.putSeq p).seq = p.seq := rfl

theorem State.seqPart_record (s : State) : s.seqPart.seq = s.seq := rfl

/-! ### Operations that read nothing but the sequencer's part and the settings -/

/-- An operation acts on the sequencer's part alone, and alike in two states with one memory. -/
def SeqLocal (f : State → State) : Prop := ∀ s u : State, u.mem = s.mem → f (u.putSeq s.seqPart) = u.putSeq (f s).seqPart

theorem SeqLocal.comp {f g : State → State} (hf : SeqLocal f) (hg : SeqLocal g) (mem : ∀ s, (f s).mem = s.mem) :
    SeqLocal fun s => g (f s) := by
  intro s u h
  show g (f (u.putSeq s.seqPart)) = _
  rw [hf s u h]
  exact hg (f s) u (h.trans (mem s).symm)

/-- Of an operation that differs by what the record holds, each branch may be taken alone. -/
theorem SeqLocal.of_record {α : Type} (read : Sequencer → α) {f : α → State → State} (h : ∀ a, SeqLocal (f a)) :
    SeqLocal fun s => f (read s.seq) s := fun s u mem => h (read s.seq) s u mem

/-- A change of the record by what the record holds. -/
theorem seqLocal_setSeq (f : Sequencer → Sequencer) : SeqLocal fun s => s.setSeq (f s.seq) := fun _ _ _ => rfl

theorem seqLocal_post (x : EndCode) : SeqLocal fun s => s.post x := by
  intro s u _
  simp only [State.post, State.putSeq_record, State.seqPart_record]
  cases s.seq.current with
  | none => rfl
  | some i =>
    by_cases room : s.seq.done.length < 4
    · simp only [room, if_true]
      rfl
    · simp only [room, if_false]
      rfl

theorem seqLocal_requestItem (i : Nat) : SeqLocal fun s => s.requestItem i := fun _ _ _ => rfl

theorem seqLocal_startList : SeqLocal State.startList := by
  intro s u _
  simp only [State.startList, State.putSeq_record, State.seqPart_record]
  cases s.seq.slot with
  | none => rfl
  | some i => rfl

theorem seqLocal_endList : SeqLocal State.endList :=
  (seqLocal_setSeq fun q => { q with current := none }).comp seqLocal_startList fun _ => rfl

theorem seqLocal_raise_listBad : SeqLocal fun s => s.raise .listBad := fun _ _ _ => rfl

theorem seqLocal_endListWith (x : EndCode) : SeqLocal fun s => s.endListWith x := by
  have posted := seqLocal_post x
  have mem : ∀ s : State, (s.post x).mem = s.mem := fun s => by simp
  have bad := posted.comp seqLocal_raise_listBad mem
  cases x with
  | bad => exact bad.comp seqLocal_endList fun s => by simp
  | budget => exact bad.comp seqLocal_endList fun s => by simp
  | ended => exact posted.comp seqLocal_endList mem
  | pass => exact posted.comp seqLocal_endList mem

theorem seqLocal_goOn (i : Nat) : SeqLocal fun s => s.goOn i := by
  unfold State.goOn
  split
  · exact seqLocal_requestItem i
  · exact seqLocal_endListWith .bad

theorem seqLocal_finishItem (i : Nat) : SeqLocal fun s => s.finishItem i := by
  intro s u h
  simp only [State.finishItem, State.putSeq_record, State.seqPart_record]
  by_cases spent : 64 ≤ s.seq.budget
  · simp only [spent, if_true]
    exact seqLocal_endListWith .budget s u h
  · simp only [spent, if_false]
    exact seqLocal_goOn i s u h

theorem seqLocal_finishNext : SeqLocal fun s => s.finishItem s.nextItem :=
  SeqLocal.of_record (fun q => q.itemIndex + 4) seqLocal_finishItem

theorem seqLocal_writeFault : SeqLocal State.writeFault := fun _ _ _ => rfl

theorem seqLocal_requestWrite (i : Nat) (v : Word) : SeqLocal fun s => s.requestWrite i v := fun _ _ _ => rfl

/-- A setting is read of the memory alone. -/
theorem State.setting_of_mem {s u : State} (h : u.mem = s.mem) (i lo hi : Nat) : u.setting i lo hi = s.setting i lo hi := by
  simp only [State.setting, State.readWord, h]

theorem seqLocal_fault : SeqLocal fun s => s.writeFault.finishItem s.nextItem :=
  seqLocal_writeFault.comp seqLocal_finishNext fun s => by simp

theorem seqLocal_writeResult (i : Nat) (v : Word) : SeqLocal fun s => s.writeResult i v := by
  intro s u h
  have window : (u.putSeq s.seqPart).inWindow i = s.inWindow i := by
    have low : (u.putSeq s.seqPart).winLo = s.winLo := State.setting_of_mem h _ _ _
    have high : (u.putSeq s.seqPart).winHi = s.winHi := State.setting_of_mem h _ _ _
    rw [State.inWindow, low, high]
    rfl
  simp only [State.writeResult, window]
  split
  · exact seqLocal_requestWrite i v s u h
  · exact seqLocal_fault s u h

theorem seqLocal_writeSetting (i : Nat) (v : Word) : SeqLocal fun s => s.writeSetting i v := by
  unfold State.writeSetting
  split
  · exact seqLocal_requestWrite i v
  · exact seqLocal_fault

theorem seqLocal_formResult : SeqLocal State.formResult := by
  intro s u h
  simp only [State.formResult, State.putSeq_record, State.seqPart_record]
  split
  · exact ((seqLocal_setSeq fun q => { q with last := q.sum.tdiv _ }).comp
      (SeqLocal.of_record (fun q => q.sum.tdiv _) fun v => seqLocal_writeResult _ _) fun _ => rfl) s u h
  · rfl

/-! ### Triggers -/

/-- The same for an operation that a computed channel's value and the link's standing as well, the former the cell voltages. -/
theorem State.takeTrigger_putSeq (g : Trigger) (s u : State) (mem : u.mem = s.mem)
    (voltage : ∀ c, (u.cells.get c).vcell = (s.cells.get c).vcell)
    (ship : u.control.state = .ship ↔ s.control.state = .ship) :
    (u.putSeq s.seqPart).takeTrigger g = u.putSeq (s.takeTrigger g).seqPart := by
  have began : (u.putSeq s.seqPart).beginConverting = u.putSeq s.beginConverting.seqPart := by
    have computed : ∀ ch, (u.putSeq s.seqPart).computedChannel ch = s.computedChannel ch := fun ch => by
      have a : u.cells.a.vcell = s.cells.a.vcell := voltage .a
      have b : u.cells.b.vcell = s.cells.b.vcell := voltage .b
      unfold State.computedChannel
      rw [← a, ← b]
      rfl
    simp only [State.beginConverting, State.putSeq_record, State.seqPart_record, computed]
    split
    next ch n _ _ _ =>
      split
      · rfl
      · exact ((seqLocal_setSeq fun q => { q with sum := s.computedChannel ch * n, taken := n }).comp
          seqLocal_formResult fun _ => rfl) s u mem
    next => rfl
  have inShip : (u.putSeq s.seqPart).control.state = .ship ↔ s.control.state = .ship := ship
  simp only [State.takeTrigger, State.putSeq_record, State.seqPart_record, ne_eq, inShip]
  split
  · split
    · exact began
    · rfl
  · rfl

theorem State.formResult_of_sample {s : State} {ch n target : Nat} {g : Trigger}
    (h : s.seq.item = some (.sample ch n g target)) :
    s.formResult = (s.setSeq { s.seq with last := s.seq.sum.tdiv n }).writeResult target (wordOf (s.seq.sum.tdiv n)) := by
  unfold State.formResult
  rw [h]

/-- What a trigger does, in the words of the statements (R147). -/
theorem triggerTaken_takeTrigger (g : Trigger) (s : State) : TriggerTaken g s (s.takeTrigger g) := by
  constructor
  · intro ch n target waits item notShip known counted
    have taken : s.takeTrigger g = s.beginConverting := by
      simp [State.takeTrigger, waits, item, notShip]
    have ratio : ∀ x : Int, (x * n).tdiv n = x := fun x => Int.mul_tdiv_cancel x (by omega)
    rw [taken]
    unfold State.beginConverting beganConverting
    rw [item]
    dsimp only
    by_cases pin : ch < 14
    · simp only [pin, if_true]
      rfl
    · simp only [pin, if_false]
      refine (State.formResult_of_sample (s := s.setSeq { s.seq with sum := s.computedChannel ch * n, taken := n })
        item).trans ?_
      simp only [State.setSeq_fields, ratio]
      rfl
  · intro misses
    unfold State.takeTrigger
    split
    next ch n g' target waits item =>
      rw [if_neg]
      rintro ⟨rfl, notShip⟩
      rcases misses with h | h | h
      · exact h waits
      · exact notShip h
      · exact h ch n target item
    next => rfl

/-! ### What an operation of the sequencer changes -/

/-- Beside the sequencer's part, only the cell paths and the transfer converter may differ: a COMPARE acts on these. -/
def SeqActs (s t : State) : Prop := t = State.putSeq { s with cells := t.cells, transfer := t.transfer } t.seqPart

theorem SeqActs.refl (s : State) : SeqActs s s := rfl

theorem SeqActs.trans {s t u : State} (h : SeqActs s t) (k : SeqActs t u) : SeqActs s u := by
  unfold SeqActs at *
  rw [h] at k
  exact k

theorem SeqLocal.acts {f : State → State} (h : SeqLocal f) (s : State) : SeqActs s (f s) := by
  have only : f s = s.putSeq (f s).seqPart := h s s rfl
  unfold SeqActs
  rw [only]
  rfl

theorem SeqActs.takeTrigger (s : State) (g : Trigger) : SeqActs s (s.takeTrigger g) := by
  have only : s.takeTrigger g = s.putSeq (s.takeTrigger g).seqPart :=
    s.takeTrigger_putSeq g s rfl (fun _ => rfl) Iff.rfl
  unfold SeqActs
  rw [only]
  rfl

theorem SeqActs.compareFires (s : State) (n : Nat) (x : CompareAction) : SeqActs s (s.compareFires n x) := by
  cases x with
  | note => rfl
  | holdA => rfl
  | holdB => rfl
  | stopXfer =>
    unfold SeqActs State.compareFires
    simp only [State.stopTransferByWindow, State.forceRest_eq]
    rfl

theorem SeqActs.beginConverting (s : State) : SeqActs s s.beginConverting := by
  unfold State.beginConverting
  split
  · split
    · rfl
    · exact .trans (t := s.setSeq _) rfl (seqLocal_formResult.acts _)
  · rfl

theorem SeqActs.jump (s : State) (i : Nat) : SeqActs s (s.jump i) := by
  have posted := (seqLocal_post .pass).acts s
  unfold State.jump
  dsimp only
  split
  · exact posted.trans (seqLocal_endList.acts _)
  · exact posted.trans ((seqLocal_finishItem i).acts _)

theorem SeqActs.carryOut (s : State) (x : Item) : SeqActs s (s.carryOut x) := by
  have counted : SeqActs s (s.setSeq { s.seq with budget := x.budgetAfter s.seq.budget }) := rfl
  refine counted.trans ?_
  generalize hu : s.setSeq { s.seq with budget := x.budgetAfter s.seq.budget } = u
  unfold State.carryOut
  rw [hu]
  dsimp only
  cases x with
  | endItem => exact (seqLocal_endListWith .ended).acts u
  | bad k => exact (seqLocal_endListWith .bad).acts u
  | sample ch count g target =>
    cases g with
    | now => exact .trans (t := u.setSeq _) rfl (.beginConverting _)
    | period | fold | swapA | swapB => rfl
  | compare flag action low high =>
    refine SeqActs.trans ?_ ((seqLocal_finishItem _).acts _)
    split
    · exact .compareFires u _ _
    · exact .refl u
  | wait periods => rfl
  | mark what target => exact (seqLocal_writeResult _ _).acts u
  | branch c a target => exact (seqLocal_finishItem _).acts u
  | jump target => exact .jump u _
  | setw v target => exact (seqLocal_writeSetting _ _).acts u

theorem SeqActs.thaw (s : State) : SeqActs s s.thaw := by
  have back : SeqActs s (s.setSeq { s.seq with state := s.seq.kept, held := none }) := rfl
  unfold State.thaw
  split
  · dsimp only
    refine back.trans ?_
    split
    · split
      · exact .carryOut _ _
      · exact .refl _
    · exact (seqLocal_finishItem _).acts _
    · exact seqLocal_formResult.acts _
    · exact seqLocal_startList.acts _
    · exact .refl _
  · exact .refl s

end Sys2Proof.Machine
end

section
/-! PROOFS. The cell paths at a scan completion: what is measured, what the tests find, and what no later action of the
completion touches. -/

namespace Sys2Proof.Machine

/-! ### What of a cell path the selector, the controller and the band unit leave -/

/-- A cell path but for its hold reasons, its renewal mark, its switch and its set-point. -/
def CellPath.core (x : CellPath) : CellPath :=
  { x with holds := { band := false, window := false, quiet := false, heat := false }, renewal := false
           pathOpen := true, setPoint := 0 }

theorem CellPath.core_eq {x y : CellPath} (h : x.core = y.core) :
    x.charge = y.charge ∧ x.vcell = y.vcell ∧ x.tp = y.tp ∧ x.termCount = y.termCount ∧
      x.emptyLatch = y.emptyLatch ∧ x.trip = y.trip ∧ x.tripCount = y.tripCount ∧
      x.releaseResult = y.releaseResult ∧ x.thresholds = y.thresholds := by
  simpa [CellPath.core] using h

theorem State.core_setCell {s : State} {c : CellId} {x : CellPath} (h : x.core = (s.cells.get c).core) (d : CellId) :
    ((s.setCell c x).cells.get d).core = (s.cells.get d).core := by
  rw [State.get_setCell]
  split
  · subst_vars
    exact h
  · rfl

@[simp] theorem State.core_putHold (s : State) (c : CellId) (r : HoldReason) (v : Bool) (d : CellId) :
    ((s.putHold c r v).cells.get d).core = (s.cells.get d).core := by
  unfold State.putHold
  exact State.core_setCell (by rfl) d

@[simp] theorem State.core_putHoldBoth (s : State) (r : HoldReason) (v : Bool) (d : CellId) :
    ((s.putHoldBoth r v).cells.get d).core = (s.cells.get d).core := by simp [State.putHoldBoth]

@[simp] theorem State.core_openPath (s : State) (c d : CellId) :
    ((s.openPath c).cells.get d).core = (s.cells.get d).core := by
  unfold State.openPath
  exact State.core_setCell (by rfl) d

@[simp] theorem State.core_closePath (s : State) (c d : CellId) :
    ((s.closePath c).cells.get d).core = (s.cells.get d).core := by
  unfold State.closePath
  split
  · rfl
  · exact State.core_setCell (by rfl) d

@[simp] theorem State.core_zeroCharge (s : State) (c d : CellId) :
    ((s.zeroCharge c).cells.get d).core = (s.cells.get d).core := by
  unfold State.zeroCharge
  exact State.core_setCell (by rfl) d

@[simp] theorem State.core_setRenewal (s : State) (c d : CellId) :
    ((s.setRenewal c).cells.get d).core = (s.cells.get d).core := by
  unfold State.setRenewal
  exact State.core_setCell (by rfl) d

@[simp] theorem State.core_lookupBand (s : State) (r : Readings) (c d : CellId) :
    ((s.lookupBand r c).cells.get d).core = (s.cells.get d).core := by
  unfold State.lookupBand
  dsimp only
  split <;> simp

@[simp] theorem State.core_compareFires (s : State) (n : Nat) (x : CompareAction) (d : CellId) :
    ((s.compareFires n x).cells.get d).core = (s.cells.get d).core := by
  unfold State.compareFires
  cases x <;> simp

@[simp] theorem State.core_carryOut (s : State) (x : Item) (d : CellId) :
    ((s.carryOut x).cells.get d).core = (s.cells.get d).core := by
  unfold State.carryOut
  cases x with
  | sample ch count g target => cases g <;> simp
  | _ => dsimp only; (repeat' split) <;> simp

@[simp] theorem State.core_thaw (s : State) (d : CellId) :
    (s.thaw.cells.get d).core = (s.cells.get d).core := by
  unfold State.thaw
  dsimp only
  (repeat' split) <;> simp

@[simp] theorem State.core_enterQuiet (s : State) (d : CellId) :
    (s.enterQuiet.cells.get d).core = (s.cells.get d).core := by
  unfold State.enterQuiet
  dsimp only
  (repeat' split) <;> simp

@[simp] theorem State.core_wake (s : State) (b : Bool) (d : CellId) :
    ((s.wake b).cells.get d).core = (s.cells.get d).core := by
  unfold State.wake State.wakeFreshStep
  dsimp only
  (repeat' split) <;> simp

@[simp] theorem State.core_testHeat (s : State) (t : Int) (d : CellId) :
    ((s.testHeat t).cells.get d).core = (s.cells.get d).core := by
  unfold State.testHeat State.enterHeat State.exitHeat
  dsimp only
  (repeat' split) <;> simp

@[simp] theorem State.core_triggerAndHeat (s : State) (b : Bool) (t : Int) (d : CellId) :
    ((s.triggerAndHeat b t).cells.get d).core = (s.cells.get d).core := by
  unfold State.triggerAndHeat
  (repeat' split) <;> simp

@[simp] theorem State.core_makeSelection (s : State) (b : Option Bool) (d : CellId) :
    ((s.makeSelection b).cells.get d).core = (s.cells.get d).core := by
  obtain ⟨cells, -⟩ | ⟨cells, -⟩ := s.makeSelection_cases b
  · rw [cells]
  · rw [cells]
    exact (State.core_zeroCharge _ .b d).trans (State.core_zeroCharge s .a d)

/-! ### The measurement -/

/-- A cell path once the fold sample is taken, the thresholds follow and its voltage is worked out (R9, R11, R14). -/
def State.measuredCell (s : State) (r : ScanRecord) (foldHigh : Bool) (c : CellId) : CellPath :=
  { s.cells.get c with
    thresholds := s.thresholdsNow c
    vcell := compensate (r.readings.vpin c) (r.readings.current c)
      (match c with
        | .a => s.rA
        | .b => if (foldSample s.fold foldHigh s.foldDeb).1.folded then s.rBFold else s.rBOpen) }

/-- The state in which the tests of the cells find the scan. -/
def State.measuredAtScan (s : State) (r : ScanRecord) (foldHigh : Bool) : State :=
  ((((s.sampleFold foldHigh).followThresholds .a).followThresholds .b).computeVcell r.readings .a).computeVcell
    r.readings .b

theorem State.cellsAtScan_eq (s : State) (r : ScanRecord) (b : Bool) :
    s.cellsAtScan r b = ((s.measuredAtScan r b).testCellAtScan r .a).testCellAtScan r .b := rfl

theorem State.sampleFold_fold (s : State) (b : Bool) : (s.sampleFold b).fold = (foldSample s.fold b s.foldDeb).1 := by
  unfold State.sampleFold
  dsimp only
  split <;> rfl

theorem State.measuredAtScan_cell (s : State) (r : ScanRecord) (b : Bool) (c : CellId) :
    (s.measuredAtScan r b).cells.get c = s.measuredCell r b c := by
  have fold := s.sampleFold_fold b
  have cells : (s.sampleFold b).cells = s.cells := by simp
  have mem : (s.sampleFold b).mem = s.mem := by simp
  unfold State.measuredAtScan State.measuredCell
  generalize s.sampleFold b = u at fold cells mem
  rw [← fold]
  simp only [State.thresholdsNow, State.vov, State.imaxChg, State.imaxDis, State.ttrip, State.iHingeMax, State.rA,
    State.rBFold, State.rBOpen, ← State.setting_of_mem mem, ← cells]
  cases c <;> rfl

/-! ### The tests -/

/-- The cell trips by the scan (R16). -/
abbrev State.tripsAtScan (s : State) (r : ScanRecord) (c : CellId) : Prop :=
  (s.cell c).charge ≠ .tripped ∧ (s.tripConditionOf r.readings c).isSome = true

/-- The cell becomes ABSENT by the scan (R3; log entry 41). -/
abbrev State.vanishesAtScan (s : State) (r : ScanRecord) (c : CellId) : Prop :=
  (s.cell c).charge ≠ .tripped ∧ (s.cell c).charge ≠ .absent ∧ s.tripConditionOf r.readings c = none ∧
    r.readings.vpin c < 1500

/-- The scan stops the cell: it trips or becomes ABSENT. -/
abbrev State.stopsAtScan (s : State) (r : ScanRecord) (c : CellId) : Prop := s.tripsAtScan r c ∨ s.vanishesAtScan r c

/-- The three outcomes of the tests of a cell. -/
theorem State.testCellAtScan_cases (s : State) (r : ScanRecord) (c : CellId) :
    (¬ s.stopsAtScan r c ∧ s.testCellAtScan r c = s) ∨
    (s.tripsAtScan r c ∧ ¬ s.vanishesAtScan r c ∧ ∃ cause, s.tripConditionOf r.readings c = some cause ∧
      s.testCellAtScan r c = s.tripCell c (tripRecordOf r.readings c cause .scan r.periodCount)) ∨
    (s.vanishesAtScan r c ∧ ¬ s.tripsAtScan r c ∧ s.testCellAtScan r c = s.becomeAbsent c) := by
  unfold State.testCellAtScan
  by_cases tripped : (s.cell c).charge = .tripped
  · refine .inl ⟨?_, if_pos tripped⟩
    rintro (⟨h, -⟩ | ⟨h, -⟩) <;> exact h tripped
  · rw [if_neg tripped]
    cases cond : s.tripConditionOf r.readings c with
    | some cause =>
      refine .inr (.inl ⟨⟨tripped, by rw [cond]; rfl⟩, ?_, cause, rfl, rfl⟩)
      rintro ⟨-, -, h, -⟩
      rw [cond] at h
      cases h
    | none =>
      have calm : ¬ s.tripsAtScan r c := by
        rintro ⟨-, h⟩
        rw [cond] at h
        cases h
      dsimp only
      split
      next low => exact .inr (.inr ⟨⟨tripped, low.2, cond, low.1⟩, calm, rfl⟩)
      next high =>
        refine .inl ⟨?_, rfl⟩
        rintro (h | ⟨-, present, -, low⟩)
        · exact calm h
        · exact high ⟨low, present⟩

/-- The conditions of a trip are read of the settings and the readings. -/
theorem State.tripConditionOf_of_mem {s u : State} (mem : u.mem = s.mem) (r : Readings) (c : CellId) :
    u.tripConditionOf r c = s.tripConditionOf r c := by
  simp only [State.tripConditionOf, State.thresholdsNow, State.vov, State.imaxChg, State.imaxDis, State.ttrip,
    State.iHingeMax, State.setting_of_mem mem]

/-- The outcome of the tests of a cell hangs on the settings, the readings and the cell's charge state. -/
theorem State.stops_of_charge {s u : State} (mem : u.mem = s.mem) {r : ScanRecord} {c : CellId}
    (charge : (u.cell c).charge = (s.cell c).charge) :
    (u.tripsAtScan r c ↔ s.tripsAtScan r c) ∧ (u.vanishesAtScan r c ↔ s.vanishesAtScan r c) := by
  unfold State.tripsAtScan State.vanishesAtScan
  rw [State.tripConditionOf_of_mem mem, charge]
  exact ⟨Iff.rfl, Iff.rfl⟩

/-- The tests of a cell touch no other cell. -/
theorem State.testCellAtScan_other (s : State) (r : ScanRecord) {c d : CellId} (h : d ≠ c) :
    (s.testCellAtScan r c).cells.get d = s.cells.get d := by
  obtain ⟨-, eq⟩ | ⟨-, -, cause, -, eq⟩ | ⟨-, -, eq⟩ := s.testCellAtScan_cases r c <;> rw [eq]
  · rw [State.tripCell_eq, PerCell.get_set, if_neg h]
  · simp only [State.becomeAbsent, State.forceRest_frame, State.modAllocation_fields, State.get_setCell, if_neg h]

/-- The state in which cell c is tested, b after a. -/
def State.beforeTest (s : State) (r : ScanRecord) (foldHigh : Bool) : CellId → State
  | .a => s.measuredAtScan r foldHigh
  | .b => (s.measuredAtScan r foldHigh).testCellAtScan r .a

theorem State.measuredAtScan_mem (s : State) (r : ScanRecord) (b : Bool) : (s.measuredAtScan r b).mem = s.mem := by
  simp [State.measuredAtScan]

theorem State.beforeTest_mem (s : State) (r : ScanRecord) (b : Bool) (c : CellId) : (s.beforeTest r b c).mem = s.mem := by
  cases c
  · exact s.measuredAtScan_mem r b
  · simpa [State.beforeTest] using s.measuredAtScan_mem r b

theorem State.beforeTest_cell (s : State) (r : ScanRecord) (b : Bool) (c : CellId) :
    (s.beforeTest r b c).cells.get c = s.measuredCell r b c := by
  cases c
  · exact s.measuredAtScan_cell r b .a
  · exact (State.testCellAtScan_other _ r (by decide)).trans (s.measuredAtScan_cell r b .b)

theorem State.beforeTest_stops (s : State) (r : ScanRecord) (b : Bool) (c : CellId) :
    ((s.beforeTest r b c).tripsAtScan r c ↔ s.tripsAtScan r c) ∧
      ((s.beforeTest r b c).vanishesAtScan r c ↔ s.vanishesAtScan r c) := by
  refine State.stops_of_charge (s.beforeTest_mem r b c) ?_
  show ((s.beforeTest r b c).cells.get c).charge = (s.cells.get c).charge
  rw [s.beforeTest_cell r b c]
  rfl

theorem State.cellsAtScan_cell (s : State) (r : ScanRecord) (b : Bool) (c : CellId) :
    (s.cellsAtScan r b).cells.get c = ((s.beforeTest r b c).testCellAtScan r c).cells.get c := by
  cases c
  · exact State.testCellAtScan_other _ r (by decide)
  · rfl

/-- A cell that neither trips nor becomes ABSENT keeps what is measured (R3, R16). -/
theorem State.cellsAtScan_of_stands {s : State} {r : ScanRecord} {c : CellId} (b : Bool) (h : ¬ s.stopsAtScan r c) :
    (s.cellsAtScan r b).cells.get c = s.measuredCell r b c := by
  obtain ⟨trips, vanishes⟩ := s.beforeTest_stops r b c
  rw [s.cellsAtScan_cell]
  obtain ⟨-, eq⟩ | ⟨stop, -⟩ | ⟨stop, -⟩ := (s.beforeTest r b c).testCellAtScan_cases r c
  · rw [eq, s.beforeTest_cell]
  · exact absurd (.inl (trips.mp stop)) h
  · exact absurd (.inr (vanishes.mp stop)) h

theorem State.cellsAtScan_of_trips {s : State} {r : ScanRecord} {c : CellId} {cause : TripCause} (b : Bool)
    (h : (s.cell c).charge ≠ .tripped) (cond : s.tripConditionOf r.readings c = some cause) :
    (s.cellsAtScan r b).cells.get c = { s.measuredCell r b c with
      charge := .tripped
      pathOpen := true
      setPoint := 0
      termCount := 0
      trip := some ((s.cell c).trip.getD (tripRecordOf r.readings c cause .scan r.periodCount))
      tripCount := saturatingSucc 255 (s.cell c).tripCount } := by
  obtain ⟨trips, -⟩ := s.beforeTest_stops r b c
  have stop : (s.beforeTest r b c).tripsAtScan r c := trips.mpr ⟨h, by rw [cond]; rfl⟩
  have cell := s.beforeTest_cell r b c
  rw [s.cellsAtScan_cell]
  obtain ⟨none_, -⟩ | ⟨-, -, cause', cond', eq⟩ | ⟨-, none_, -⟩ := (s.beforeTest r b c).testCellAtScan_cases r c
  · exact absurd (.inl stop) none_
  · rw [State.tripConditionOf_of_mem (s.beforeTest_mem r b c), cond] at cond'
    obtain rfl := Option.some.inj cond'
    rw [eq, State.tripCell_eq, PerCell.get_set_same,
      show (s.beforeTest r b c).cell c = s.measuredCell r b c from cell]
    rfl
  · exact absurd stop none_

theorem State.cellsAtScan_of_vanishes {s : State} {r : ScanRecord} {c : CellId} (b : Bool) (h : s.vanishesAtScan r c) :
    (s.cellsAtScan r b).cells.get c = { s.measuredCell r b c with charge := .absent, setPoint := 0, termCount := 0 } := by
  obtain ⟨-, vanishes⟩ := s.beforeTest_stops r b c
  have stop := vanishes.mpr h
  have cell := s.beforeTest_cell r b c
  rw [s.cellsAtScan_cell]
  obtain ⟨none_, -⟩ | ⟨-, none_, -⟩ | ⟨-, -, eq⟩ := (s.beforeTest r b c).testCellAtScan_cases r c
  · exact absurd (.inr stop) none_
  · exact absurd stop none_
  · rw [eq]
    simp only [State.becomeAbsent, State.forceRest_frame, State.modAllocation_fields, State.get_setCell, if_true]
    rw [show (s.beforeTest r b c).cell c = s.measuredCell r b c from cell]

end Sys2Proof.Machine
end

section
/-! PROOFS. The notices, the transfer converter and the allocation in flight over the tests of the cells, and the
selection at a scan completion. -/

namespace Sys2Proof.Machine

/-! ### Notices, and the transfer converter at rest -/

theorem Sticky.get_set (k : Sticky) (c d : StickyCause) (v : Bool) : (k.set c v).get d = if d = c then v else k.get d := by
  cases c <;> cases d <;> rfl

/-- A raised cause is pending, and every other as it was (R176). -/
theorem State.sticky_raise (s : State) (c k : StickyCause) :
    (s.raise c).notices.sticky.get k = (s.notices.sticky.get k || decide (k = c)) := by
  rw [State.raise, State.setSticky, Sticky.get_set]
  by_cases h : k = c <;> simp [h]

theorem State.mask_raise (s : State) (c : StickyCause) : (s.raise c).notices.mask = s.notices.mask := rfl

/-- A transfer at rest that is put to rest again is as it was. -/
theorem Transfer.rested_rested (t : Transfer) (x : Nat) (c d : StopCause) :
    (t.rested x c).rested x d = t.rested x c := by
  obtain ⟨state, _, _, _, _⟩ := t
  cases state <;> rfl

theorem State.xrest_of_mem {s u : State} (mem : u.mem = s.mem) : u.xrest = s.xrest := State.setting_of_mem mem _ _ _

/-! ### The tests of the cells -/

/-- The allocation in flight is told which cells became ABSENT (case 1 of R6). -/
def Allocation.told (al : Allocation) (absentA absentB : Bool) : Allocation :=
  { al with becameAbsent := { a := al.becameAbsent.a || absentA, b := al.becameAbsent.b || absentB } }

theorem State.testCellAtScan_transfer (s : State) (r : ScanRecord) (c : CellId) :
    (s.testCellAtScan r c).transfer = if s.stopsAtScan r c then s.transfer.rested s.xrest .cell else s.transfer := by
  obtain ⟨stands, eq⟩ | ⟨stops, -, cause, -, eq⟩ | ⟨stops, -, eq⟩ := s.testCellAtScan_cases r c
  · rw [eq, if_neg stands]
  · rw [eq, if_pos (.inl stops), State.tripCell_eq]
  · rw [eq, if_pos (.inr stops), State.becomeAbsent, State.forceRest_eq]
    rfl

theorem State.testCellAtScan_sticky (s : State) (r : ScanRecord) (c : CellId) (k : StickyCause) :
    (s.testCellAtScan r c).notices.sticky.get k =
      (s.notices.sticky.get k || (decide (k = tripCauseOf c) && decide (s.tripsAtScan r c))) := by
  obtain ⟨stands, eq⟩ | ⟨stops, -, cause, -, eq⟩ | ⟨-, stands, eq⟩ := s.testCellAtScan_cases r c
  · rw [eq, decide_eq_false fun h => stands (.inl h), Bool.and_false, Bool.or_false]
  · rw [eq, decide_eq_true stops, Bool.and_true, State.tripCell_eq, Sticky.get_set]
    by_cases h : k = tripCauseOf c <;> simp [h]
  · rw [eq, decide_eq_false stands, Bool.and_false, Bool.or_false]
    simp [State.becomeAbsent]

theorem State.testCellAtScan_mask (s : State) (r : ScanRecord) (c : CellId) :
    (s.testCellAtScan r c).notices.mask = s.notices.mask := by
  obtain ⟨-, eq⟩ | ⟨-, -, cause, -, eq⟩ | ⟨-, -, eq⟩ := s.testCellAtScan_cases r c <;> rw [eq]
  · rw [State.tripCell_eq]
  · simp [State.becomeAbsent]

theorem State.testCellAtScan_allocator (s : State) (r : ScanRecord) (c : CellId) :
    (s.testCellAtScan r c).allocator = { s.allocator with inFlight := s.allocator.inFlight.map fun al => match c with
      | .a => al.told (decide (s.vanishesAtScan r c)) false
      | .b => al.told false (decide (s.vanishesAtScan r c)) } := by
  have untold : ∀ al : Allocation, al.told false false = al := fun al => by simp [Allocation.told]
  obtain ⟨stands, eq⟩ | ⟨-, stands, cause, -, eq⟩ | ⟨stops, -, eq⟩ := s.testCellAtScan_cases r c <;> rw [eq]
  · rw [decide_eq_false fun h => stands (.inr h)]
    cases c <;> simp [untold]
  · rw [decide_eq_false stands, State.tripCell_eq]
    cases c <;> simp [untold]
  · rw [decide_eq_true stops]
    cases c <;> simp [State.becomeAbsent, Allocation.told, PerCell.set]

theorem State.cellsAtScan_transfer (s : State) (r : ScanRecord) (b : Bool) :
    (s.cellsAtScan r b).transfer =
      if s.stopsAtScan r .a ∨ s.stopsAtScan r .b then s.transfer.rested s.xrest .cell else s.transfer := by
  have measured : (s.beforeTest r b .a).transfer = s.transfer := by simp [State.beforeTest, State.measuredAtScan]
  have a := (s.beforeTest r b .a).testCellAtScan_transfer r .a
  have b' := (s.beforeTest r b .b).testCellAtScan_transfer r .b
  have stopsA : (s.beforeTest r b .a).stopsAtScan r .a ↔ s.stopsAtScan r .a :=
    or_congr (s.beforeTest_stops r b .a).1 (s.beforeTest_stops r b .a).2
  have stopsB : (s.beforeTest r b .b).stopsAtScan r .b ↔ s.stopsAtScan r .b :=
    or_congr (s.beforeTest_stops r b .b).1 (s.beforeTest_stops r b .b).2
  rw [State.xrest_of_mem (s.beforeTest_mem r b .a), measured] at a
  rw [State.xrest_of_mem (s.beforeTest_mem r b .b), show (s.beforeTest r b .b).transfer = _ from a] at b'
  simp only [stopsA, stopsB] at b'
  refine Eq.trans (b := ((s.beforeTest r b .b).testCellAtScan r .b).transfer) rfl (b'.trans ?_)
  by_cases ha : s.stopsAtScan r .a <;> by_cases hb : s.stopsAtScan r .b <;>
    simp only [ha, hb, if_true, if_false, or_true, true_or, or_self, Transfer.rested_rested]

theorem State.cellsAtScan_sticky (s : State) (r : ScanRecord) (b : Bool) (k : StickyCause) :
    (s.cellsAtScan r b).notices.sticky.get k =
      (s.notices.sticky.get k || (decide (k = .fold) && (foldSample s.fold b s.foldDeb).2) ||
        (decide (k = .tripA) && decide (s.tripsAtScan r .a)) || (decide (k = .tripB) && decide (s.tripsAtScan r .b))) := by
  have measured : (s.beforeTest r b .a).notices.sticky.get k =
      (s.notices.sticky.get k || (decide (k = .fold) && (foldSample s.fold b s.foldDeb).2)) := by
    simp only [State.beforeTest, State.measuredAtScan, State.computeVcell_frame, State.followThresholds_frame]
    unfold State.sampleFold
    dsimp only
    split
    next changed =>
      rw [State.sticky_raise, changed, Bool.and_true]
    next same => simp [same]
  have a := (s.beforeTest r b .a).testCellAtScan_sticky r .a k
  have b' := (s.beforeTest r b .b).testCellAtScan_sticky r .b k
  rw [measured, decide_eq_decide.mpr (s.beforeTest_stops r b .a).1] at a
  rw [show (s.beforeTest r b .b).notices.sticky.get k = _ from a, decide_eq_decide.mpr (s.beforeTest_stops r b .b).1] at b'
  exact b'

theorem State.cellsAtScan_mask (s : State) (r : ScanRecord) (b : Bool) :
    (s.cellsAtScan r b).notices.mask = s.notices.mask := by
  rw [State.cellsAtScan_eq, State.testCellAtScan_mask, State.testCellAtScan_mask]
  simp only [State.measuredAtScan, State.computeVcell_frame, State.followThresholds_frame]
  unfold State.sampleFold
  dsimp only
  split <;> rfl

theorem State.cellsAtScan_allocator (s : State) (r : ScanRecord) (b : Bool) :
    (s.cellsAtScan r b).allocator = { s.allocator with
      inFlight := s.allocator.inFlight.map
        fun al => al.told (decide (s.vanishesAtScan r .a)) (decide (s.vanishesAtScan r .b)) } := by
  have measured : (s.beforeTest r b .a).allocator = s.allocator := by simp [State.beforeTest, State.measuredAtScan]
  have a := (s.beforeTest r b .a).testCellAtScan_allocator r .a
  have b' := (s.beforeTest r b .b).testCellAtScan_allocator r .b
  have same : ∀ c, decide ((s.beforeTest r b c).vanishesAtScan r c) = decide (s.vanishesAtScan r c) :=
    fun c => decide_eq_decide.mpr (s.beforeTest_stops r b c).2
  rw [measured, same] at a
  rw [show (s.beforeTest r b .b).allocator = _ from a, same] at b'
  refine Eq.trans (b := ((s.beforeTest r b .b).testCellAtScan r .b).allocator) rfl (b'.trans ?_)
  simp [Allocation.told, Function.comp_def]

end Sys2Proof.Machine
end

section
/-! PROOFS. The detection records and the selection at a scan completion (R126 to R134). -/

namespace Sys2Proof.Machine

/-! ### Detection -/

theorem State.setDetection_detection (s : State) (i j : Input) (d : Detection) :
    (s.setDetection i d).selector.detection j = if j = i then d else s.selector.detection j := by
  cases i <;> cases j <;> rfl

/-- The selection and the contract, which the detection records are no part of. -/
def Selector.choice (x : Selector) : Source × ChangeoverPhase × Option Input × WiredPair × Contract :=
  (x.selected, x.phase, x.target, x.lastPair, x.contract)

theorem State.detectAtScan_choice (s : State) (i : Input) (v : Int) :
    (s.detectAtScan i v).selector.choice = s.selector.choice := by
  unfold State.detectAtScan
  dsimp only
  split <;> cases i <;> rfl

theorem State.detectAtScan_detection (s : State) (i j : Input) (v : Int) :
    (s.detectAtScan i v).selector.detection j =
      if j = i then (detect (s.selector.detection i) v).1 else s.selector.detection j := by
  unfold State.detectAtScan
  dsimp only
  split <;> exact s.setDetection_detection i j _

theorem State.detectAtScan_sticky (s : State) (i : Input) (v : Int) (k : StickyCause) :
    (s.detectAtScan i v).notices.sticky.get k =
      (s.notices.sticky.get k || (decide (k = .source) && (detect (s.selector.detection i) v).2)) := by
  unfold State.detectAtScan
  dsimp only
  split
  next attaches => rw [State.sticky_raise, attaches, Bool.and_true]; cases i <;> rfl
  next not => cases i <;> simp [not, State.setDetection, State.setSelector]

theorem State.detectAtScan_mask (s : State) (i : Input) (v : Int) :
    (s.detectAtScan i v).notices.mask = s.notices.mask := by
  unfold State.detectAtScan
  dsimp only
  split <;> cases i <;> rfl

/-- The detection record of an input after a scan, by the state it was in (R126). -/
theorem detect_cases (d : Detection) (v : Int) :
    (d.state = .attached → detect d v = (d, false)) ∧
    (d.state = .detached → ¬ 4300 ≤ v → detect d v = (d, false)) ∧
    (d.state = .detached → 4300 ≤ v → detect d v = ({ state := .settling, settle := 1 }, false)) ∧
    (d.state = .settling → ¬ 4300 ≤ v → detect d v = ({ state := .detached, settle := 0 }, false)) ∧
    (d.state = .settling → 4300 ≤ v → d.settle < 2 → detect d v = ({ d with settle := d.settle + 1 }, false)) ∧
    (d.state = .settling → 4300 ≤ v → 2 ≤ d.settle → detect d v = ({ state := .attached, settle := 0 }, true)) := by
  unfold detect attachLevel
  refine ⟨fun h => ?_, fun h low => ?_, fun h good => ?_, fun h low => ?_, fun h good few => ?_, fun h good many => ?_⟩
  · rw [h]
  · rw [h]
    simp only [low, if_false]
  · rw [h]
    simp only [good, if_true]
  · rw [h]
    simp only [low, if_false]
  · rw [h]
    simp only [good, few, if_true]
  · rw [h]
    simp only [good, Nat.not_lt.mpr many, if_true, if_false]

/-- A scan attaches an input where its record says so (R126). -/
theorem detect_attaches (d : Detection) (v : Int) :
    (detect d v).2 = true ↔ d.state ≠ .attached ∧ (detect d v).1.state = .attached := by
  obtain ⟨attached, off, appears, fails, settles, attaches⟩ := detect_cases d v
  cases hd : d.state with
  | attached => simp [attached hd]
  | detached =>
    by_cases good : 4300 ≤ v
    · simp [appears hd good]
    · simp [off hd good, hd]
  | settling =>
    by_cases good : 4300 ≤ v
    · by_cases few : d.settle < 2
      · simp [settles hd good few, hd]
      · simp [attaches hd good (Nat.not_lt.mp few)]
    · simp [fails hd good]

/-- The state in which the selection of a scan completion is made. -/
def State.detectedAtScan (s : State) (r : Readings) : State := (s.detectAtScan .wired r.vWired).detectAtScan .coil r.vCoil

theorem State.detectedAtScan_choice (s : State) (r : Readings) :
    (s.detectedAtScan r).selector.choice = s.selector.choice :=
  (State.detectAtScan_choice _ _ _).trans (State.detectAtScan_choice _ _ _)

theorem State.detectedAtScan_detection (s : State) (r : Readings) (i : Input) :
    (s.detectedAtScan r).selector.detection i = (detect (s.selector.detection i) (pinReading r i)).1 := by
  cases i with
  | wired => exact (State.detectAtScan_detection _ .coil .wired _).trans (State.detectAtScan_detection s .wired .wired _)
  | coil =>
    exact (State.detectAtScan_detection _ .coil .coil _).trans
      (congrArg (fun d => (detect d r.vCoil).1) (State.detectAtScan_detection s .wired .coil _))

theorem State.detectedAtScan_sticky (s : State) (r : Readings) (k : StickyCause) :
    (s.detectedAtScan r).notices.sticky.get k = (s.notices.sticky.get k || (decide (k = .source) &&
      ((detect s.selector.wired r.vWired).2 || (detect s.selector.coil r.vCoil).2))) := by
  have coil : (s.detectAtScan .wired r.vWired).selector.detection .coil = s.selector.coil :=
    State.detectAtScan_detection s .wired .coil _
  unfold State.detectedAtScan
  rw [State.detectAtScan_sticky, State.detectAtScan_sticky, coil, Bool.or_assoc, ← Bool.and_or_distrib_left]
  rfl

theorem State.detectedAtScan_mask (s : State) (r : Readings) : (s.detectedAtScan r).notices.mask = s.notices.mask :=
  (State.detectAtScan_mask _ _ _).trans (State.detectAtScan_mask _ _ _)

/-! ### Selection -/

/-- What a selection at a scan completion makes of a state (R129 to R134), by the changeover it finds, the source
selected, the source wanted, and whether an allocation begins. -/
inductive SelectionStep (s : State) (begins : Bool) : State → Prop
  | stands (plain : s.selector.phase = .none)
      (wanted : s.wantedSource.map sourceOf =
        if s.selector.selected = .none then none else some s.selector.selected) : SelectionStep s begins s
  | selects (w : Input) (plain : s.selector.phase = .none) (unselected : s.selector.selected = .none)
      (wanted : s.wantedSource = some w) : SelectionStep s begins (s.selectSource w)
  | loses (plain : s.selector.phase = .none) (selected : s.selector.selected ≠ .none)
      (wanted : s.wantedSource = none) : SelectionStep s begins (s.loseSource.raise .source)
  | turns (w : Input) (plain : s.selector.phase = .none) (selected : s.selector.selected ≠ .none)
      (wanted : s.wantedSource = some w) (other : s.selector.selected ≠ sourceOf w) :
      SelectionStep s begins (s.beginChangeover w begins)
  | cancels (changeover : s.selector.phase ≠ .none) (wanted : s.wantedSource = none) :
      SelectionStep s begins (s.setSelector { s.selector with phase := .none, target := none })
  | holds (w : Input) (waits : s.selector.phase = .wait) (wanted : s.wantedSource = some w) (begun : begins = true) :
      SelectionStep s begins (s.setSelector { s.selector with phase := .held, target := some w })
  | ends (w : Input) (done : s.selector.phase = .done) (wanted : s.wantedSource = some w) (begun : begins = true) :
      SelectionStep s begins ((s.setSelector { s.selector with phase := .none, target := none }).selectSource w)
  | retargets (w : Input) (changeover : s.selector.phase ≠ .none) (wanted : s.wantedSource = some w)
      (goesOn : begins = false ∨ s.selector.phase = .held) :
      SelectionStep s begins (s.setSelector { s.selector with target := some w })

theorem State.selectionStep_plain {s : State} (plain : s.selector.phase = .none) (begins : Bool) :
    SelectionStep s begins (s.selectPlain (some begins)) := by
  have held : (some begins == some true) = begins := by cases begins <;> rfl
  unfold State.selectPlain
  split
  next unselected wanted => exact .stands plain (by rw [wanted, if_pos unselected]; rfl)
  next w unselected wanted => exact .selects w plain unselected wanted
  next wanted selected => exact .loses plain selected wanted
  next w wanted selected =>
    split
    next same => exact .stands plain (by rw [wanted, if_neg selected, ← same]; rfl)
    next other =>
      rw [held]
      exact .turns w plain selected wanted (Ne.symm other)

theorem State.selectionStep_changeover {s : State} (changeover : s.selector.phase ≠ .none) (begins : Bool) :
    SelectionStep s begins (s.selectInChangeover (some begins)) := by
  unfold State.selectInChangeover
  split
  next wanted => exact .cancels changeover wanted
  next w wanted =>
    dsimp only
    split
    next begun waits => exact .holds w waits wanted (Option.some.inj begun)
    next begun done => exact .ends w done wanted (Option.some.inj begun)
    next notWait notDone =>
      refine .retargets w changeover wanted ?_
      cases begins with
      | false => exact .inl rfl
      | true =>
        refine .inr ?_
        cases hp : s.selector.phase with
        | none => exact absurd hp changeover
        | wait => exact (notWait rfl hp).elim
        | held => rfl
        | done => exact (notDone rfl hp).elim

theorem State.selectionStep (s : State) (begins : Bool) : SelectionStep s begins (s.makeSelection (some begins)) := by
  by_cases plain : s.selector.phase = .none
  · rw [State.makeSelection_of_no_changeover plain]
    exact State.selectionStep_plain plain begins
  · rw [State.makeSelection_of_changeover plain]
    exact State.selectionStep_changeover plain begins

/-- The selection selects a source, from NONE or at the end of a changeover (R129, R132). -/
def State.selectsSource (s : State) (begins : Bool) : Prop :=
  s.wantedSource.isSome = true ∧
    (s.selector.phase = .none ∧ s.selector.selected = .none ∨ s.selector.phase = .done ∧ begins = true)

/-- The wanted source, of the detection records and SRC_PRIO (R128). -/
theorem State.wantedSource_eq (s : State) : s.wantedSource = wantedBy s s.selector := by
  unfold State.wantedSource wantedBy
  by_cases hw : s.selector.wired.state = .attached <;> by_cases hc : s.selector.coil.state = .attached <;>
    by_cases hp : s.srcPrio = 0 <;> simp [hw, hc, hp]

/-! ### What a selection leaves of the rest -/

theorem State.selectSource_eq (s : State) (w : Input) :
    s.selectSource w = (((s.setSelector { s.selector with selected := sourceOf w }).raise .source).setTransfer
      (s.transfer.rested s.xrest .source)) := by
  unfold State.selectSource
  rw [State.forceRest_eq]
  rfl

namespace SelectionStep

variable {s t : State} {begins : Bool} (h : SelectionStep s begins t)
include h

/-- A selection puts a transfer to rest where it selects a source (R119, R134). -/
theorem transfer :
    (s.selectsSource begins → t.transfer = s.transfer.rested s.xrest .source) ∧
      (¬ s.selectsSource begins → t.transfer = s.transfer) := by
  unfold State.selectsSource
  cases h with
  | stands plain wanted =>
    refine ⟨?_, fun _ => rfl⟩
    rintro ⟨wants, ⟨-, unselected⟩ | ⟨done, -⟩⟩
    · rw [if_pos unselected, Option.map_eq_none_iff] at wanted
      rw [wanted] at wants
      cases wants
    · rw [plain] at done
      cases done
  | selects w plain unselected wanted =>
    exact ⟨fun _ => by rw [State.selectSource_eq]; rfl,
      fun not => absurd ⟨by rw [wanted]; rfl, .inl ⟨plain, unselected⟩⟩ not⟩
  | loses plain selected wanted => exact ⟨fun ⟨wants, _⟩ => absurd wants (by simp [wanted]), fun _ => rfl⟩
  | turns w plain selected wanted other =>
    refine ⟨?_, fun _ => rfl⟩
    rintro ⟨-, ⟨-, unselected⟩ | ⟨done, -⟩⟩
    · exact absurd unselected selected
    · rw [plain] at done
      cases done
  | cancels changeover wanted => exact ⟨fun ⟨wants, _⟩ => absurd wants (by simp [wanted]), fun _ => rfl⟩
  | holds w waits wanted begun =>
    refine ⟨?_, fun _ => rfl⟩
    rintro ⟨-, ⟨plain, -⟩ | ⟨done, -⟩⟩
    · rw [waits] at plain
      cases plain
    · rw [waits] at done
      cases done
  | ends w done wanted begun =>
    exact ⟨fun _ => by rw [State.selectSource_eq]; rfl,
      fun not => absurd ⟨by rw [wanted]; rfl, .inr ⟨done, begun⟩⟩ not⟩
  | retargets w changeover wanted goesOn =>
    refine ⟨?_, fun _ => rfl⟩
    rintro ⟨-, ⟨plain, -⟩ | ⟨done, begun⟩⟩
    · exact absurd plain changeover
    · rcases goesOn with idle | held
      · rw [idle] at begun
        cases begun
      · rw [held] at done
        cases done

/-- The cells and the allocation in flight are told of a loss of the source, and of nothing else (R8, R133). -/
theorem loss :
    (s.selector.selected ≠ .none ∧ t.selector.selected = .none →
      t.cells = s.loseSource.cells ∧ t.allocator = s.loseSource.allocator) ∧
    (¬ (s.selector.selected ≠ .none ∧ t.selector.selected = .none) → t.cells = s.cells ∧ t.allocator = s.allocator) := by
  cases h with
  | stands plain wanted => exact ⟨fun ⟨selected, none_⟩ => absurd none_ selected, fun _ => ⟨rfl, rfl⟩⟩
  | selects w plain unselected wanted =>
    refine ⟨fun ⟨selected, _⟩ => absurd unselected selected, fun _ => ?_⟩
    rw [State.selectSource_eq]
    exact ⟨rfl, rfl⟩
  | loses plain selected wanted => exact ⟨fun _ => ⟨rfl, rfl⟩, fun not => absurd ⟨selected, rfl⟩ not⟩
  | turns w plain selected wanted other => exact ⟨fun _ => ⟨rfl, rfl⟩, fun not => absurd ⟨selected, rfl⟩ not⟩
  | cancels changeover wanted => exact ⟨fun ⟨selected, none_⟩ => absurd none_ selected, fun _ => ⟨rfl, rfl⟩⟩
  | holds w waits wanted begun => exact ⟨fun ⟨selected, none_⟩ => absurd none_ selected, fun _ => ⟨rfl, rfl⟩⟩
  | ends w done wanted begun =>
    refine ⟨fun ⟨_, none_⟩ => ?_, fun _ => ?_⟩
    · rw [State.selectSource_eq] at none_
      exact absurd none_ (sourceOf_ne_none w)
    · rw [State.selectSource_eq]
      exact ⟨rfl, rfl⟩
  | retargets w changeover wanted goesOn => exact ⟨fun ⟨selected, none_⟩ => absurd none_ selected, fun _ => ⟨rfl, rfl⟩⟩

/-- A selection leaves the detection records and the contract, and the mask of the notices. -/
theorem leaves :
    t.selector.wired = s.selector.wired ∧ t.selector.coil = s.selector.coil ∧
      t.selector.lastPair = s.selector.lastPair ∧ t.selector.contract = s.selector.contract ∧
      t.notices.mask = s.notices.mask ∧ ∀ k, k ≠ .source → t.notices.sticky.get k = s.notices.sticky.get k := by
  have quiet : ∀ {u : State} {k : StickyCause}, k ≠ .source →
      (u.raise .source).notices.sticky.get k = u.notices.sticky.get k := fun hk => by
    rw [State.sticky_raise, decide_eq_false hk, Bool.or_false]
  cases h with
  | stands plain wanted => exact ⟨rfl, rfl, rfl, rfl, rfl, fun _ _ => rfl⟩
  | selects w plain unselected wanted =>
    rw [State.selectSource_eq]
    exact ⟨rfl, rfl, rfl, rfl, rfl, fun _ => quiet (u := s.setSelector _)⟩
  | loses plain selected wanted => exact ⟨rfl, rfl, rfl, rfl, rfl, fun _ => quiet (u := s.loseSource)⟩
  | turns w plain selected wanted other =>
    exact ⟨rfl, rfl, rfl, rfl, rfl, fun _ => quiet (u := s.loseSource.setSelector _)⟩
  | cancels changeover wanted => exact ⟨rfl, rfl, rfl, rfl, rfl, fun _ _ => rfl⟩
  | holds w waits wanted begun => exact ⟨rfl, rfl, rfl, rfl, rfl, fun _ _ => rfl⟩
  | ends w done wanted begun =>
    rw [State.selectSource_eq]
    exact ⟨rfl, rfl, rfl, rfl, rfl, fun _ => quiet (u := (s.setSelector _).setSelector _)⟩
  | retargets w changeover wanted goesOn => exact ⟨rfl, rfl, rfl, rfl, rfl, fun _ _ => rfl⟩

/-- A selection raises SOURCE where the selected source becomes another, and at the end of a changeover (R129, R130,
R134). -/
theorem source :
    t.notices.sticky.source = true ↔ s.notices.sticky.source = true ∨
      (s.selector.phase = .none ∧ s.selector.selected ≠ (s.wantedSource.map sourceOf).getD .none) ∨
      (s.selector.phase = .done ∧ begins = true ∧ s.wantedSource.isSome = true) := by
  cases h with
  | stands plain wanted =>
    rw [wanted]
    by_cases hs : s.selector.selected = .none <;> simp [plain, hs]
  | selects w plain unselected wanted =>
    rw [State.selectSource_eq]
    refine iff_of_true rfl (.inr (.inl ⟨plain, ?_⟩))
    rw [unselected, wanted]
    exact (sourceOf_ne_none w).symm
  | loses plain selected wanted =>
    refine iff_of_true rfl (.inr (.inl ⟨plain, ?_⟩))
    rw [wanted]
    exact selected
  | turns w plain selected wanted other =>
    refine iff_of_true rfl (.inr (.inl ⟨plain, ?_⟩))
    rw [wanted]
    exact other
  | cancels changeover wanted => simp [State.setSelector, changeover, wanted]
  | holds w waits wanted begun => simp [State.setSelector, waits]
  | ends w done wanted begun =>
    rw [State.selectSource_eq]
    exact iff_of_true rfl (.inr (.inr ⟨done, begun, by rw [wanted]; rfl⟩))
  | retargets w changeover wanted goesOn =>
    rcases goesOn with idle | held
    · simp [State.setSelector, changeover, idle]
    · simp [State.setSelector, held]

end SelectionStep

end Sys2Proof.Machine
end

section
/-! PROOFS. The FOLD trigger and the HEAT test at a scan completion (R147, R184). -/

namespace Sys2Proof.Machine

/-! ### The outcomes of the HEAT test -/

/-- The FOLD trigger of a fold change. -/
def State.foldTriggered (s : State) (changed : Bool) : State := if changed then s.takeTrigger .fold else s

theorem State.heatDue_takeTrigger (s : State) (g : Trigger) (t : Int) :
    (s.takeTrigger g).heatEntryDue t = s.heatEntryDue t ∧ (s.takeTrigger g).heatExitDue t = s.heatExitDue t := by
  simp [State.heatEntryDue, State.heatExitDue]

theorem State.heatExitDue_of_entry {s : State} {t : Int} (h : s.heatEntryDue t = true) : s.heatExitDue t = false := by
  unfold State.heatEntryDue at h
  unfold State.heatExitDue
  cases hs : s.control.state <;> simp_all

/-- Nothing changes but by the trigger, or the part enters HEAT after it, or leaves HEAT before it or after it (log
entry 12). -/
theorem State.triggerAndHeat_cases (s : State) (changed : Bool) (t : Int) :
    (s.heatEntryDue t = false ∧ s.heatExitDue t = false ∧ s.triggerAndHeat changed t = s.foldTriggered changed) ∨
    (s.heatEntryDue t = true ∧ s.triggerAndHeat changed t = (s.foldTriggered changed).enterHeat) ∨
    (s.heatExitDue t = true ∧ (s.triggerAndHeat changed t = (s.foldTriggered changed).exitHeat ∨
      s.triggerAndHeat changed t = s.exitHeat.takeTrigger .fold)) := by
  have test : ∀ u : State, u.heatEntryDue t = s.heatEntryDue t ∧ u.heatExitDue t = s.heatExitDue t →
      u.testHeat t = if s.heatEntryDue t then u.enterHeat else if s.heatExitDue t then u.exitHeat else u := by
    rintro u ⟨entry, exit⟩
    rw [State.testHeat, entry, exit]
  have triggered : (s.foldTriggered changed).testHeat t = if s.heatEntryDue t then (s.foldTriggered changed).enterHeat
      else if s.heatExitDue t then (s.foldTriggered changed).exitHeat else s.foldTriggered changed := by
    refine test _ ?_
    unfold State.foldTriggered
    split
    · exact s.heatDue_takeTrigger _ t
    · exact ⟨rfl, rfl⟩
  have order : s.triggerAndHeat changed t = (s.foldTriggered changed).testHeat t ∨
      (s.heatExitDue t = true ∧ s.triggerAndHeat changed t = (s.testHeat t).takeTrigger .fold) := by
    unfold State.triggerAndHeat State.foldTriggered
    cases changed with
    | false => exact .inl rfl
    | true =>
      by_cases first : (s.heatExitDue t && !Config.triggerTakenFirst s.freeCounter) = true
      · exact .inr ⟨(Bool.and_eq_true_iff.mp first).1, if_pos first⟩
      · exact .inl (if_neg first)
  cases entry : s.heatEntryDue t with
  | true =>
    have exit := State.heatExitDue_of_entry entry
    obtain eq | ⟨due, -⟩ := order
    · exact .inr (.inl ⟨rfl, by rw [eq, triggered, entry]; rfl⟩)
    · rw [exit] at due
      cases due
  | false =>
    cases exit : s.heatExitDue t with
    | true =>
      obtain eq | ⟨-, eq⟩ := order
      · exact .inr (.inr ⟨rfl, .inl (by rw [eq, triggered, entry, exit]; rfl)⟩)
      · exact .inr (.inr ⟨rfl, .inr (by rw [eq, test s ⟨rfl, rfl⟩, entry, exit]; rfl)⟩)
    | false =>
      obtain eq | ⟨due, -⟩ := order
      · exact .inl ⟨rfl, rfl, by rw [eq, triggered, entry, exit]; rfl⟩
      · rw [exit] at due
        cases due

/-! ### What is left of the converter, the arbiter and the notices -/

/-- Outside the sequencer's part the converter, the arbiter and the notices stand, but for HEAT. -/
structure KeepsRequests (s t : State) : Prop where
  converter : t.converter = { s.converter with
    probePending := t.converter.probePending, probeChannel := t.converter.probeChannel }
  arbiter : t.arbiter = { s.arbiter with seqFetch := t.arbiter.seqFetch, seqWrite := t.arbiter.seqWrite }
  mask : t.notices.mask = s.notices.mask
  sticky : ∀ k, k ≠ .window → k ≠ .writeFault → k ≠ .listBad → k ≠ .heat →
    t.notices.sticky.get k = s.notices.sticky.get k

theorem KeepsRequests.of_eq {s t : State} (converter : t.converter = s.converter := by simp)
    (arbiter : t.arbiter = s.arbiter := by simp) (notices : t.notices = s.notices := by simp) : KeepsRequests s t := by
  refine ⟨?_, ?_, ?_, fun k _ _ _ _ => ?_⟩
  · rw [converter]
  · rw [arbiter]
  · rw [notices]
  · rw [notices]

theorem KeepsRequests.trans {s t u : State} (h : KeepsRequests s t) (k : KeepsRequests t u) : KeepsRequests s u := by
  refine ⟨?_, ?_, k.mask.trans h.mask, fun c h1 h2 h3 h4 => (k.sticky c h1 h2 h3 h4).trans (h.sticky c h1 h2 h3 h4)⟩
  · rw [k.converter, h.converter]
  · rw [k.arbiter, h.arbiter]

theorem SeqActs.keepsRequests {s t : State} (h : SeqActs s t) : KeepsRequests s t := by
  unfold SeqActs at h
  rw [h]
  refine ⟨rfl, rfl, rfl, fun k window writeFault listBad _ => ?_⟩
  cases k with
  | window => exact absurd rfl window
  | writeFault => exact absurd rfl writeFault
  | listBad => exact absurd rfl listBad
  | _ => rfl

theorem KeepsRequests.raise_heat {s t : State} (h : KeepsRequests s t) : KeepsRequests s (t.raise .heat) := by
  refine ⟨h.converter, h.arbiter, h.mask, fun k h1 h2 h3 h4 => ?_⟩
  rw [State.sticky_raise, decide_eq_false h4, Bool.or_false, h.sticky k h1 h2 h3 h4]

theorem KeepsRequests.foldTriggered (s : State) (changed : Bool) : KeepsRequests s (s.foldTriggered changed) := by
  unfold State.foldTriggered
  split
  · exact (SeqActs.takeTrigger s .fold).keepsRequests
  · exact .of_eq

theorem KeepsRequests.enterHeat (s : State) : KeepsRequests s s.enterHeat := by
  unfold State.enterHeat
  exact KeepsRequests.raise_heat .of_eq

theorem KeepsRequests.wake (s : State) (b : Bool) : KeepsRequests s (s.wake b) := by
  have held : KeepsRequests s ((s.setPartState .run).putHoldBoth .quiet false) := .of_eq
  have thawed := held.trans (SeqActs.thaw _).keepsRequests
  unfold State.wake
  dsimp only
  split
  · refine thawed.trans ?_
    exact .of_eq
  · exact thawed

theorem KeepsRequests.exitHeat (s : State) : KeepsRequests s s.exitHeat := by
  have rested : ∀ p, KeepsRequests s
      ((((((s.setPartState p).putHoldBoth .heat false).closePath .a).closePath .b).restAfterHeat).raise .heat) :=
    fun p => KeepsRequests.raise_heat .of_eq
  unfold State.exitHeat
  dsimp only
  split
  · exact (rested .quiet).trans .of_eq
  · exact (rested .run).trans (.wake _ _)

theorem KeepsRequests.triggerAndHeat (s : State) (changed : Bool) (t : Int) :
    KeepsRequests s (s.triggerAndHeat changed t) := by
  have triggered := KeepsRequests.foldTriggered s changed
  obtain ⟨-, -, eq⟩ | ⟨-, eq⟩ | ⟨-, eq | eq⟩ := s.triggerAndHeat_cases changed t <;> rw [eq]
  · exact triggered
  · exact triggered.trans (.enterHeat _)
  · exact triggered.trans (.exitHeat _)
  · exact (KeepsRequests.exitHeat s).trans (SeqActs.takeTrigger _ _).keepsRequests

/-! ### The part state and the transfer converter -/

theorem State.enterQuiet_control (s : State) : s.enterQuiet.control = { s.control with state := .quiet } := by
  unfold State.enterQuiet
  dsimp only
  (repeat' split) <;> simp [State.setPartState]

theorem State.wake_control (s : State) (b : Bool) : (s.wake b).control = { s.control with state := .run } := by
  unfold State.wake
  dsimp only
  split <;> simp [State.setPartState]

theorem State.enterHeat_control (s : State) : s.enterHeat.control = { s.control with state := .heat } := by
  simp [State.enterHeat, State.setPartState]

theorem State.exitHeat_control (s : State) :
    s.exitHeat.control = { s.control with state := if s.control.qreq then .quiet else .run } := by
  unfold State.exitHeat
  dsimp only
  split
  · rw [State.enterQuiet_control]
    simp [State.setPartState]
  · rw [State.wake_control]
    simp [State.setPartState]

/-- A firing COMPARE with STOP_XFER, and nothing else a sequencer does, acts on a transfer (R119, R120). -/
theorem State.carryOut_transfer (s : State) (x : Item) :
    (s.carryOut x).transfer = s.transfer ∨
      (s.carryOut x).transfer = { s.transfer.rested s.xrest .window with windowStop := true } := by
  cases x with
  | compare flag action low high =>
    have fires : ∀ u : State, u.transfer = s.transfer → u.mem = s.mem →
        (u.compareFires flag action).transfer = s.transfer ∨
          (u.compareFires flag action).transfer = { s.transfer.rested s.xrest .window with windowStop := true } := by
      intro u same mem
      cases action with
      | note => exact .inl same
      | holdA => exact .inl same
      | holdB => exact .inl same
      | stopXfer =>
        refine .inr ?_
        have rest : (((u.setSeq { u.seq with flags := u.seq.flags ||| (1#8 <<< flag) }).raise .window).xrest) = s.xrest :=
          State.xrest_of_mem mem
        simp only [State.compareFires, State.stopTransferByWindow, State.forceRest_eq, rest]
        rw [← same]
        rfl
    simp only [State.carryOut, State.finishItem_frame]
    split
    · exact fires _ rfl rfl
    · exact .inl rfl
  | sample ch n g target => cases g <;> exact .inl (by simp [State.carryOut])
  | endItem | wait | mark | branch | jump | setw | bad => exact .inl (by simp [State.carryOut])

/-- A thaw leaves a transfer whose rest has just begun, but for the window stop (R120, R161). -/
theorem State.thaw_transfer {s : State} (rest : s.transfer.state = .rest) (begun : s.transfer.rest = s.xrest) :
    s.thaw.transfer = { s.transfer with windowStop := s.thaw.transfer.windowStop } := by
  have cases_ : s.thaw.transfer = s.transfer ∨
      s.thaw.transfer = { s.transfer.rested s.xrest .window with windowStop := true } := by
    unfold State.thaw
    split
    · dsimp only
      split
      · split
        · exact State.carryOut_transfer (s.setSeq _) _
        · exact .inl rfl
      · exact .inl (by simp)
      · exact .inl (by simp)
      · exact .inl (by simp)
      · exact .inl rfl
    · exact .inl rfl
  have again : s.transfer.rested s.xrest .window = s.transfer := by
    unfold Transfer.rested
    rw [rest]
    dsimp only
    rw [← begun, ← rest]
  obtain same | stopped := cases_
  · rw [same]
  · rw [stopped, again]

theorem State.wake_transfer {s : State} (rest : s.transfer.state = .rest) (begun : s.transfer.rest = s.xrest) (b : Bool) :
    (s.wake b).transfer = { s.transfer with windowStop := (s.wake b).transfer.windowStop } := by
  have thawed : (s.wake b).transfer = ((s.setPartState .run).putHoldBoth .quiet false).thaw.transfer := by
    unfold State.wake
    dsimp only
    split <;> simp
  have same : ((s.setPartState .run).putHoldBoth .quiet false).transfer = s.transfer := by simp
  have length : ((s.setPartState .run).putHoldBoth .quiet false).xrest = s.xrest := State.xrest_of_mem (by simp)
  rw [thawed, State.thaw_transfer (by rw [same, rest]) (by rw [same, length, begun]), same]

/-- At the exit from HEAT the transfer rests (R121), with the window stop as a COMPARE held until the thaw leaves it. -/
theorem State.exitHeat_transfer (s : State) :
    s.exitHeat.transfer = { s.transfer with
      state := .rest, current := 0, rest := s.xrest, windowStop := s.exitHeat.transfer.windowStop } := by
  have closed : ∀ p, ((((((s.setPartState p).putHoldBoth .heat false).closePath .a).closePath .b).restAfterHeat).raise
      .heat).transfer = { s.transfer with state := .rest, current := 0, rest := s.xrest } := fun p => by
    unfold State.restAfterHeat
    simp only [State.raise_fields, State.setTransfer_fields, State.closePath_frame, State.putHoldBoth_frame,
      State.setPartState_frame]
    rw [State.xrest_of_mem (s := s) (by simp)]
  have length : ∀ p, ((((((s.setPartState p).putHoldBoth .heat false).closePath .a).closePath .b).restAfterHeat).raise
      .heat).xrest = s.xrest := fun p => State.xrest_of_mem (by simp)
  have quiet : ∀ u : State, u.enterQuiet.transfer = u.transfer := fun u => by simp
  unfold State.exitHeat
  dsimp only
  split
  · rw [quiet, closed]
  · rw [State.wake_transfer (by rw [closed]) (by rw [closed, length]), closed]

/-- The transfer converter over the trigger and the HEAT test. -/
theorem State.triggerAndHeat_transfer (s : State) (changed : Bool) (t : Int) :
    (s.heatEntryDue t = false → s.heatExitDue t = false → (s.triggerAndHeat changed t).transfer = s.transfer) ∧
    (s.heatEntryDue t = true → (s.triggerAndHeat changed t).transfer = { s.transfer with
      state := .off, current := 0, rest := 0
      stopCause := if s.transfer.state.running then .heat else s.transfer.stopCause }) ∧
    (s.heatExitDue t = true → (s.triggerAndHeat changed t).transfer = { s.transfer with
      state := .rest, current := 0, rest := s.xrest
      windowStop := (s.triggerAndHeat changed t).transfer.windowStop }) := by
  have triggered : (s.foldTriggered changed).transfer = s.transfer := by
    unfold State.foldTriggered
    split <;> simp
  have length : (s.foldTriggered changed).xrest = s.xrest := by
    unfold State.foldTriggered
    split
    · exact State.xrest_of_mem (by simp)
    · rfl
  obtain ⟨entry, exit, eq⟩ | ⟨entry, eq⟩ | ⟨exit, eq⟩ := s.triggerAndHeat_cases changed t
  · rw [entry, exit, eq]
    exact ⟨fun _ _ => triggered, nofun, nofun⟩
  · rw [entry, State.heatExitDue_of_entry entry, eq]
    refine ⟨nofun, fun _ => ?_, nofun⟩
    simp [State.enterHeat, State.forceOff, triggered]
  · have entry : s.heatEntryDue t = false := by
      by_contra h
      rw [State.heatExitDue_of_entry (by simpa using h)] at exit
      cases exit
    rw [entry, exit]
    refine ⟨fun _ => nofun, nofun, fun _ => ?_⟩
    obtain eq | eq := eq
    · rw [eq, State.exitHeat_transfer, triggered, length]
    · have kept : (s.exitHeat.takeTrigger .fold).transfer = s.exitHeat.transfer := by simp
      rw [eq, kept]
      exact s.exitHeat_transfer

/-! ### The cell paths -/

theorem State.enterHeat_path (s : State) (d : CellId) :
    (s.enterHeat.cells.get d).setPoint = 0 ∧ (s.enterHeat.cells.get d).pathOpen = true := by
  cases d <;> exact ⟨rfl, rfl⟩

/-- A closing leaves the set-point, and the open path of a TRIPPED cell (R7). -/
theorem State.closePath_path (s : State) (c d : CellId) :
    ((s.closePath c).cells.get d).setPoint = (s.cells.get d).setPoint ∧
      ((s.cells.get d).charge = .tripped → (s.cells.get d).pathOpen = true →
        ((s.closePath c).cells.get d).pathOpen = true) := by
  rw [State.get_closePath]
  split
  next shut =>
    obtain ⟨rfl, free⟩ := shut
    refine ⟨rfl, fun tripped _ => ?_⟩
    have stands : s.openingStands d = true := by simp [State.openingStands, State.cell, tripped]
    rw [stands] at free
    cases free
  next => exact ⟨rfl, fun _ h => h⟩

theorem State.exitHeat_path (s : State) (d : CellId) :
    (s.exitHeat.cells.get d).setPoint = (s.cells.get d).setPoint ∧
      ((s.cells.get d).charge = .tripped → (s.cells.get d).pathOpen = true →
        (s.exitHeat.cells.get d).pathOpen = true) := by
  have closed : ∀ p, let u := (s.setPartState p).putHoldBoth .heat false
      (((u.closePath .a).closePath .b).cells.get d).setPoint = (s.cells.get d).setPoint ∧
      ((s.cells.get d).charge = .tripped → (s.cells.get d).pathOpen = true →
        (((u.closePath .a).closePath .b).cells.get d).pathOpen = true) := by
    intro p u
    obtain ⟨charge, switch, setPoint⟩ := CellPath.view_eq.mp ((s.setPartState p).view_putHoldBoth .heat false d)
    obtain ⟨chargeA, -⟩ := CellPath.core_eq (u.core_closePath .a d)
    obtain ⟨setPointA, openA⟩ := u.closePath_path .a d
    obtain ⟨setPointB, openB⟩ := (u.closePath .a).closePath_path .b d
    exact ⟨setPointB.trans (setPointA.trans setPoint), fun tripped opened =>
      openB (chargeA.trans (charge.trans tripped)) (openA (charge.trans tripped) (switch.trans opened))⟩
  have view : ∃ p, (s.exitHeat.cells.get d).view =
      (((((s.setPartState p).putHoldBoth .heat false).closePath .a).closePath .b).cells.get d).view := by
    unfold State.exitHeat
    dsimp only
    split
    · exact ⟨.quiet, by simp⟩
    · exact ⟨.run, by simp⟩
  obtain ⟨p, view⟩ := view
  obtain ⟨-, switch, setPoint⟩ := CellPath.view_eq.mp view
  obtain ⟨kept, opened⟩ := closed p
  exact ⟨setPoint.trans kept, fun tripped h => switch.trans (opened tripped h)⟩

theorem State.foldTriggered_cells (s : State) (changed : Bool) : (s.foldTriggered changed).cells = s.cells := by
  unfold State.foldTriggered
  split <;> simp

theorem State.heatEntryDue_of_exit {s : State} {t : Int} (h : s.heatExitDue t = true) : s.heatEntryDue t = false := by
  by_contra entry
  rw [State.heatExitDue_of_entry (by simpa using entry)] at h
  cases h

/-- The entry to HEAT opens both paths and zeroes both set-points, and nothing else here changes a set-point or closes the
path of a TRIPPED cell (R7, R184). -/
theorem State.triggerAndHeat_path (s : State) (changed : Bool) (t : Int) (d : CellId) :
    ((s.triggerAndHeat changed t).cells.get d).setPoint =
        (if s.heatEntryDue t then 0 else (s.cells.get d).setPoint) ∧
      ((s.cells.get d).charge = .tripped → (s.cells.get d).pathOpen = true →
        ((s.triggerAndHeat changed t).cells.get d).pathOpen = true) := by
  have triggered := s.foldTriggered_cells changed
  obtain ⟨entry, -, eq⟩ | ⟨entry, eq⟩ | ⟨exit, eq⟩ := s.triggerAndHeat_cases changed t
  · rw [entry, eq, triggered]
    exact ⟨rfl, fun _ h => h⟩
  · rw [entry, eq]
    obtain ⟨setPoint, switch⟩ := (s.foldTriggered changed).enterHeat_path d
    exact ⟨setPoint, fun _ _ => switch⟩
  · rw [State.heatEntryDue_of_exit exit]
    obtain eq | eq := eq <;> rw [eq]
    · simpa only [triggered, Bool.false_eq_true, if_false] using (s.foldTriggered changed).exitHeat_path d
    · simpa only [State.takeTrigger_frame, Bool.false_eq_true, if_false] using s.exitHeat_path d

/-- Where the part does not leave HEAT, a hold reason stands but for HEAT at an entry (R184). -/
theorem State.triggerAndHeat_holds {s : State} (changed : Bool) {t : Int} (stays : s.heatExitDue t = false) (d : CellId) :
    ((s.triggerAndHeat changed t).cells.get d).holds =
      { (s.cells.get d).holds with heat := s.heatEntryDue t || (s.cells.get d).holds.heat } := by
  have triggered := s.foldTriggered_cells changed
  obtain ⟨entry, -, eq⟩ | ⟨entry, eq⟩ | ⟨exit, -⟩ := s.triggerAndHeat_cases changed t
  · rw [entry, eq, triggered]
    rfl
  · rw [entry, eq, ← triggered]
    cases d <;> rfl
  · rw [stays] at exit
    cases exit

/-- The part state after the HEAT test. -/
theorem State.triggerAndHeat_control (s : State) (changed : Bool) (t : Int) :
    (s.triggerAndHeat changed t).control = { s.control with
      state := if s.heatEntryDue t then .heat
        else if s.heatExitDue t then (if s.control.qreq then .quiet else .run)
        else s.control.state } := by
  have triggered : (s.foldTriggered changed).control = s.control := by
    unfold State.foldTriggered
    split <;> simp
  obtain ⟨entry, exit, eq⟩ | ⟨entry, eq⟩ | ⟨exit, eq⟩ := s.triggerAndHeat_cases changed t
  · rw [entry, exit, eq, triggered]
    rfl
  · rw [entry, eq, State.enterHeat_control, triggered]
    rfl
  · rw [State.heatEntryDue_of_exit exit, exit]
    obtain eq | eq := eq <;> rw [eq]
    · rw [State.exitHeat_control, triggered]
      rfl
    · simp only [State.takeTrigger_frame, State.exitHeat_control]
      rfl

/-- What the HEAT test does by the part state: an entry is from a state other than HEAT, and an exit leaves HEAT. -/
theorem State.triggerAndHeat_moves (s : State) (changed : Bool) (t : Int) :
    (s.heatEntryDue t = true ↔
      s.control.state ≠ .heat ∧ (s.triggerAndHeat changed t).control.state = .heat) ∧
    (s.heatExitDue t = true ↔
      s.control.state = .heat ∧ (s.triggerAndHeat changed t).control.state ≠ .heat) := by
  rw [State.triggerAndHeat_control]
  cases entry : s.heatEntryDue t with
  | true =>
    have from_ : s.control.state ≠ .heat := by
      intro heat
      simp [State.heatEntryDue, heat] at entry
    rw [State.heatExitDue_of_entry entry]
    simp [from_]
  | false =>
    cases exit : s.heatExitDue t with
    | true =>
      have from_ : s.control.state = .heat := by
        simp only [State.heatExitDue, Bool.and_eq_true, beq_iff_eq] at exit
        exact exit.1
      cases s.control.qreq <;> simp [from_]
    | false => simp

end Sys2Proof.Machine
end

section
/-! PROOFS. The completion of a scan, in its stages (R26). -/

namespace Sys2Proof.Machine

/-! ### The stages -/

/-- The record stored, before any block acts. -/
def State.scanStored (s : State) (r : ScanRecord) : State := s.endConversion.storeScan r

/-- Once the cells are tested, the counters have their entry and the selection is made. -/
def State.scanSelected (s : State) (r : ScanRecord) (b : Bool) : State := (s.scanStored r).selectedAtScan r b

/-- Once the die is tested and the FOLD trigger is taken. -/
def State.scanHeated (s : State) (r : ScanRecord) (b : Bool) : State :=
  ((s.scanSelected r b).testDie r.readings.tDie).triggerAndHeat (foldSample s.fold b s.foldDeb).2 r.readings.tDie

/-- Once both cells have their bands. -/
def State.scanBanded (s : State) (r : ScanRecord) (b : Bool) : State :=
  (((s.scanHeated r b).lookupBand r.readings .a).lookupBand r.readings .b)

/-- The whole completion. -/
def State.scanEnd (s : State) (r : ScanRecord) (b : Bool) : State :=
  (((s.scanBanded r b).chooseStopCause (s.scanStored r)).allocationAtScan).tick

theorem reading_hinge (x : Analog) : reading 13 x = some (hingeReading x) := by
  cases x with
  | level v =>
    show some (clampInt (-40) 125 v) = some (min 125 (max (-40) v))
    refine congrArg some ?_
    unfold clampInt
    omega
  | thermistorOpen => rfl
  | thermistorShorted => rfl

theorem State.scanCompletes_eq (s : State) (r : ScanRecord) (b : Bool) :
    s.endConversion.scanCompletes r b = s.scanEnd r b := by
  unfold State.scanCompletes State.scanEnd State.scanBanded State.scanHeated State.scanSelected
  rw [State.blocksAtScan_eq]
  rfl

/-- The conversion of channel 13 completes the scan (R24). -/
theorem exec_lastConversion {s : State} {r : ScanRecord} (v : Analog) (b : Bool) (flight : s.converter.inFlight = .scan)
    (scan : s.converter.scan = some r) (last : r.next = 13) :
    exec (.scanConversionCompletion v b) s = .next (s.scanEnd (lastRecord r v) b).settle := by
  have stored : { r with readings := r.readings.store r.next (hingeReading v) } = lastRecord r v := by
    unfold lastRecord
    rw [last]
  have completes : s.endConversion.scanReading r (hingeReading v) b = s.scanEnd (lastRecord r v) b := by
    unfold State.scanReading
    rw [stored, if_pos (Nat.le_of_eq last.symm), State.scanCompletes_eq]
  refine congrArg Host.Outcome.next ?_
  unfold State.scanConverted
  rw [flight, scan]
  dsimp only
  rw [last, reading_hinge]
  dsimp only
  rw [completes]

/-! ### The part a stage plays -/

/-- Once the cells are tested. -/
def State.scanTested (s : State) (r : ScanRecord) (b : Bool) : State := (s.scanStored r).cellsAtScan r b

/-- The state in which the selection is made. -/
def State.scanDetected (s : State) (r : ScanRecord) (b : Bool) : State :=
  ((s.scanTested r b).countersAtScan r).detectedAtScan r.readings

theorem State.scanTested_begins (s : State) (r : ScanRecord) (b : Bool) :
    (s.scanTested r b).allocator.inFlight.isNone = s.allocator.inFlight.isNone := by
  unfold State.scanTested
  rw [State.cellsAtScan_allocator]
  exact Option.isNone_map

/-- The selection of a scan completion, and what it finds. -/
theorem State.scanSelected_step (s : State) (r : ScanRecord) (b : Bool) :
    SelectionStep (s.scanDetected r b) s.allocator.inFlight.isNone (s.scanSelected r b) := by
  rw [← s.scanTested_begins r b]
  exact (s.scanDetected r b).selectionStep _

theorem State.scanDetected_choice (s : State) (r : ScanRecord) (b : Bool) :
    (s.scanDetected r b).selector.choice = s.selector.choice := by
  unfold State.scanDetected
  rw [State.detectedAtScan_choice]
  simp [State.scanTested, State.scanStored]

/-- The latch of a cell after the counters' action (R42, R43). -/
def State.latchAtScan (s : State) (r : Readings) (c : CellId) : Bool :=
  if (s.cells.get c).emptyLatch then !decide (s.vempty + 100 < (s.cells.get c).vcell) else s.emptyTest r c

theorem State.countersAtScan_cell (s : State) (r : ScanRecord) (c : CellId) :
    (s.countersAtScan r).cells.get c = { s.cells.get c with emptyLatch := s.latchAtScan r.readings c } := by
  cases c <;> rfl

theorem State.scanDetected_cell (s : State) (r : ScanRecord) (b : Bool) (c : CellId) :
    (s.scanDetected r b).cells.get c = { (s.scanTested r b).cells.get c with
      emptyLatch := (s.scanTested r b).latchAtScan r.readings c } := by
  rw [← State.countersAtScan_cell]
  simp [State.scanDetected, State.detectedAtScan]

/-- The scan loses the selected source (R133). -/
abbrev State.sourceLostAtScan (s : State) (r : ScanRecord) (b : Bool) : Prop :=
  s.selector.selected ≠ .none ∧ (s.scanSelected r b).selector.selected = .none

theorem State.loseSource_cell (s : State) (c : CellId) :
    s.loseSource.cells.get c = { s.cells.get c with setPoint := min 0 (s.cells.get c).setPoint } := by
  rw [State.loseSource_eq]
  cases c <;> rfl

theorem State.scanSelected_cell (s : State) (r : ScanRecord) (b : Bool) (c : CellId) :
    (s.scanSelected r b).cells.get c = { (s.scanTested r b).cells.get c with
      emptyLatch := (s.scanTested r b).latchAtScan r.readings c
      setPoint := if s.sourceLostAtScan r b then min 0 ((s.scanTested r b).cells.get c).setPoint
        else ((s.scanTested r b).cells.get c).setPoint } := by
  obtain ⟨lost, kept⟩ := (s.scanSelected_step r b).loss
  have selected : (s.scanDetected r b).selector.selected = s.selector.selected :=
    congrArg Prod.fst (s.scanDetected_choice r b)
  rw [selected] at lost kept
  by_cases h : s.sourceLostAtScan r b
  · rw [(lost h).1, State.loseSource_cell, State.scanDetected_cell, if_pos h]
  · rw [(kept h).1, State.scanDetected_cell, if_neg h]

/-! ### The cells at the end -/

theorem State.scanEnd_cell (s : State) (r : ScanRecord) (b : Bool) (c : CellId) :
    ((s.scanEnd r b).cells.get c).core = ((s.scanSelected r b).cells.get c).core ∧
      ((s.scanEnd r b).cells.get c).view = ((s.scanHeated r b).cells.get c).view := by
  constructor
  · simp [State.scanEnd, State.scanBanded, State.scanHeated]
  · simp [State.scanEnd, State.scanBanded]

/-- The band unit sets and clears the BAND hold alone (R54). -/
theorem State.lookupBand_holds (s : State) (r : Readings) (c d : CellId) :
    ((s.lookupBand r c).cells.get d).holds =
      { (s.cells.get d).holds with band := ((s.lookupBand r c).cells.get d).holds.band } := by
  have held : ∀ (u : State) (v : Bool), ((u.putHold c .band v).cells.get d).holds =
      { (u.cells.get d).holds with band := ((u.putHold c .band v).cells.get d).holds.band } := fun u v => by
    rw [State.get_putHold]
    split
    next same => rw [same]; rfl
    next => rfl
  unfold State.lookupBand
  dsimp only
  split
  · exact held _ _
  · exact held _ _

theorem State.scanEnd_holds (s : State) (r : ScanRecord) (b : Bool) (c : CellId) :
    ((s.scanEnd r b).cells.get c).holds =
      { ((s.scanHeated r b).cells.get c).holds with band := ((s.scanEnd r b).cells.get c).holds.band } := by
  have cells : (s.scanEnd r b).cells = (s.scanBanded r b).cells := by simp [State.scanEnd]
  rw [cells]
  unfold State.scanBanded
  rw [State.lookupBand_holds _ _ .b c, State.lookupBand_holds _ _ .a c]

/-- The state of the part at the end is that after the HEAT test, which finds it as it was. -/
theorem State.scanEnd_control (s : State) (r : ScanRecord) (b : Bool) :
    (s.scanEnd r b).control = (s.scanHeated r b).control ∧
      ((s.scanSelected r b).testDie r.readings.tDie).control.state = s.control.state := by
  constructor
  · simp [State.scanEnd, State.scanBanded]
  · simp [State.testDie, State.scanSelected, State.selectedAtScan, State.scanStored]

/-- Whether the scan takes the part to HEAT or out of it (R184). -/
abbrev State.entersHeat (s : State) (r : ScanRecord) (b : Bool) : Bool :=
  ((s.scanSelected r b).testDie r.readings.tDie).heatEntryDue r.readings.tDie

abbrev State.leavesHeat (s : State) (r : ScanRecord) (b : Bool) : Bool :=
  ((s.scanSelected r b).testDie r.readings.tDie).heatExitDue r.readings.tDie

theorem State.entersHeat_iff (s : State) (r : ScanRecord) (b : Bool) :
    s.entersHeat r b = true ↔ s.control.state ≠ .heat ∧ (s.scanEnd r b).control.state = .heat := by
  obtain ⟨control, state⟩ := s.scanEnd_control r b
  rw [control, ← state]
  exact (State.triggerAndHeat_moves _ _ _).1

theorem State.leavesHeat_iff (s : State) (r : ScanRecord) (b : Bool) :
    s.leavesHeat r b = true ↔ s.control.state = .heat ∧ (s.scanEnd r b).control.state ≠ .heat := by
  obtain ⟨control, state⟩ := s.scanEnd_control r b
  rw [control, ← state]
  exact (State.triggerAndHeat_moves _ _ _).2

theorem State.scanEnd_setPoint (s : State) (r : ScanRecord) (b : Bool) (c : CellId) :
    ((s.scanEnd r b).cells.get c).setPoint = if s.entersHeat r b then 0 else ((s.scanSelected r b).cells.get c).setPoint := by
  obtain ⟨-, -, setPoint⟩ := CellPath.view_eq.mp (s.scanEnd_cell r b c).2
  have cells : ((s.scanSelected r b).testDie r.readings.tDie).cells = (s.scanSelected r b).cells := by simp
  rw [setPoint, ← cells]
  exact (State.triggerAndHeat_path _ _ _ c).1

theorem State.scanEnd_open (s : State) (r : ScanRecord) (b : Bool) (c : CellId)
    (tripped : ((s.scanSelected r b).cells.get c).charge = .tripped)
    (opened : ((s.scanSelected r b).cells.get c).pathOpen = true) : ((s.scanEnd r b).cells.get c).pathOpen = true := by
  obtain ⟨-, switch, -⟩ := CellPath.view_eq.mp (s.scanEnd_cell r b c).2
  rw [switch]
  exact (State.triggerAndHeat_path ((s.scanSelected r b).testDie r.readings.tDie) _ r.readings.tDie c).2
    (by simpa using tripped) (by simpa using opened)

/-! ### The transfer converter -/

/-- The scan selects a source (R129, R132). -/
abbrev State.selectsAtScan (s : State) (r : ScanRecord) (b : Bool) : Prop :=
  (s.scanDetected r b).selectsSource s.allocator.inFlight.isNone

theorem State.scanSelected_transfer (s : State) (r : ScanRecord) (b : Bool) :
    (s.selectsAtScan r b → (s.scanSelected r b).transfer = (s.scanTested r b).transfer.rested s.xrest .source) ∧
      (¬ s.selectsAtScan r b → (s.scanSelected r b).transfer = (s.scanTested r b).transfer) := by
  obtain ⟨selects, stands⟩ := (s.scanSelected_step r b).transfer
  have transfer : (s.scanDetected r b).transfer = (s.scanTested r b).transfer := by
    simp [State.scanDetected, State.detectedAtScan]
  have length : (s.scanDetected r b).xrest = s.xrest :=
    State.xrest_of_mem (by simp [State.scanDetected, State.detectedAtScan, State.scanTested, State.scanStored])
  rw [transfer, length] at selects
  rw [transfer] at stands
  exact ⟨selects, stands⟩

theorem State.scanTested_transfer (s : State) (r : ScanRecord) (b : Bool) :
    (s.scanTested r b).transfer =
      if s.stopsAtScan r .a ∨ s.stopsAtScan r .b then s.transfer.rested s.xrest .cell else s.transfer :=
  (s.scanStored r).cellsAtScan_transfer r b

/-- What is to stop a running transfer at the scan, but for HEAT: the cause of the first event of R119. -/
theorem State.scanSelected_rested (s : State) (r : ScanRecord) (b : Bool) :
    ((s.stopsAtScan r .a ∨ s.stopsAtScan r .b) → (s.scanSelected r b).transfer = s.transfer.rested s.xrest .cell) ∧
    (¬ (s.stopsAtScan r .a ∨ s.stopsAtScan r .b) → s.selectsAtScan r b →
      (s.scanSelected r b).transfer = s.transfer.rested s.xrest .source) ∧
    (¬ (s.stopsAtScan r .a ∨ s.stopsAtScan r .b) → ¬ s.selectsAtScan r b →
      (s.scanSelected r b).transfer = s.transfer) := by
  obtain ⟨selects, stands⟩ := s.scanSelected_transfer r b
  have tested := s.scanTested_transfer r b
  refine ⟨fun stops => ?_, fun calm hs => ?_, fun calm hs => ?_⟩
  · rw [if_pos stops] at tested
    by_cases hs : s.selectsAtScan r b
    · rw [selects hs, tested, Transfer.rested_rested]
    · rw [stands hs, tested]
  · rw [selects hs, tested, if_neg calm]
  · rw [stands hs, tested, if_neg calm]

/-- A cause chosen of several is the cause of one of the events that fall together (R119, R121; log entry 11). -/
theorem mem_stopCausesAt {before after : State} {x : StopCause} (h : x ∈ stopCausesAt before after) :
    (x = .cell ∧ (before.cells.a.charge ≠ after.cells.a.charge ∨ before.cells.b.charge ≠ after.cells.b.charge)) ∨
    (x = .source ∧ before.selector.selected = .none ∧ after.selector.selected ≠ .none) ∨
    (x = .heat ∧ before.control.state ≠ .heat ∧ after.control.state = .heat) := by
  have only : ∀ {p : Prop} [Decidable p] {y : StopCause}, x ∈ (if p then [y] else []) → x = y ∧ p := by
    intro p _ y hx
    split at hx
    next hp => exact ⟨List.mem_singleton.mp hx, hp⟩
    next => cases hx
  unfold stopCausesAt at h
  rcases List.mem_append.mp h with h | h
  · rcases List.mem_append.mp h with h | h
    · exact .inl (only h)
    · exact .inr (.inl (only h))
  · exact .inr (.inr (only h))

theorem State.chooseStopCause_cases (s before : State) :
    (s.chooseStopCause before).transfer = s.transfer ∨
      (before.transfer.state.running = true ∧ ∃ x ∈ stopCausesAt before s,
        (s.chooseStopCause before).transfer = { s.transfer with stopCause := x }) := by
  unfold State.chooseStopCause
  dsimp only
  split
  next several =>
    obtain ⟨running, many⟩ := several
    have few : Config.stopCauseChoice s.freeCounter % (stopCausesAt before s).length < (stopCausesAt before s).length :=
      Nat.mod_lt _ (by omega)
    refine .inr ⟨running, _, List.getElem_mem few, ?_⟩
    rw [List.getD_eq_getElem _ _ few]
    rfl
  next => exact .inl rfl

/-- The charge state of a cell differs after the scan exactly where the scan stops it. -/
theorem State.scanTested_charge (s : State) (r : ScanRecord) (b : Bool) (c : CellId) :
    ((s.scanTested r b).cells.get c).charge ≠ (s.cells.get c).charge ↔ s.stopsAtScan r c := by
  by_cases stops : (s.scanStored r).stopsAtScan r c
  · refine iff_of_true ?_ stops
    rcases stops with ⟨sound, cond⟩ | vanishes
    · obtain ⟨cause, cond⟩ := Option.isSome_iff_exists.mp cond
      unfold State.scanTested
      rw [State.cellsAtScan_of_trips b sound cond]
      exact fun h => sound h.symm
    · unfold State.scanTested
      rw [State.cellsAtScan_of_vanishes b vanishes]
      exact fun h => vanishes.2.1 h.symm
  · refine iff_of_false ?_ stops
    unfold State.scanTested
    rw [State.cellsAtScan_of_stands b stops]
    exact fun h => h rfl

theorem State.scanEnd_charge (s : State) (r : ScanRecord) (b : Bool) (c : CellId) :
    ((s.scanEnd r b).cells.get c).charge = ((s.scanTested r b).cells.get c).charge := by
  obtain ⟨charge, -⟩ := CellPath.core_eq (s.scanEnd_cell r b c).1
  rw [charge, State.scanSelected_cell]

end Sys2Proof.Machine
end

section
/-! PROOFS. The selector and the transfer converter at the completion of a scan (R119, R128, R135). -/

namespace Sys2Proof.Machine

/-! ### The selector -/

/-- The contract that an allocation takes up leaves the selection (R135). -/
theorem State.formContract_selection (s : State) :
    s.formContract.selector.wired = s.selector.wired ∧ s.formContract.selector.coil = s.selector.coil ∧
      s.formContract.selector.selected = s.selector.selected ∧
      s.formContract.selector.phase = s.selector.phase ∧ s.formContract.selector.target = s.selector.target := by
  unfold State.formContract
  split
  · exact ⟨rfl, rfl, rfl, rfl, rfl⟩
  · exact ⟨rfl, rfl, rfl, rfl, rfl⟩
  · dsimp only
    split <;> exact ⟨rfl, rfl, rfl, rfl, rfl⟩

theorem State.allocationAtScan_selector (s : State) :
    s.allocationAtScan.selector.wired = s.selector.wired ∧ s.allocationAtScan.selector.coil = s.selector.coil ∧
      s.allocationAtScan.selector.selected = s.selector.selected ∧
      s.allocationAtScan.selector.phase = s.selector.phase ∧ s.allocationAtScan.selector.target = s.selector.target := by
  unfold State.allocationAtScan
  split
  · exact s.formContract_selection
  · exact ⟨rfl, rfl, rfl, rfl, rfl⟩

theorem State.scanBanded_selector (s : State) (r : ScanRecord) (b : Bool) :
    ((s.scanBanded r b).chooseStopCause (s.scanStored r)).selector = (s.scanSelected r b).selector := by
  simp [State.scanBanded, State.scanHeated]

/-- The detection records and the selection at the end are those the selection leaves. -/
theorem State.scanEnd_selector (s : State) (r : ScanRecord) (b : Bool) :
    (s.scanEnd r b).selector.wired = (s.scanDetected r b).selector.wired ∧
      (s.scanEnd r b).selector.coil = (s.scanDetected r b).selector.coil ∧
      (s.scanEnd r b).selector.selected = (s.scanSelected r b).selector.selected ∧
      (s.scanEnd r b).selector.phase = (s.scanSelected r b).selector.phase ∧
      (s.scanEnd r b).selector.target = (s.scanSelected r b).selector.target := by
  obtain ⟨wired, coil, selected, phase, target⟩ :=
    ((s.scanBanded r b).chooseStopCause (s.scanStored r)).allocationAtScan_selector
  obtain ⟨stepWired, stepCoil, -⟩ := (s.scanSelected_step r b).leaves
  rw [s.scanBanded_selector] at wired coil selected phase target
  exact ⟨wired.trans stepWired, coil.trans stepCoil, selected, phase, target⟩

theorem State.scanDetected_mem (s : State) (r : ScanRecord) (b : Bool) : (s.scanDetected r b).mem = s.mem := by
  simp [State.scanDetected, State.detectedAtScan, State.scanTested, State.scanStored]

/-- The source wanted at the selection, by the records it leaves (R128). -/
theorem State.scanDetected_wanted (s : State) (r : ScanRecord) (b : Bool) :
    (s.scanDetected r b).wantedSource = wantedBy s (s.scanEnd r b).selector := by
  obtain ⟨wired, coil, -⟩ := s.scanEnd_selector r b
  have prio : (s.scanDetected r b).srcPrio = s.srcPrio := State.setting_of_mem (s.scanDetected_mem r b) _ _ _
  rw [State.wantedSource_eq]
  unfold wantedBy
  rw [wired, coil, prio]

theorem State.scanDetected_selection (s : State) (r : ScanRecord) (b : Bool) :
    (s.scanDetected r b).selector.selected = s.selector.selected ∧
      (s.scanDetected r b).selector.phase = s.selector.phase ∧
      (s.scanDetected r b).selector.target = s.selector.target ∧
      (s.scanDetected r b).selector.lastPair = s.selector.lastPair ∧
      (s.scanDetected r b).selector.contract = s.selector.contract := by
  simpa [Selector.choice] using s.scanDetected_choice r b

theorem State.selectsAtScan_iff (s : State) (r : ScanRecord) (b : Bool) :
    s.selectsAtScan r b ↔ (wantedBy s (s.scanEnd r b).selector).isSome = true ∧
      (s.selector.phase = .none ∧ s.selector.selected = .none ∨
        s.selector.phase = .done ∧ s.allocator.inFlight = none) := by
  obtain ⟨selected, phase, -⟩ := s.scanDetected_selection r b
  unfold State.selectsAtScan State.selectsSource
  rw [s.scanDetected_wanted, selected, phase, Option.isNone_iff_eq_none]

theorem State.sourceLostAtScan_iff (s : State) (r : ScanRecord) (b : Bool) :
    s.sourceLostAtScan r b ↔ s.selector.selected ≠ .none ∧ (s.scanEnd r b).selector.selected = .none := by
  rw [(s.scanEnd_selector r b).2.2.1]

/-- A source is selected from NONE by a selection alone. -/
theorem SelectionStep.selects_of_none {s t : State} {begins : Bool} (h : SelectionStep s begins t)
    (unselected : s.selector.selected = .none) (selected : t.selector.selected ≠ .none) : s.selectsSource begins := by
  cases h with
  | selects w plain _ wanted => exact ⟨by rw [wanted]; rfl, .inl ⟨plain, unselected⟩⟩
  | ends w done wanted begun => exact ⟨by rw [wanted]; rfl, .inr ⟨done, begun⟩⟩
  | loses plain was wanted => exact absurd unselected was
  | turns w plain was wanted other => exact absurd unselected was
  | stands | cancels | holds | retargets => exact absurd unselected selected

/-! ### The transfer converter -/

theorem Transfer.rested_of_running {t : Transfer} (h : t.state.running = true) (x : Nat) (c : StopCause) :
    t.rested x c = { t with state := .rest, current := 0, rest := x, stopCause := c } := by
  unfold Transfer.rested
  cases hs : t.state with
  | runAB => rfl
  | runBA => rfl
  | off => rw [hs] at h; cases h
  | rest => rw [hs] at h; cases h

theorem Transfer.rested_stopCause {t : Transfer} (h : t.state.running = false) (x : Nat) (c : StopCause) :
    (t.rested x c).stopCause = t.stopCause := by
  unfold Transfer.rested
  cases hs : t.state with
  | runAB => rw [hs] at h; cases h
  | runBA => rw [hs] at h; cases h
  | off => rfl
  | rest => rfl

theorem Transfer.rested_not_running (t : Transfer) (x : Nat) (c : StopCause) : (t.rested x c).state.running = false := by
  unfold Transfer.rested
  cases hs : t.state with
  | runAB => rfl
  | runBA => rfl
  | off => dsimp only; rw [hs]; rfl
  | rest => rfl

/-- The transfer at rest differs from the one before only as REST does, and in the cause. -/
theorem Transfer.rested_windowStop (t : Transfer) (x : Nat) (c : StopCause) :
    (t.rested x c).windowStop = t.windowStop := by
  unfold Transfer.rested
  split <;> rfl

theorem TransferState.running_iff {t : TransferState} : t.running = true ↔ t = .runAB ∨ t = .runBA := by
  cases t <;> decide

/-- What the HEAT test finds of the transfer: put to rest where a cell stops or a source is selected, with its cause. -/
theorem State.scanSelected_transfer_cases (s : State) (r : ScanRecord) (b : Bool) :
    (¬ (s.stopsAtScan r .a ∨ s.stopsAtScan r .b) ∧ ¬ s.selectsAtScan r b ∧
      (s.scanSelected r b).transfer = s.transfer) ∨
    (∃ cause, (s.scanSelected r b).transfer = s.transfer.rested s.xrest cause ∧
      ((s.stopsAtScan r .a ∨ s.stopsAtScan r .b) ∧ cause = .cell ∨ s.selectsAtScan r b ∧ cause = .source)) := by
  obtain ⟨stops, selects, stands⟩ := s.scanSelected_rested r b
  by_cases hc : s.stopsAtScan r .a ∨ s.stopsAtScan r .b
  · exact .inr ⟨.cell, stops hc, .inl ⟨hc, rfl⟩⟩
  · by_cases hs : s.selectsAtScan r b
    · exact .inr ⟨.source, selects hc hs, .inr ⟨hs, rfl⟩⟩
    · exact .inl ⟨hc, hs, stands hc hs⟩

/-- The transfer after the HEAT test. -/
theorem State.scanHeated_transfer (s : State) (r : ScanRecord) (b : Bool) :
    (s.entersHeat r b = false → s.leavesHeat r b = false →
      (s.scanHeated r b).transfer = (s.scanSelected r b).transfer) ∧
    (s.entersHeat r b = true → (s.scanHeated r b).transfer = { (s.scanSelected r b).transfer with
      state := .off, current := 0, rest := 0
      stopCause := if (s.scanSelected r b).transfer.state.running then .heat
        else (s.scanSelected r b).transfer.stopCause }) ∧
    (s.leavesHeat r b = true → (s.scanHeated r b).transfer = { (s.scanSelected r b).transfer with
      state := .rest, current := 0, rest := s.xrest
      windowStop := (s.scanHeated r b).transfer.windowStop }) := by
  have length : ((s.scanSelected r b).testDie r.readings.tDie).xrest = s.xrest :=
    State.xrest_of_mem (by simp [State.scanSelected, State.selectedAtScan, State.scanStored])
  have same : ((s.scanSelected r b).testDie r.readings.tDie).transfer = (s.scanSelected r b).transfer := by simp
  obtain ⟨stays, enters, leaves⟩ := State.triggerAndHeat_transfer ((s.scanSelected r b).testDie r.readings.tDie)
    (foldSample s.fold b s.foldDeb).2 r.readings.tDie
  rw [same] at stays enters leaves
  rw [length] at leaves
  exact ⟨stays, enters, leaves⟩

/-- The cause written at the end, where several fall together on a running transfer (log entry 11). -/
theorem State.scanEnd_transfer (s : State) (r : ScanRecord) (b : Bool) :
    (s.scanEnd r b).transfer = (s.scanHeated r b).transfer ∨
      (s.transfer.state.running = true ∧ ∃ x,
        (((s.stopsAtScan r .a ∨ s.stopsAtScan r .b) ∧ x = .cell) ∨ (s.selectsAtScan r b ∧ x = .source) ∨
          (s.entersHeat r b = true ∧ x = .heat)) ∧
        (s.scanEnd r b).transfer = { (s.scanHeated r b).transfer with stopCause := x }) := by
  have stored : ∀ u : State, (u.allocationAtScan.tick).transfer = u.transfer := fun u => by simp
  have banded : (s.scanBanded r b).transfer = (s.scanHeated r b).transfer := by simp [State.scanBanded]
  have last : (s.scanEnd r b).transfer = ((s.scanBanded r b).chooseStopCause (s.scanStored r)).transfer := stored _
  obtain same | ⟨running, x, hx, chosen⟩ := (s.scanBanded r b).chooseStopCause_cases (s.scanStored r)
  · exact .inl (last.trans (same.trans banded))
  · refine .inr ⟨running, x, ?_, by rw [last, chosen, banded]⟩
    have charge : ∀ c, ((s.scanBanded r b).cells.get c).charge ≠ (s.cells.get c).charge ↔ s.stopsAtScan r c := by
      intro c
      have cells : (s.scanBanded r b).cells = (s.scanEnd r b).cells := by simp [State.scanEnd]
      rw [cells, s.scanEnd_charge, s.scanTested_charge]
    rcases mem_stopCausesAt hx with ⟨cause, a | b'⟩ | ⟨cause, unselected, selected⟩ | ⟨cause, cool, hot⟩
    · exact .inl ⟨.inl ((charge .a).mp fun h => a h.symm), cause⟩
    · exact .inl ⟨.inr ((charge .b).mp fun h => b' h.symm), cause⟩
    · refine .inr (.inl ⟨(s.scanSelected_step r b).selects_of_none ?_ ?_, cause⟩)
      · rw [(s.scanDetected_selection r b).1]
        exact unselected
      · have banded' : (s.scanBanded r b).selector = (s.scanSelected r b).selector := by
          simp [State.scanBanded, State.scanHeated]
        rwa [banded'] at selected
    · refine .inr (.inr ⟨(s.entersHeat_iff r b).mpr ⟨cool, ?_⟩, cause⟩)
      have control : (s.scanEnd r b).control = (s.scanBanded r b).control := by simp [State.scanEnd]
      rw [control]
      exact hot

end Sys2Proof.Machine
end

section
/-! PROOFS. O43: the transfer converter at the completion of a scan (R119, R121). -/

namespace Sys2Proof.Machine

theorem State.scanEnd_cellStops (s : State) (r : ScanRecord) (b : Bool) :
    (((s.scanEnd r b).cell .a).charge ≠ (s.cell .a).charge ∨ ((s.scanEnd r b).cell .b).charge ≠ (s.cell .b).charge) ↔
      (s.stopsAtScan r .a ∨ s.stopsAtScan r .b) := by
  have charge : ∀ c, ((s.scanEnd r b).cells.get c).charge ≠ (s.cells.get c).charge ↔ s.stopsAtScan r c := fun c => by
    rw [s.scanEnd_charge, s.scanTested_charge]
  exact or_congr (charge .a) (charge .b)

/-- Of what stands of the transfer over a scan, the window stop alone may change at an exit from HEAT (R120). -/
theorem State.scanSelected_windowStop (s : State) (r : ScanRecord) (b : Bool) :
    (s.scanSelected r b).transfer.windowStop = s.transfer.windowStop := by
  obtain ⟨-, -, same⟩ | ⟨cause, same, -⟩ := s.scanSelected_transfer_cases r b
  · rw [same]
  · rw [same, Transfer.rested_windowStop]

/-- A transfer that is not running keeps its cause (R119). -/
theorem State.scanSelected_stopCause {s : State} (idle : s.transfer.state.running = false) (r : ScanRecord) (b : Bool) :
    (s.scanSelected r b).transfer.stopCause = s.transfer.stopCause ∧
      (s.scanSelected r b).transfer.state.running = false := by
  obtain ⟨-, -, same⟩ | ⟨cause, same, -⟩ := s.scanSelected_transfer_cases r b
  · rw [same]
    exact ⟨rfl, idle⟩
  · rw [same]
    exact ⟨Transfer.rested_stopCause idle _ _, Transfer.rested_not_running _ _ _⟩

/-- The transfer converter at a scan completion (R119, R121). -/
theorem State.transferAtScan (s : State) (r : ScanRecord) (b : Bool) : TransferAtScan s (s.scanEnd r b) := by
  unfold TransferAtScan
  dsimp only
  rw [← s.entersHeat_iff r b, ← s.leavesHeat_iff r b, s.scanEnd_cellStops r b, ← s.selectsAtScan_iff r b,
    ← TransferState.running_iff]
  have ended := s.scanEnd_transfer r b
  obtain ⟨stays, enters, leaves⟩ := s.scanHeated_transfer r b
  have kinds := s.scanSelected_transfer_cases r b
  have stood := fun idle => s.scanSelected_stopCause (r := r) (b := b) idle
  have windowKept := s.scanSelected_windowStop r b
  generalize (s.scanEnd r b).transfer = E at *
  generalize (s.scanHeated r b).transfer = H at *
  generalize (s.scanSelected r b).transfer = T at *
  have chosen : ∃ x, E = { H with stopCause := x } := by
    obtain same | ⟨-, x, -, same⟩ := ended
    · exact ⟨H.stopCause, same⟩
    · exact ⟨x, same⟩
  have idle : s.transfer.state.running = false → E = H := by
    intro h
    obtain same | ⟨running, -⟩ := ended
    · exact same
    · exact absurd running (by rw [h]; decide)
  have cool : ¬ s.entersHeat r b = true → s.entersHeat r b = false := Bool.eq_false_iff.mpr
  have hot : ¬ s.leavesHeat r b = true → s.leavesHeat r b = false := Bool.eq_false_iff.mpr
  refine ⟨fun enter => ?_, fun exit => ?_, fun notEnter notExit calm others => ?_, fun notEnter notExit stops => ?_,
    fun notExit running stops => ?_, fun stopped => ?_⟩
  · obtain ⟨x, rfl⟩ := chosen
    rw [enters enter, windowKept]
  · obtain ⟨x, rfl⟩ := chosen
    exact congrArg (fun t : Transfer => { t with stopCause := x }) (leaves exit)
  · have selected : T = s.transfer := by
      obtain ⟨-, -, same⟩ | ⟨-, -, ⟨some, -⟩ | ⟨some, -⟩⟩ := kinds
      · exact same
      · exact absurd some calm
      · exact absurd some others
    obtain same | ⟨-, -, ⟨some, -⟩ | ⟨some, -⟩ | ⟨some, -⟩, -⟩ := ended
    · rw [same, stays (cool notEnter) (hot notExit), selected]
    · exact absurd some calm
    · exact absurd some others
    · exact absurd some notEnter
  · obtain ⟨cause, rest⟩ : ∃ cause, T = s.transfer.rested s.xrest cause := by
      obtain ⟨calm, others, -⟩ | ⟨cause, rest, -⟩ := kinds
      · exact absurd stops (not_or.mpr ⟨calm, others⟩)
      · exact ⟨cause, rest⟩
    have heated := stays (cool notEnter) (hot notExit)
    refine ⟨fun running => ?_, fun resting => ?_, fun off => ?_⟩
    · obtain ⟨x, rfl⟩ := chosen
      rw [heated, rest, Transfer.rested_of_running running]
    · rw [idle (by rw [resting]; rfl), heated, rest]
      simp only [Transfer.rested, resting]
    · rw [idle (by rw [off]; rfl), heated, rest]
      simp only [Transfer.rested, off]
  · obtain same | ⟨-, x, which, same⟩ := ended
    · rw [same]
      by_cases enter : s.entersHeat r b = true
      · obtain ⟨-, -, stands⟩ | ⟨cause, rest, which⟩ := kinds
        · refine .inr (.inr ⟨enter, ?_⟩)
          rw [enters enter, stands]
          exact if_pos running
        · rw [Transfer.rested_of_running running] at rest
          rw [enters enter, rest]
          exact which.imp id .inl
      · rw [stays (cool enter) (hot notExit)]
        obtain ⟨calm, others, -⟩ | ⟨cause, rest, which⟩ := kinds
        · exact absurd stops (not_or.mpr ⟨calm, not_or.mpr ⟨others, enter⟩⟩)
        · rw [rest, Transfer.rested_of_running running]
          exact which.imp id .inl
    · rw [same]
      exact which
  · rw [Bool.not_eq_true] at stopped
    rw [idle stopped]
    obtain ⟨cause, still⟩ := stood stopped
    by_cases enter : s.entersHeat r b = true
    · rw [enters enter, still]
      exact cause
    by_cases exit : s.leavesHeat r b = true
    · rw [leaves exit]
      exact cause
    · rw [stays (cool enter) (hot exit)]
      exact cause

end Sys2Proof.Machine
end

section
/-! PROOFS. The notices and the allocation in flight over a scan completion (R12, R85, R88, R136). -/

namespace Sys2Proof.Machine

/-! ### The notices -/

/-- The cells and the detection: FOLD at a fold change, TRIP_x at a trip, SOURCE at an attach. -/
theorem State.scanDetected_sticky (s : State) (r : ScanRecord) (b : Bool) (k : StickyCause) :
    (s.scanDetected r b).notices.sticky.get k =
      (s.notices.sticky.get k || (decide (k = .fold) && (foldSample s.fold b s.foldDeb).2) ||
        (decide (k = .tripA) && decide (s.tripsAtScan r .a)) || (decide (k = .tripB) && decide (s.tripsAtScan r .b)) ||
        (decide (k = .source) && ((detect s.selector.wired r.readings.vWired).2 ||
          (detect s.selector.coil r.readings.vCoil).2))) := by
  have tested := (s.scanStored r).cellsAtScan_sticky r b k
  have selector : ((s.scanTested r b).countersAtScan r).selector = s.selector := by
    simp [State.scanTested, State.scanStored]
  have notices : ((s.scanTested r b).countersAtScan r).notices = (s.scanTested r b).notices := by simp
  unfold State.scanDetected
  rw [State.detectedAtScan_sticky, selector, notices]
  exact congrArg (· || _) tested

/-- A cell's lookup raises BAND alone. -/
theorem State.lookupBand_sticky (s : State) (r : Readings) (c : CellId) {k : StickyCause} (h : k ≠ .band) :
    (s.lookupBand r c).notices.sticky.get k = s.notices.sticky.get k := by
  have raised : ∀ u : State, (u.raise .band).notices.sticky.get k = u.notices.sticky.get k := fun u => by
    rw [State.sticky_raise, decide_eq_false h, Bool.or_false]
  unfold State.lookupBand
  dsimp only
  split
  · simp only [State.putHold_frame, raised, State.setBand_fields]
  · simp only [State.putHold_frame, State.setBand_fields]

theorem State.lookupBand_mask (s : State) (r : Readings) (c : CellId) :
    (s.lookupBand r c).notices.mask = s.notices.mask := by
  unfold State.lookupBand
  dsimp only
  split
  · simp only [State.putHold_frame, State.mask_raise, State.setBand_fields]
  · simp only [State.putHold_frame, State.setBand_fields]

/-- The first use of another wired contract (R136). -/
theorem State.formContract_sticky (s : State) (k : StickyCause) :
    s.formContract.notices.sticky.get k = (s.notices.sticky.get k ||
      (decide (k = .source) && decide (s.selector.selected = .wired ∧ s.wsel ≠ s.selector.lastPair))) := by
  unfold State.formContract
  cases hs : s.selector.selected with
  | none => simp [State.setSelector]
  | coil => simp [State.setSelector]
  | wired =>
    dsimp only
    split
    next same => simp [same, State.setSelector]
    next other =>
      rw [State.sticky_raise]
      simp [other, State.setSelector]

theorem State.formContract_mask (s : State) : s.formContract.notices.mask = s.notices.mask := by
  unfold State.formContract
  split
  · rfl
  · rfl
  · dsimp only
    split <;> rfl

theorem State.allocationAtScan_sticky (s : State) (k : StickyCause) :
    s.allocationAtScan.notices.sticky.get k = (s.notices.sticky.get k || (decide (k = .source) &&
      decide (s.allocator.inFlight = none ∧ s.selector.selected = .wired ∧ s.wsel ≠ s.selector.lastPair))) := by
  unfold State.allocationAtScan
  split
  next begins =>
    rw [show s.beginAllocation.notices = s.formContract.notices from rfl, State.formContract_sticky]
    simp only [begins, true_and]
  next al flight => simp [flight, State.setAllocator]

theorem State.allocationAtScan_mask (s : State) : s.allocationAtScan.notices.mask = s.notices.mask := by
  unfold State.allocationAtScan
  split
  · exact s.formContract_mask
  · rfl

/-! ### The allocation in flight -/

theorem State.loseSource_allocator (s : State) : s.loseSource.allocator = { s.allocator with
    inFlight := s.allocator.inFlight.map fun al => { al with sourceLost := true } } := by
  rw [State.loseSource_eq]

/-- An allocation in flight is told of a cell that became ABSENT and of a loss of the source (R6, R8). -/
theorem State.scanSelected_allocator (s : State) (r : ScanRecord) (b : Bool) :
    (s.scanSelected r b).allocator = { s.allocator with
      inFlight := s.allocator.inFlight.map fun al =>
        { al.told (decide (s.vanishesAtScan r .a)) (decide (s.vanishesAtScan r .b)) with
          sourceLost := al.sourceLost || decide (s.sourceLostAtScan r b) } } := by
  obtain ⟨lost, kept⟩ := (s.scanSelected_step r b).loss
  have selected : (s.scanDetected r b).selector.selected = s.selector.selected :=
    congrArg Prod.fst (s.scanDetected_choice r b)
  have detected : (s.scanDetected r b).allocator = { s.allocator with
      inFlight := s.allocator.inFlight.map
        fun al => al.told (decide (s.vanishesAtScan r .a)) (decide (s.vanishesAtScan r .b)) } := by
    have tested : (s.scanDetected r b).allocator = (s.scanTested r b).allocator := by
      simp [State.scanDetected, State.detectedAtScan]
    exact tested.trans ((s.scanStored r).cellsAtScan_allocator r b)
  rw [selected] at lost kept
  by_cases h : s.sourceLostAtScan r b
  · rw [(lost h).2, State.loseSource_allocator, detected, decide_eq_true h]
    simp [Function.comp_def]
  · rw [(kept h).2, detected, decide_eq_false h]
    simp [Allocation.told]

/-- What the allocator finds at the end of a scan. -/
theorem State.scanChosen_allocator (s : State) (r : ScanRecord) (b : Bool) :
    ((s.scanBanded r b).chooseStopCause (s.scanStored r)).allocator = (s.scanSelected r b).allocator := by
  simp [State.scanBanded, State.scanHeated]

theorem State.scanBegins_iff (s : State) (r : ScanRecord) (b : Bool) :
    ((s.scanBanded r b).chooseStopCause (s.scanStored r)).allocator.inFlight = none ↔ s.allocator.inFlight = none := by
  rw [s.scanChosen_allocator, s.scanSelected_allocator]
  exact Option.map_eq_none_iff

/-- A scan that an allocation in flight skips (R88). -/
theorem State.scanEnd_skipped {s : State} {al : Allocation} (flight : s.allocator.inFlight = some al) (r : ScanRecord)
    (b : Bool) : (s.scanEnd r b).allocator = { s.allocator with
      inFlight := some { al.told (decide (s.vanishesAtScan r .a)) (decide (s.vanishesAtScan r .b)) with
        sourceLost := al.sourceLost || decide (s.sourceLostAtScan r b) }
      skipped := saturatingSucc 255 s.allocator.skipped } := by
  have found := (s.scanChosen_allocator r b).trans (s.scanSelected_allocator r b)
  rw [flight] at found
  have skips : ∀ u : State, u.allocator.inFlight ≠ none → u.allocationAtScan.tick.allocator =
      { u.allocator with skipped := saturatingSucc 255 u.allocator.skipped } := by
    intro u begun
    unfold State.allocationAtScan
    split
    next none_ => exact absurd none_ begun
    next => rfl
  unfold State.scanEnd
  rw [skips _ (by rw [found]; exact nofun), found]
  rfl

/-! ### The notices at the end -/

theorem State.scanEnd_mask (s : State) (r : ScanRecord) (b : Bool) :
    (s.scanEnd r b).notices.mask = s.notices.mask := by
  obtain ⟨-, -, -, -, mask, -⟩ := (s.scanSelected_step r b).leaves
  have detected : (s.scanDetected r b).notices.mask = s.notices.mask := by
    unfold State.scanDetected
    rw [State.detectedAtScan_mask]
    simp only [State.countersAtScan_frame]
    exact (s.scanStored r).cellsAtScan_mask r b
  have heated : (s.scanHeated r b).notices.mask = (s.scanSelected r b).notices.mask :=
    (KeepsRequests.triggerAndHeat ((s.scanSelected r b).testDie r.readings.tDie)
      (foldSample s.fold b s.foldDeb).2 r.readings.tDie).mask
  have banded : (s.scanBanded r b).notices.mask = (s.scanHeated r b).notices.mask :=
    (State.lookupBand_mask _ _ _).trans (State.lookupBand_mask _ _ _)
  have ended : (s.scanEnd r b).notices.mask = (s.scanBanded r b).notices.mask := by
    refine (State.allocationAtScan_mask ((s.scanBanded r b).chooseStopCause (s.scanStored r))).trans ?_
    simp only [State.chooseStopCause_frame]
  exact ended.trans (banded.trans (heated.trans (mask.trans detected)))

/-- After the selection a cause that is not HEAT's, the bands' or the sequencer's changes at the contract alone. -/
theorem State.scanEnd_sticky (s : State) (r : ScanRecord) (b : Bool) {k : StickyCause} (window : k ≠ .window)
    (writeFault : k ≠ .writeFault) (listBad : k ≠ .listBad) (heat : k ≠ .heat) (band : k ≠ .band) :
    (s.scanEnd r b).notices.sticky.get k = ((s.scanSelected r b).notices.sticky.get k || (decide (k = .source) &&
      decide (s.allocator.inFlight = none ∧ (s.scanSelected r b).selector.selected = .wired ∧
        s.wsel ≠ s.selector.lastPair))) := by
  have heated : (s.scanHeated r b).notices.sticky.get k = (s.scanSelected r b).notices.sticky.get k :=
    (KeepsRequests.triggerAndHeat ((s.scanSelected r b).testDie r.readings.tDie)
      (foldSample s.fold b s.foldDeb).2 r.readings.tDie).sticky k window writeFault listBad heat
  have banded : (s.scanBanded r b).notices.sticky.get k = (s.scanHeated r b).notices.sticky.get k :=
    (State.lookupBand_sticky _ _ _ band).trans (State.lookupBand_sticky _ _ _ band)
  have selector := s.scanBanded_selector r b
  have pair : (s.scanSelected r b).selector.lastPair = s.selector.lastPair := by
    obtain ⟨-, -, lastPair, -⟩ := (s.scanSelected_step r b).leaves
    exact lastPair.trans (s.scanDetected_selection r b).2.2.2.1
  have chosen : ((s.scanBanded r b).chooseStopCause (s.scanStored r)).notices = (s.scanBanded r b).notices := by simp
  have wsel : ((s.scanBanded r b).chooseStopCause (s.scanStored r)).wsel = s.wsel := by
    have mem : ((s.scanBanded r b).chooseStopCause (s.scanStored r)).mem = s.mem := by
      simp [State.scanBanded, State.scanHeated, State.scanSelected, State.selectedAtScan, State.scanStored]
    unfold State.wsel
    rw [State.setting_of_mem mem]
  refine (State.allocationAtScan_sticky ((s.scanBanded r b).chooseStopCause (s.scanStored r)) k).trans ?_
  simp only [s.scanBegins_iff, selector, wsel, pair, chosen, banded, heated]

/-- TRIP_x is raised by a trip alone (R17). -/
theorem State.scanEnd_trip (s : State) (r : ScanRecord) (b : Bool) (c : CellId) :
    (s.scanEnd r b).notices.sticky.get (tripCauseOf c) =
      (s.notices.sticky.get (tripCauseOf c) || decide (s.tripsAtScan r c)) := by
  obtain ⟨-, -, -, -, -, others⟩ := (s.scanSelected_step r b).leaves
  cases c with
  | a =>
    rw [s.scanEnd_sticky r b (by decide) (by decide) (by decide) (by decide) (by decide), others _ (by decide),
      s.scanDetected_sticky]
    simp [tripCauseOf]
  | b =>
    rw [s.scanEnd_sticky r b (by decide) (by decide) (by decide) (by decide) (by decide), others _ (by decide),
      s.scanDetected_sticky]
    simp [tripCauseOf]

end Sys2Proof.Machine
end

section
/-! PROOFS. O43: trips, absences and the transfer converter at the completion of a scan. -/

namespace Sys2Proof.Machine

/-- The three outcomes of a cell's tests, on what the scan measures of it (R3, R16). -/
theorem State.scanTested_cases (s : State) (r : ScanRecord) (b : Bool) (c : CellId) :
    (¬ s.tripsAtScan r c ∧ ¬ s.vanishesAtScan r c ∧
      (s.scanTested r b).cells.get c = (s.scanStored r).measuredCell r b c) ∨
    (s.tripsAtScan r c ∧ ¬ s.vanishesAtScan r c ∧ ∃ cause, s.tripConditionOf r.readings c = some cause ∧
      (s.scanTested r b).cells.get c = { (s.scanStored r).measuredCell r b c with
        charge := .tripped
        pathOpen := true
        setPoint := 0
        termCount := 0
        trip := some ((s.cell c).trip.getD (tripRecordOf r.readings c cause .scan r.periodCount))
        tripCount := saturatingSucc 255 (s.cell c).tripCount }) ∨
    (s.vanishesAtScan r c ∧ ¬ s.tripsAtScan r c ∧
      (s.scanTested r b).cells.get c =
        { (s.scanStored r).measuredCell r b c with charge := .absent, setPoint := 0, termCount := 0 }) := by
  have either : s.tripsAtScan r c → ¬ s.vanishesAtScan r c := by
    rintro ⟨-, some⟩ ⟨-, -, none, -⟩
    rw [none] at some
    cases some
  by_cases trips : s.tripsAtScan r c
  · obtain ⟨cause, cond⟩ := Option.isSome_iff_exists.mp trips.2
    exact .inr (.inl ⟨trips, either trips, cause, cond,
      State.cellsAtScan_of_trips (s := s.scanStored r) b trips.1 cond⟩)
  by_cases vanishes : s.vanishesAtScan r c
  · exact .inr (.inr ⟨vanishes, trips, State.cellsAtScan_of_vanishes (s := s.scanStored r) b vanishes⟩)
  · exact .inl ⟨trips, vanishes, State.cellsAtScan_of_stands (s := s.scanStored r) b (not_or.mpr ⟨trips, vanishes⟩)⟩

/-- The tests leave Tp and the result of a release, and the comparators have their levels of the settings (R14). -/
theorem State.scanTested_stands (s : State) (r : ScanRecord) (b : Bool) (c : CellId) :
    let x := (s.scanTested r b).cells.get c
    x.tp = (s.cells.get c).tp ∧ x.releaseResult = (s.cells.get c).releaseResult ∧
      x.holds = (s.cells.get c).holds ∧ x.thresholds = s.thresholdsNow c := by
  obtain ⟨-, -, eq⟩ | ⟨-, -, cause, -, eq⟩ | ⟨-, -, eq⟩ := s.scanTested_cases r b c <;> rw [eq] <;>
    exact ⟨rfl, rfl, rfl, rfl⟩

/-- A trip and an absence apply 0 and end the count of the termination (R6, R17). -/
theorem State.scanTested_applied (s : State) (r : ScanRecord) (b : Bool) (c : CellId) :
    (s.stopsAtScan r c → ((s.scanTested r b).cells.get c).setPoint = 0 ∧
      ((s.scanTested r b).cells.get c).termCount = 0) ∧
    (¬ s.stopsAtScan r c → ((s.scanTested r b).cells.get c).setPoint = (s.cells.get c).setPoint ∧
      ((s.scanTested r b).cells.get c).termCount = (s.cells.get c).termCount) := by
  obtain ⟨noTrip, present, eq⟩ | ⟨trips, -, cause, -, eq⟩ | ⟨vanishes, -, eq⟩ := s.scanTested_cases r b c <;> rw [eq]
  · exact ⟨fun stops => absurd stops (not_or.mpr ⟨noTrip, present⟩), fun _ => ⟨rfl, rfl⟩⟩
  · exact ⟨fun _ => ⟨rfl, rfl⟩, fun stands => absurd (.inl trips) stands⟩
  · exact ⟨fun _ => ⟨rfl, rfl⟩, fun stands => absurd (.inr vanishes) stands⟩

/-- A cell that does not trip keeps its record of trips, and becomes ABSENT or keeps its charge state (R3, R16). -/
theorem State.scanTested_untripped {s : State} {r : ScanRecord} {c : CellId} (noTrip : ¬ s.tripsAtScan r c) (b : Bool) :
    ((s.scanTested r b).cells.get c).trip = (s.cells.get c).trip ∧
      ((s.scanTested r b).cells.get c).tripCount = (s.cells.get c).tripCount ∧
      ((s.scanTested r b).cells.get c).charge =
        if s.vanishesAtScan r c then .absent else (s.cells.get c).charge := by
  obtain ⟨-, present, eq⟩ | ⟨trips, -⟩ | ⟨vanishes, -, eq⟩ := s.scanTested_cases r b c
  · rw [eq, if_neg present]
    exact ⟨rfl, rfl, rfl⟩
  · exact absurd trips noTrip
  · rw [eq, if_pos vanishes]
    exact ⟨rfl, rfl, rfl⟩

/-- What the selector, the controller and the band unit leave of a tested cell. -/
theorem State.scanEnd_core (s : State) (r : ScanRecord) (b : Bool) (c : CellId) :
    let x := (s.scanTested r b).cells.get c
    let y := (s.scanEnd r b).cells.get c
    y.charge = x.charge ∧ y.vcell = x.vcell ∧ y.tp = x.tp ∧ y.termCount = x.termCount ∧
      y.emptyLatch = (s.scanTested r b).latchAtScan r.readings c ∧ y.trip = x.trip ∧ y.tripCount = x.tripCount ∧
      y.releaseResult = x.releaseResult ∧ y.thresholds = x.thresholds := by
  intro x y
  have core := (s.scanEnd_cell r b c).1
  rw [s.scanSelected_cell] at core
  exact CellPath.core_eq core

/-- The set-point at the end: 0 at an entry to HEAT, and no positive one at a loss of the source (R7, R8, R133). -/
theorem State.scanEnd_applied (s : State) (r : ScanRecord) (b : Bool) (c : CellId) :
    ((s.scanEnd r b).cells.get c).setPoint = if s.entersHeat r b then 0
      else if s.sourceLostAtScan r b then min 0 ((s.scanTested r b).cells.get c).setPoint
      else ((s.scanTested r b).cells.get c).setPoint := by
  rw [s.scanEnd_setPoint, s.scanSelected_cell]

/-- The hold reasons at the end but for BAND, where the part does not leave HEAT. -/
theorem State.scanEnd_held {s : State} {r : ScanRecord} {b : Bool} (stays : s.leavesHeat r b = false) (c : CellId) :
    let h := ((s.scanEnd r b).cells.get c).holds
    h.window = (s.cells.get c).holds.window ∧ h.quiet = (s.cells.get c).holds.quiet ∧
      h.heat = (s.entersHeat r b || (s.cells.get c).holds.heat) := by
  have tested : ((s.scanTested r b).cells.get c).holds = (s.cells.get c).holds := by
    obtain ⟨-, -, holds, -⟩ := s.scanTested_stands r b c
    exact holds
  have selected : (((s.scanSelected r b).testDie r.readings.tDie).cells.get c).holds = (s.cells.get c).holds := by
    have cells : ((s.scanSelected r b).testDie r.readings.tDie).cells = (s.scanSelected r b).cells := by simp
    rw [cells, s.scanSelected_cell]
    exact tested
  have heated : ((s.scanHeated r b).cells.get c).holds =
      { (s.cells.get c).holds with heat := s.entersHeat r b || (s.cells.get c).holds.heat } := by
    rw [← selected]
    exact State.triggerAndHeat_holds _ stays c
  rw [s.scanEnd_holds, heated]
  exact ⟨rfl, rfl, rfl⟩

/-- A transfer that does not run once a source is selected is not started by what follows (R119, R121). -/
theorem State.scanEnd_idle {s : State} {r : ScanRecord} {b : Bool}
    (rested : (s.scanSelected r b).transfer.state.running = false) :
    (s.scanEnd r b).transfer.state.running = false := by
  obtain ⟨stays, enters, leaves⟩ := s.scanHeated_transfer r b
  have state : (s.scanEnd r b).transfer.state = (s.scanHeated r b).transfer.state := by
    obtain same | ⟨-, x, -, same⟩ := s.scanEnd_transfer r b <;> rw [same]
  rw [state]
  by_cases enter : s.entersHeat r b = true
  · rw [enters enter]
    rfl
  by_cases exit : s.leavesHeat r b = true
  · rw [leaves exit]
    rfl
  · rw [stays (Bool.eq_false_iff.mpr enter) (Bool.eq_false_iff.mpr exit), rested]

theorem TransferState.not_running_iff {t : TransferState} : t.running = false ↔ t = .off ∨ t = .rest := by
  cases t <;> decide

/-- A scan that stops a cell leaves no transfer running (R119). -/
theorem State.scanEnd_rests {s : State} {r : ScanRecord} {c : CellId} (stops : s.stopsAtScan r c) (b : Bool) :
    (s.scanEnd r b).transfer.state = .off ∨ (s.scanEnd r b).transfer.state = .rest := by
  have some : s.stopsAtScan r .a ∨ s.stopsAtScan r .b := by
    cases c
    · exact .inl stops
    · exact .inr stops
  refine TransferState.not_running_iff.mp (State.scanEnd_idle ?_)
  rw [(s.scanSelected_rested r b).1 some]
  exact Transfer.rested_not_running _ _ _

/-- The set-point and the termination count of a cell at the end of a scan (R6, R7, R8, R133). -/
theorem State.scanEnd_setPoint_termCount (s : State) (r : ScanRecord) (b : Bool) (c : CellId) :
    let x := s.cells.get c
    let y := (s.scanEnd r b).cells.get c
    y.setPoint = (if s.stopsAtScan r c ∨ s.entersHeat r b = true then 0
        else if s.sourceLostAtScan r b then min 0 x.setPoint else x.setPoint) ∧
      y.termCount = if s.stopsAtScan r c then 0 else x.termCount := by
  intro x y
  obtain ⟨-, -, -, count, -⟩ := s.scanEnd_core r b c
  obtain ⟨stopped, stood⟩ := s.scanTested_applied r b c
  have applied := s.scanEnd_applied r b c
  by_cases stops : s.stopsAtScan r c
  · obtain ⟨zero, ended⟩ := stopped stops
    rw [zero, min_self, ite_self, ite_self] at applied
    rw [if_pos (.inl stops), if_pos stops]
    exact ⟨applied, count.trans ended⟩
  · obtain ⟨kept, counts⟩ := stood stops
    rw [kept] at applied
    rw [if_neg stops]
    simp only [stops, false_or]
    exact ⟨applied, count.trans counts⟩

/-- Settles O43: the stages of a scan completion, each with what it does to a cell, to the notices, to the transfer
converter and to the allocation in flight. -/
theorem scanTripsAndAbsence : Obligations.ScanTripsAndAbsence := by
  unfold Obligations.ScanTripsAndAbsence
  intro s r v b flight scan last rec_
  refine ⟨s.scanEnd rec_ b, exec_lastConversion v b flight scan last, s.transferAtScan rec_ b, fun c => ?_⟩
  intro x y becomesAbsent trips enters lost
  have enters_iff : s.entersHeat rec_ b = true ↔ enters := s.entersHeat_iff rec_ b
  have lost_iff : s.sourceLostAtScan rec_ b ↔ lost := s.sourceLostAtScan_iff rec_ b
  obtain ⟨setPoint, termCount⟩ := s.scanEnd_setPoint_termCount rec_ b c
  simp only [enters_iff, lost_iff, or_assoc] at setPoint
  obtain ⟨charge, -, tp, -, -, trip, tripCount, releaseResult, thresholds⟩ := s.scanEnd_core rec_ b c
  obtain ⟨tested_tp, tested_result, -, tested_levels⟩ := s.scanTested_stands rec_ b c
  refine ⟨setPoint, termCount, s.scanEnd_trip rec_ b c, thresholds.trans tested_levels, tp.trans tested_tp,
    releaseResult.trans tested_result, fun stays => ?_, fun tripped => ?_, fun cause sound cond => ?_,
    fun sound calm => ?_, fun absent => ?_, fun al inFlight => ?_⟩
  · have stays : s.leavesHeat rec_ b = false := by
      rw [Bool.eq_false_iff, Ne, s.leavesHeat_iff]
      rintro ⟨heat, out⟩
      exact stays.elim (· heat) out
    obtain ⟨window, quiet, heat⟩ := State.scanEnd_held stays c
    refine ⟨window, quiet, fun same => heat.trans ?_⟩
    rw [Bool.eq_false_iff.mpr fun h => (s.entersHeat_iff rec_ b).mp h |>.1 (same.trans (enters_iff.mp h).2)]
    rfl
  · have noTrip : ¬ s.tripsAtScan rec_ c := fun ⟨sound, _⟩ => sound tripped
    obtain ⟨kept, counts, state⟩ := State.scanTested_untripped noTrip b
    rw [if_neg fun ⟨sound, _⟩ => sound tripped] at state
    exact ⟨charge.trans (state.trans tripped), trip.trans kept, tripCount.trans counts⟩
  · have trips : s.tripsAtScan rec_ c := ⟨sound, by rw [cond]; rfl⟩
    have tested : (s.scanTested rec_ b).cells.get c = _ :=
      State.cellsAtScan_of_trips (s := s.scanStored rec_) b sound cond
    have selected := s.scanSelected_cell rec_ b c
    rw [if_pos (.inl trips)] at setPoint termCount
    rw [tested] at charge trip tripCount selected
    refine ⟨charge, s.scanEnd_open rec_ b c (by rw [selected]) (by rw [selected]), setPoint, termCount, tripCount, trip,
      ?_, State.scanEnd_rests (.inl trips) b⟩
    rw [s.scanEnd_trip, decide_eq_true trips, Bool.or_true]
  · have noTrip : ¬ s.tripsAtScan rec_ c := by
      rintro ⟨-, some⟩
      rw [calm] at some
      cases some
    obtain ⟨kept, counts, state⟩ := State.scanTested_untripped noTrip b
    refine ⟨trip.trans kept, tripCount.trans counts, fun low => charge.trans (state.trans ?_),
      fun high => charge.trans (state.trans ?_)⟩
    · by_cases present : x.charge = .absent
      · rw [show (s.cells.get c).charge = .absent from present, ite_self]
      · exact if_pos ⟨sound, present, calm, low⟩
    · exact if_neg fun ⟨_, _, _, low⟩ => absurd low (not_lt.mpr high)
  · rw [if_pos (.inr (.inl absent))] at setPoint
    rw [if_pos (.inr absent)] at termCount
    exact ⟨setPoint, termCount⟩
  · have told : ∀ w : Allocation, (w.told (decide (s.vanishesAtScan rec_ .a))
        (decide (s.vanishesAtScan rec_ .b))).becameAbsent.get c =
          (w.becameAbsent.get c || decide (s.vanishesAtScan rec_ c)) := fun w => by cases c <;> rfl
    refine ⟨_, congrArg Allocator.inFlight (State.scanEnd_skipped inFlight rec_ b), fun absent => ?_, fun present => ?_⟩
    · rw [told al, decide_eq_true absent, Bool.or_true]
    · rw [told al, decide_eq_false present, Bool.or_false]

end Sys2Proof.Machine
end

section
/-! PROOFS. The converter, the arbiter, the fold monitor and the counters at the completion of a scan (R11, R24, R37). -/

namespace Sys2Proof.Machine

/-! ### What no block of the part acts on, and what one block does -/

theorem State.scanEnd_frame (s : State) (r : ScanRecord) (b : Bool) :
    (s.scanEnd r b).timer = s.timer ∧ (s.scanEnd r b).mem = s.mem ∧ (s.scanEnd r b).channels = s.channels ∧
      (s.scanEnd r b).port = s.port ∧ (s.scanEnd r b).refresh = s.refresh ∧ (s.scanEnd r b).pending = s.pending ∧
      (s.scanEnd r b).freeCounter = s.freeCounter + 1 := by
  have counted : (s.scanEnd r b).freeCounter =
      ((s.scanBanded r b).chooseStopCause (s.scanStored r)).freeCounter + 1 :=
    congrArg (· + 1) (by simp only [State.allocationAtScan_frame])
  rw [counted]
  simp [State.scanEnd, State.scanBanded, State.scanHeated, State.scanSelected, State.selectedAtScan, State.scanStored]

theorem State.scanEnd_fold (s : State) (r : ScanRecord) (b : Bool) :
    (s.scanEnd r b).fold = (foldSample s.fold b s.foldDeb).1 := by
  have measured : (s.scanEnd r b).fold = ((s.scanStored r).sampleFold b).fold := by
    simp [State.scanEnd, State.scanBanded, State.scanHeated, State.scanSelected, State.selectedAtScan,
      State.cellsAtScan]
  rw [measured, State.sampleFold_fold]
  rfl

/-- What a sample makes of the fold monitor (R11). -/
theorem foldSample_cases (m : FoldMonitor) (b : Bool) (deb : Nat) :
    (m.firstScan = true → foldSample m b deb = ({ folded := b, count := 0, firstScan := false, line := b }, false)) ∧
    (m.firstScan = false → m.folded = b → foldSample m b deb = ({ m with count := 0, line := b }, false)) ∧
    (m.firstScan = false → m.folded ≠ b → deb ≤ m.count + 1 →
      foldSample m b deb = ({ m with folded := b, count := 0, line := b }, true)) ∧
    (m.firstScan = false → m.folded ≠ b → m.count + 1 < deb →
      foldSample m b deb = ({ m with count := m.count + 1, line := b }, false)) := by
  unfold foldSample
  refine ⟨fun first => ?_, fun later same => ?_, fun later other enough => ?_, fun later other few => ?_⟩
  · simp only [first, if_true]
  · simp only [later, same, Bool.false_eq_true, if_true, if_false]
  · simp only [later, Ne.symm other, enough, Bool.false_eq_true, if_true, if_false]
  · simp only [later, Ne.symm other, Nat.not_le.mpr few, Bool.false_eq_true, if_false]

/-- A fold change, after the first scan, is a change of the debounced state (R11, R12). -/
theorem foldSample_changes (m : FoldMonitor) (b : Bool) (deb : Nat) :
    (foldSample m b deb).2 = true ↔ m.firstScan = false ∧ (foldSample m b deb).1.folded ≠ m.folded := by
  obtain ⟨initial, steady, changes, counts⟩ := foldSample_cases m b deb
  cases first : m.firstScan with
  | true => simp [initial first]
  | false =>
    by_cases same : m.folded = b
    · simp [steady first same]
    · by_cases enough : deb ≤ m.count + 1
      · simp [changes first same enough, Ne.symm same]
      · simp [counts first same (Nat.not_le.mp enough)]

theorem State.scanTested_frame (s : State) (r : ScanRecord) (b : Bool) :
    (s.scanTested r b).arbiter = s.arbiter ∧ (s.scanTested r b).gauge = s.gauge ∧ (s.scanTested r b).mem = s.mem := by
  simp [State.scanTested, State.scanStored]

/-! ### The counters -/

/-- The counters append an INTEGRATE, and GAUGE waits unless the entry it awaits is under way (R36, R37). -/
theorem State.countersAtScan_appends (s : State) (r : ScanRecord) :
    (s.countersAtScan r).gauge = s.gauge ++ [.integrate r.readings.iA r.readings.iB r.length.ms
        (s.emptyTest r.readings .a) (s.emptyTest r.readings .b)] ∧
      (s.countersAtScan r).arbiter =
        { s.arbiter with gauge := !(s.arbiter.gaugeUnderWay && s.arbiter.awaited) } := by
  refine ⟨rfl, ?_⟩
  simp [State.countersAtScan, State.appendEntry, State.requestGauge, State.setGauge, State.setArbiter,
    State.updateLatch]

theorem State.scanSelected_counters (s : State) (r : ScanRecord) (b : Bool) :
    (s.scanSelected r b).arbiter = ((s.scanTested r b).countersAtScan r).arbiter ∧
      (s.scanSelected r b).gauge = ((s.scanTested r b).countersAtScan r).gauge := by
  simp [State.scanSelected, State.selectedAtScan, State.selectorAtScan, State.scanTested]

/-- What the tests leave of what the counters read (R42, R43). -/
theorem State.scanTested_measured (s : State) (r : ScanRecord) (b : Bool) (c : CellId) :
    ((s.scanTested r b).cells.get c).emptyLatch = (s.cells.get c).emptyLatch ∧
      ((s.scanTested r b).cells.get c).vcell = compensate (r.readings.vpin c) (r.readings.current c)
        (match c with
          | .a => s.rA
          | .b => if (s.scanEnd r b).fold.folded then s.rBFold else s.rBOpen) := by
  rw [s.scanEnd_fold]
  obtain ⟨-, -, eq⟩ | ⟨-, -, cause, -, eq⟩ | ⟨-, -, eq⟩ := s.scanTested_cases r b c <;> rw [eq] <;>
    exact ⟨rfl, by cases c <;> rfl⟩

theorem State.scanTested_emptyTest (s : State) (r : ScanRecord) (b : Bool) (c : CellId) :
    (s.scanTested r b).emptyTest r.readings c = (!(s.cells.get c).emptyLatch && decide (r.readings.current c < 0) &&
      decide (((s.scanEnd r b).cells.get c).vcell ≤ s.vempty)) := by
  obtain ⟨-, vcell, -⟩ := s.scanEnd_core r b c
  obtain ⟨latch, -⟩ := s.scanTested_measured r b c
  have level : (s.scanTested r b).vempty = s.vempty := State.setting_of_mem (s.scanTested_frame r b).2.2 _ _ _
  unfold State.emptyTest State.cell
  rw [level, latch, vcell]

/-- The empty latch at the end: set by the test, cleared by a recovery of more than 100 mV (R42, R43). -/
theorem State.scanEnd_emptyLatch (s : State) (r : ScanRecord) (b : Bool) (c : CellId) :
    ((s.scanEnd r b).cells.get c).emptyLatch =
      if (s.cells.get c).emptyLatch then decide (((s.scanEnd r b).cells.get c).vcell ≤ s.vempty + 100)
      else decide (r.readings.current c < 0) && decide (((s.scanEnd r b).cells.get c).vcell ≤ s.vempty) := by
  obtain ⟨-, vcell, -, -, latch, -⟩ := s.scanEnd_core r b c
  obtain ⟨before, -⟩ := s.scanTested_measured r b c
  have level : (s.scanTested r b).vempty = s.vempty := State.setting_of_mem (s.scanTested_frame r b).2.2 _ _ _
  rw [latch]
  unfold State.latchAtScan
  rw [s.scanTested_emptyTest, before, level, vcell]
  cases (s.cells.get c).emptyLatch with
  | true => simp only [if_true, ← decide_not, Nat.not_lt]
  | false => rfl

theorem State.scanEnd_gauge (s : State) (r : ScanRecord) (b : Bool) :
    (s.scanEnd r b).gauge = s.gauge ++ [.integrate r.readings.iA r.readings.iB r.length.ms
      ((s.scanTested r b).emptyTest r.readings .a) ((s.scanTested r b).emptyTest r.readings .b)] := by
  have later : (s.scanEnd r b).gauge = (s.scanSelected r b).gauge := by
    simp [State.scanEnd, State.scanBanded, State.scanHeated]
  rw [later, (s.scanSelected_counters r b).2, (State.countersAtScan_appends _ _).1, (s.scanTested_frame r b).2.1]

/-- The voltage of a cell (R9). -/
theorem compensate_eq (vpin current : Int) (ohms : Nat) :
    ((compensate vpin current ohms : Nat) : Int) = min 5000 (max 0 (vpin - (current * (ohms : Int)).tdiv 1000)) := by
  unfold compensate
  generalize vpin - (current * (ohms : Int)).tdiv 1000 = x
  exact Int.toNat_of_nonneg (show 0 ≤ min 5000 (max 0 x) by omega)

/-! ### The converter and the arbiter -/

/-- The sequencer's part apart, the converter and the arbiter after the selection stand. -/
theorem State.scanEnd_requests (s : State) (r : ScanRecord) (b : Bool) :
    (s.scanEnd r b).converter = { s.converter with
        scan := none, latest := some r, inFlight := .none
        probePending := (s.scanEnd r b).converter.probePending
        probeChannel := (s.scanEnd r b).converter.probeChannel } ∧
      (s.scanEnd r b).arbiter = { s.arbiter with
        gauge := !(s.arbiter.gaugeUnderWay && s.arbiter.awaited)
        seqFetch := (s.scanEnd r b).arbiter.seqFetch, seqWrite := (s.scanEnd r b).arbiter.seqWrite } := by
  have kept := KeepsRequests.triggerAndHeat ((s.scanSelected r b).testDie r.readings.tDie)
    (foldSample s.fold b s.foldDeb).2 r.readings.tDie
  have converter : (s.scanEnd r b).converter = (s.scanHeated r b).converter := by
    simp [State.scanEnd, State.scanBanded]
  have arbiter : (s.scanEnd r b).arbiter = (s.scanHeated r b).arbiter := by
    simp [State.scanEnd, State.scanBanded]
  have stored : ((s.scanSelected r b).testDie r.readings.tDie).converter = (s.scanStored r).converter := by
    simp [State.scanSelected, State.selectedAtScan, State.selectorAtScan]
  have counted : ((s.scanSelected r b).testDie r.readings.tDie).arbiter =
      { s.arbiter with gauge := !(s.arbiter.gaugeUnderWay && s.arbiter.awaited) } := by
    have die : ((s.scanSelected r b).testDie r.readings.tDie).arbiter = (s.scanSelected r b).arbiter := by simp
    rw [die, (s.scanSelected_counters r b).1, (State.countersAtScan_appends _ _).2, (s.scanTested_frame r b).1]
  have heated := kept.converter
  have granted := kept.arbiter
  rw [stored] at heated
  rw [counted] at granted
  rw [converter, arbiter]
  exact ⟨heated, granted⟩

end Sys2Proof.Machine
end

section
/-! PROOFS. The detection records, the selection, the contract and SOURCE at the completion of a scan (R126 to R136). -/

namespace Sys2Proof.Machine

/-! ### A selection, by what it finds -/

theorem State.selectPlain_selects {s : State} {w : Input} (unselected : s.selector.selected = .none)
    (wanted : s.wantedSource = some w) (b : Option Bool) : s.selectPlain b = s.selectSource w := by
  unfold State.selectPlain
  rw [unselected, wanted]

theorem State.selectSource_selector (s : State) (w : Input) :
    (s.selectSource w).selector = { s.selector with selected := sourceOf w } := by
  rw [State.selectSource_eq]
  rfl

theorem State.selectPlain_loses {s : State} (selected : s.selector.selected ≠ .none) (wanted : s.wantedSource = none)
    (b : Option Bool) : s.selectPlain b = s.loseSource.raise .source := by
  unfold State.selectPlain
  rw [wanted]
  split
  next none_ _ => exact absurd none_ selected
  next some_ => cases some_
  next => rfl
  next some_ _ => cases some_

theorem State.selectPlain_turns {s : State} {w : Input} (selected : s.selector.selected ≠ .none)
    (wanted : s.wantedSource = some w) (other : s.selector.selected ≠ sourceOf w) (begins : Bool) :
    s.selectPlain (some begins) = s.beginChangeover w begins := by
  have held : (some begins == some true) = begins := by cases begins <;> rfl
  unfold State.selectPlain
  rw [wanted]
  split
  next none_ => cases none_
  next none_ _ => exact absurd none_ selected
  next none_ _ => cases none_
  next w' same _ =>
    obtain rfl := Option.some.inj same
    rw [if_neg (Ne.symm other), held]

theorem State.selectInChangeover_cancels {s : State} (wanted : s.wantedSource = none) (b : Option Bool) :
    s.selectInChangeover b = s.setSelector { s.selector with phase := .none, target := none } := by
  unfold State.selectInChangeover
  rw [wanted]

theorem State.selectInChangeover_holds {s : State} {w : Input} (wanted : s.wantedSource = some w)
    (waits : s.selector.phase = .wait) :
    s.selectInChangeover (some true) = s.setSelector { s.selector with phase := .held, target := some w } := by
  unfold State.selectInChangeover
  rw [wanted, waits]
  rfl

theorem State.selectInChangeover_ends {s : State} {w : Input} (wanted : s.wantedSource = some w)
    (done : s.selector.phase = .done) : s.selectInChangeover (some true) =
      (s.setSelector { s.selector with phase := .none, target := none }).selectSource w := by
  unfold State.selectInChangeover
  rw [wanted, done]
  rfl

theorem State.selectInChangeover_retargets {s : State} {w : Input} {begins : Bool} (wanted : s.wantedSource = some w)
    (goesOn : begins = false ∨ s.selector.phase = .held) :
    s.selectInChangeover (some begins) = s.setSelector { s.selector with target := some w } := by
  unfold State.selectInChangeover
  rw [wanted]
  dsimp only
  split
  next begun waits =>
    rcases goesOn with idle | held
    · rw [idle] at begun
      cases begun
    · rw [held] at waits
      cases waits
  next begun done =>
    rcases goesOn with idle | held
    · rw [idle] at begun
      cases begun
    · rw [held] at done
      cases done
  next => rfl

/-! ### Detection and SOURCE -/

theorem State.scanEnd_detection (s : State) (r : ScanRecord) (b : Bool) (i : Input) :
    (s.scanEnd r b).selector.detection i = (detect (s.selector.detection i) (pinReading r.readings i)).1 := by
  obtain ⟨wired, coil, -⟩ := s.scanEnd_selector r b
  have detected : (s.scanDetected r b).selector.detection i =
      (detect (s.selector.detection i) (pinReading r.readings i)).1 := by
    have before : ((s.scanTested r b).countersAtScan r).selector = s.selector := by
      simp [State.scanTested, State.scanStored]
    unfold State.scanDetected
    rw [State.detectedAtScan_detection, before]
  cases i with
  | wired => exact wired.trans detected
  | coil => exact coil.trans detected

/-- What raises SOURCE at a scan completion (R126, R129, R130, R134, R136). -/
theorem State.scanEnd_source (s : State) (r : ScanRecord) (b : Bool) :
    (s.scanEnd r b).notices.sticky.source = true ↔ s.notices.sticky.source = true ∨
      (∃ i, (s.selector.detection i).state ≠ .attached ∧ ((s.scanEnd r b).selector.detection i).state = .attached) ∨
      (s.selector.phase = .none ∧
        s.selector.selected ≠ ((wantedBy s (s.scanEnd r b).selector).map sourceOf).getD .none) ∨
      (s.selector.phase = .done ∧ s.allocator.inFlight = none ∧
        (wantedBy s (s.scanEnd r b).selector).isSome = true) ∨
      (s.allocator.inFlight = none ∧ (s.scanEnd r b).selector.selected = .wired ∧ s.wsel ≠ s.selector.lastPair) := by
  have ended := s.scanEnd_sticky r b (k := .source) (by decide) (by decide) (by decide) (by decide) (by decide)
  have selected := (s.scanSelected_step r b).source
  have detected := s.scanDetected_sticky r b .source
  obtain ⟨was, phase, -⟩ := s.scanDetected_selection r b
  have attaches : (∃ i, (s.selector.detection i).state ≠ .attached ∧
      ((s.scanEnd r b).selector.detection i).state = .attached) ↔
        (detect s.selector.wired r.readings.vWired).2 = true ∨ (detect s.selector.coil r.readings.vCoil).2 = true := by
    have one : ∀ i, ((s.selector.detection i).state ≠ .attached ∧
        ((s.scanEnd r b).selector.detection i).state = .attached) ↔
          (detect (s.selector.detection i) (pinReading r.readings i)).2 = true := fun i => by
      rw [s.scanEnd_detection, detect_attaches]
    constructor
    · rintro ⟨i, h⟩
      cases i with
      | wired => exact .inl ((one .wired).mp h)
      | coil => exact .inr ((one .coil).mp h)
    · rintro (h | h)
      · exact ⟨.wired, (one .wired).mpr h⟩
      · exact ⟨.coil, (one .coil).mpr h⟩
  rw [was, phase, s.scanDetected_wanted, Option.isNone_iff_eq_none] at selected
  rw [(s.scanEnd_selector r b).2.2.1, attaches]
  have final : (s.scanEnd r b).notices.sticky.source = true ↔ (s.scanSelected r b).notices.sticky.source = true ∨
      (s.allocator.inFlight = none ∧ (s.scanSelected r b).selector.selected = .wired ∧ s.wsel ≠ s.selector.lastPair) := by
    change (s.scanEnd r b).notices.sticky.get .source = true ↔ _
    rw [ended]
    simp only [decide_true, Bool.true_and, Bool.or_eq_true, decide_eq_true_eq]
    exact Iff.rfl
  have found : (s.scanDetected r b).notices.sticky.source = true ↔ s.notices.sticky.source = true ∨
      (detect s.selector.wired r.readings.vWired).2 = true ∨ (detect s.selector.coil r.readings.vCoil).2 = true := by
    change (s.scanDetected r b).notices.sticky.get .source = true ↔ _
    rw [detected]
    simp [Sticky.get]
  rw [final, selected, found]
  simp only [or_assoc]

/-- The detection records after a scan (R126). -/
theorem State.detectionAtScan (s : State) (r : ScanRecord) (b : Bool) : DetectionFollows s (s.scanEnd r b) r.readings := by
  intro i d good
  obtain ⟨attached, off, appears, fails, settles, attaches⟩ := detect_cases d (pinReading r.readings i)
  have record : ∀ {p}, detect d (pinReading r.readings i) = p → (s.scanEnd r b).selector.detection i = p.1 :=
    fun h => (s.scanEnd_detection r b i).trans (congrArg Prod.fst h)
  refine ⟨fun h => record (attached h), fun h low => record (off h low), fun h high => record (appears h high),
    fun h low => record (fails h low), fun h high few => record (settles h high few), fun h high many => ?_⟩
  have now := record (attaches h high many)
  refine ⟨now, (s.scanEnd_source r b).mpr (.inr (.inl ⟨i, ?_, ?_⟩))⟩
  · rw [show (s.selector.detection i).state = .settling from h]
    decide
  · rw [now]

/-! ### The selection -/

theorem State.scanSelected_eq (s : State) (r : ScanRecord) (b : Bool) :
    s.scanSelected r b = (s.scanDetected r b).makeSelection (some s.allocator.inFlight.isNone) := by
  rw [← s.scanTested_begins r b]
  rfl

/-- The selection at the end, of what it makes of the state it finds. -/
theorem State.scanEnd_choice {s t : State} {r : ScanRecord} {b : Bool} (made : s.scanSelected r b = t) :
    (s.scanEnd r b).selector.selected = t.selector.selected ∧ (s.scanEnd r b).selector.phase = t.selector.phase ∧
      (s.scanEnd r b).selector.target = t.selector.target := by
  obtain ⟨-, -, selected, phase, target⟩ := s.scanEnd_selector r b
  rw [made] at selected phase target
  exact ⟨selected, phase, target⟩

/-- At a loss of the source no positive set-point stands (R8, R133). -/
theorem State.scanEnd_lost {s : State} {r : ScanRecord} {b : Bool} (lost : s.sourceLostAtScan r b) (c : CellId) :
    ((s.scanEnd r b).cell c).setPoint =
      if ((s.scanEnd r b).cell c).charge ≠ (s.cell c).charge ∨
        (s.control.state ≠ .heat ∧ (s.scanEnd r b).control.state = .heat) then 0 else min 0 (s.cell c).setPoint := by
  have stops : ((s.scanEnd r b).cell c).charge ≠ (s.cell c).charge ↔ s.stopsAtScan r c := by
    rw [← s.scanTested_charge r b c, ← s.scanEnd_charge]
    exact Iff.rfl
  have applied := (s.scanEnd_setPoint_termCount r b c).1
  simp only [s.entersHeat_iff r b, if_pos lost, ← stops] at applied
  exact applied

/-- The selection of a scan completion, with what it does to the set-points and the transfer converter. -/
theorem State.selectionAtScan (s : State) (r : ScanRecord) (b : Bool) : SelectionMade s (s.scanEnd r b) := by
  unfold SelectionMade
  intro begins wanted old new zeroed lost
  have wants : (s.scanDetected r b).wantedSource = wanted := s.scanDetected_wanted r b
  obtain ⟨was, phase, target, -, -⟩ := s.scanDetected_selection r b
  have plainly := fun plain : old.phase = .none => (s.scanSelected_eq r b).trans
    (State.makeSelection_of_no_changeover (phase.trans plain) (some begins))
  have changing := fun changeover : old.phase ≠ .none => (s.scanSelected_eq r b).trans
    (State.makeSelection_of_changeover (fun h => changeover (phase.symm.trans h)) (some begins))
  have raised := (s.scanEnd_source r b).mpr
  have loses : old.phase = .none → old.selected ≠ .none → new.selected = .none →
      old.selected ≠ ((wanted.map sourceOf).getD .none) → lost := by
    intro plain selected unselected other
    exact ⟨raised (.inr (.inr (.inl ⟨plain, other⟩))),
      State.scanEnd_lost ((s.sourceLostAtScan_iff r b).mpr ⟨selected, unselected⟩)⟩
  refine ⟨fun plain unselected none_ => ?_, fun plain unselected i some_ => ?_, fun plain selected none_ => ?_,
    fun plain i some_ same => ?_, fun plain selected i some_ other => ?_, fun changeover none_ => ?_,
    fun changeover i some_ => ⟨fun waits begun => ?_, fun done begun => ?_, fun goesOn => ?_⟩⟩
  · obtain ⟨nowSelected, nowPhase, nowTarget⟩ := State.scanEnd_choice ((plainly plain).trans
      (State.selectPlain_of_wanted _ (by rw [wants, none_, was, if_pos unselected]; rfl)))
    exact ⟨nowSelected.trans (was.trans unselected), nowPhase.trans (phase.trans plain), nowTarget.trans target⟩
  · have made := (plainly plain).trans (State.selectPlain_selects (was.trans unselected) (wants.trans some_) _)
    obtain ⟨nowSelected, nowPhase, nowTarget⟩ := State.scanEnd_choice made
    rw [State.selectSource_selector] at nowSelected nowPhase nowTarget
    have idle : (s.scanEnd r b).transfer.state.running = false := by
      refine State.scanEnd_idle ?_
      rw [made, State.selectSource_eq]
      exact Transfer.rested_not_running _ _ _
    refine ⟨nowSelected, nowPhase.trans (phase.trans plain), nowTarget.trans target,
      raised (.inr (.inr (.inl ⟨plain, ?_⟩))), fun runs => ?_, fun runs => ?_⟩
    · rw [show wantedBy s (s.scanEnd r b).selector = some i from some_, show s.selector.selected = .none from unselected]
      exact (sourceOf_ne_none i).symm
    · rw [runs] at idle
      cases idle
    · rw [runs] at idle
      cases idle
  · obtain ⟨nowSelected, nowPhase, nowTarget⟩ := State.scanEnd_choice ((plainly plain).trans
      (State.selectPlain_loses (fun h => selected (was.symm.trans h)) (wants.trans none_) _))
    refine ⟨nowSelected, nowPhase.trans (phase.trans plain), nowTarget.trans target,
      loses plain selected nowSelected ?_⟩
    rw [none_]
    exact selected
  · obtain ⟨nowSelected, nowPhase, nowTarget⟩ := State.scanEnd_choice ((plainly plain).trans
      (State.selectPlain_of_wanted _ (by
        rw [wants, some_, was, if_neg (fun h => sourceOf_ne_none i (same.symm.trans h))]
        exact congrArg some same.symm)))
    exact ⟨nowSelected.trans was, nowPhase.trans (phase.trans plain), nowTarget.trans target⟩
  · obtain ⟨nowSelected, nowPhase, nowTarget⟩ := State.scanEnd_choice ((plainly plain).trans
      (State.selectPlain_turns (fun h => selected (was.symm.trans h)) (wants.trans some_)
        (fun h => other (was.symm.trans h)) _))
    refine ⟨nowSelected, nowPhase, nowTarget, loses plain selected nowSelected ?_⟩
    rw [some_]
    exact other
  · obtain ⟨nowSelected, nowPhase, nowTarget⟩ := State.scanEnd_choice ((changing changeover).trans
      (State.selectInChangeover_cancels (wants.trans none_) _))
    exact ⟨nowSelected.trans was, nowPhase, nowTarget⟩
  · have made := changing changeover
    rw [begun] at made
    obtain ⟨nowSelected, nowPhase, nowTarget⟩ := State.scanEnd_choice (made.trans
      (State.selectInChangeover_holds (wants.trans some_) (phase.trans waits)))
    exact ⟨nowSelected.trans was, nowPhase, nowTarget⟩
  · have made := changing changeover
    rw [begun] at made
    obtain ⟨nowSelected, nowPhase, nowTarget⟩ := State.scanEnd_choice (made.trans
      (State.selectInChangeover_ends (wants.trans some_) (phase.trans done)))
    rw [State.selectSource_selector] at nowSelected nowPhase nowTarget
    have idle : s.allocator.inFlight = none := Option.isNone_iff_eq_none.mp begun
    refine ⟨nowSelected, nowPhase, nowTarget, raised (.inr (.inr (.inr (.inl ⟨done, idle, ?_⟩))))⟩
    rw [show wantedBy s (s.scanEnd r b).selector = some i from some_]
    rfl
  · obtain ⟨nowSelected, nowPhase, nowTarget⟩ := State.scanEnd_choice ((changing changeover).trans
      (State.selectInChangeover_retargets (wants.trans some_) (goesOn.imp id phase.trans)))
    exact ⟨nowSelected.trans was, nowPhase.trans phase, nowTarget⟩

end Sys2Proof.Machine
end

section
/-! PROOFS. O42: the contract, the notices, the FOLD trigger and the allocation that begins, and the whole completion of
a scan. -/

namespace Sys2Proof.Machine

/-! ### The allocation that begins -/

/-- What the allocator finds at the end of a scan. -/
def State.scanChosen (s : State) (r : ScanRecord) (b : Bool) : State :=
  (s.scanBanded r b).chooseStopCause (s.scanStored r)

theorem State.scanChosen_frame (s : State) (r : ScanRecord) (b : Bool) :
    (s.scanChosen r b).mem = s.mem ∧ (s.scanChosen r b).selector = (s.scanSelected r b).selector ∧
      (s.scanChosen r b).allocator = (s.scanSelected r b).allocator :=
  ⟨by simp [State.scanChosen, State.scanBanded, State.scanHeated, State.scanSelected, State.selectedAtScan,
    State.scanStored], s.scanBanded_selector r b, s.scanChosen_allocator r b⟩

/-- With no allocation in flight one begins (R85). -/
theorem State.scanEnd_begins {s : State} (idle : s.allocator.inFlight = none) (r : ScanRecord) (b : Bool) :
    s.scanEnd r b = (s.scanChosen r b).beginAllocation.tick := by
  have found : (s.scanChosen r b).allocator.inFlight = none := (s.scanBegins_iff r b).mpr idle
  have begins : (s.scanChosen r b).allocationAtScan = (s.scanChosen r b).beginAllocation := by
    unfold State.allocationAtScan
    rw [found]
  exact congrArg State.tick begins

/-- With one in flight the scan is skipped (R88). -/
theorem State.scanEnd_skips {s : State} {al : Allocation} (flight : s.allocator.inFlight = some al) (r : ScanRecord)
    (b : Bool) : (s.scanEnd r b).selector = (s.scanSelected r b).selector := by
  have found : (s.scanChosen r b).allocator.inFlight ≠ none := fun h => by
    rw [(s.scanBegins_iff r b).mp h] at flight
    cases flight
  have skips : (s.scanChosen r b).allocationAtScan.selector = (s.scanChosen r b).selector := by
    unfold State.allocationAtScan
    split
    next none_ => exact absurd none_ found
    next => rfl
  exact skips.trans (s.scanChosen_frame r b).2.1

/-- The contract that an allocation takes up, by the source selected (R135). -/
theorem State.formContract_cases (s : State) :
    (s.selector.selected = .none → s.formContract.selector =
      { s.selector with contract := { source := .none, pair := .w0, vC := 0, iC := 0 } }) ∧
    (s.selector.selected = .coil → s.formContract.selector =
      { s.selector with contract := { s.selector.contract with source := .coil, pair := .w0 } }) ∧
    (s.selector.selected = .wired → s.formContract.selector =
      { s.selector with
        contract := { s.selector.contract with source := .wired, pair := s.wsel }
        lastPair := s.wsel }) := by
  unfold State.formContract
  refine ⟨fun h => ?_, fun h => ?_, fun h => ?_⟩ <;> rw [h]
  · rfl
  · rfl
  · dsimp only
    split <;> rfl

theorem State.contractAtScan (s : State) (r : ScanRecord) (b : Bool) : ContractFormed s (s.scanEnd r b) := by
  unfold ContractFormed
  intro begins old new
  obtain ⟨-, -, pair, contract, -⟩ := (s.scanSelected_step r b).leaves
  obtain ⟨-, -, -, oldPair, oldContract⟩ := s.scanDetected_selection r b
  have pair := pair.trans oldPair
  have contract := contract.trans oldContract
  obtain ⟨mem, selector, -⟩ := s.scanChosen_frame r b
  have wsel : (s.scanChosen r b).wsel = s.wsel := by
    unfold State.wsel
    rw [State.setting_of_mem mem]
  obtain ⟨none_, coil, wired⟩ := (s.scanChosen r b).formContract_cases
  rw [selector] at none_ coil wired
  rw [contract] at coil wired
  rw [wsel] at wired
  have begun : begins = true → new = (s.scanChosen r b).formContract.selector := fun idle => by
    have eq := State.scanEnd_begins (Option.isNone_iff_eq_none.mp idle) r b
    exact (congrArg State.selector eq).trans rfl
  have source : new.selected = (s.scanSelected r b).selector.selected := (s.scanEnd_selector r b).2.2.1
  refine ⟨fun busy => ?_, fun idle unselected => ?_, fun idle unselected => ?_, fun idle unselected => ?_⟩
  · obtain ⟨al, flight⟩ := Option.isSome_iff_exists.mp (Option.isNone_eq_false_iff.mp busy)
    rw [show new = (s.scanSelected r b).selector from State.scanEnd_skips flight r b]
    exact ⟨contract, pair⟩
  · rw [begun idle, none_ (source.symm.trans unselected)]
    exact ⟨rfl, pair⟩
  · rw [begun idle, coil (source.symm.trans unselected)]
    exact ⟨rfl, pair⟩
  · have raised : s.wsel ≠ old.lastPair → (s.scanEnd r b).notices.sticky.source = true := fun other =>
      (s.scanEnd_source r b).mpr
        (.inr (.inr (.inr (.inr ⟨Option.isNone_iff_eq_none.mp idle, unselected, other⟩))))
    rw [begun idle, wired (source.symm.trans unselected)]
    exact ⟨rfl, rfl, raised⟩

theorem State.quietPolicy_reduced {s : State} {i : Nat} : quietPolicyOf (s.setting i 0 3) = .reduced ↔ s.readWord i = 0 := by
  have zero : s.readWord i = 0 ↔ (s.readWord i).toNat = 0 := BitVec.toNat_eq.trans (by rfl)
  rw [zero]
  unfold quietPolicyOf State.setting clampNat
  split
  · simp only [reduceCtorEq, false_iff]
    omega
  · split
    · simp only [reduceCtorEq, false_iff]
      omega
    · simp only [true_iff]
      omega

/-- The allocation that begins in a state whose contract is formed (R85). -/
def State.newAllocation (s : State) : Allocation :=
  { snap := s.snapshot
    integratesAhead := (s.gauge.filter GaugeEntry.isIntegrate).length
    budget := none, capacity := none, ceilings := none, chargeSplit := none, supplySplit := none, counter := none
    becameAbsent := { a := false, b := false }
    released := { a := false, b := false }
    sourceLost := false }

theorem State.beginAllocation_eq (s : State) : s.beginAllocation = s.formContract.setAllocator
    { s.formContract.allocator with inFlight := some s.formContract.newAllocation } := rfl

/-- The allocation that begins at a scan completion, with its snapshot (R85). -/
theorem State.allocationBegins {s : State} (idle : s.allocator.inFlight = none) (r : ScanRecord) (b : Bool) :
    let e := s.scanEnd r b
    ∃ al, e.allocator = { s.allocator with inFlight := some al } ∧
      al = { snap := al.snap, integratesAhead := (e.gauge.filter GaugeEntry.isIntegrate).length
             budget := none, capacity := none, ceilings := none, chargeSplit := none, supplySplit := none
             counter := none, becameAbsent := { a := false, b := false }, released := { a := false, b := false }
             sourceLost := false } ∧
      al.snap.source = e.selector.selected ∧ al.snap.pair = e.selector.contract.pair ∧
      al.snap.part = e.control.state ∧ al.snap.dieWarning = e.control.dieWarning ∧
      al.snap.vSys = r.readings.vSys.toNat ∧ al.snap.iSys = r.readings.iSys.toNat ∧
      al.snap.chargeReduced = decide (e.control.state = .quiet ∧ s.readWord 0x0B0 = 0) ∧
      ∀ c, (al.snap.cells.get c).charge = (e.cell c).charge ∧ (al.snap.cells.get c).holds = (e.cell c).holds ∧
        (al.snap.cells.get c).vpin = (r.readings.vpin c).toNat ∧
        (al.snap.cells.get c).vcell = (e.cell c).vcell ∧ (al.snap.cells.get c).band = e.bands.get c ∧
        (al.snap.cells.get c).tp = (e.cell c).tp ∧ (al.snap.cells.get c).termCount = (e.cell c).termCount ∧
        (al.snap.cells.get c).renewal = (e.cell c).renewal := by
  intro e
  have began : e = (s.scanChosen r b).beginAllocation.tick := State.scanEnd_begins idle r b
  have latest : e.latestReadings = r.readings := by
    unfold State.latestReadings
    rw [(s.scanEnd_requests r b).1]
  have settings : e.mem = s.mem := (s.scanEnd_frame r b).2.1
  have policy : (e.qpolCharge == .reduced) = decide (s.readWord 0x0B0 = 0) := by
    rw [State.qpolCharge, State.setting_of_mem settings, Bool.eq_iff_iff, beq_iff_eq, decide_eq_true_iff]
    exact State.quietPolicy_reduced
  have allocator : (s.scanChosen r b).formContract.allocator = s.allocator := by
    have kept : (s.scanChosen r b).formContract.allocator = (s.scanChosen r b).allocator := by simp
    rw [kept, (s.scanChosen_frame r b).2.2, s.scanSelected_allocator, idle, Option.map_none, ← idle]
  revert latest policy began
  generalize e = t
  rintro rfl latest policy
  refine ⟨(s.scanChosen r b).formContract.newAllocation, ?_, rfl, rfl, rfl, rfl, rfl,
    congrArg (fun x => x.vSys.toNat) latest, congrArg (fun x => x.iSys.toNat) latest, ?_, fun c => ?_⟩
  · rw [← allocator]
    rfl
  · rw [Bool.decide_and]
    exact congrArg₂ and (Bool.eq_iff_iff.mpr (by rw [beq_iff_eq, decide_eq_true_iff]; rfl)) policy
  · have pins := congrArg (fun x => (x.vpin c).toNat) latest
    cases c with
    | a => exact ⟨rfl, rfl, pins, rfl, rfl, rfl, rfl, rfl⟩
    | b => exact ⟨rfl, rfl, pins, rfl, rfl, rfl, rfl, rfl⟩

end Sys2Proof.Machine
end

section
/-! PROOFS. O42: the notices, the FOLD trigger, and the whole completion of a scan. -/

namespace Sys2Proof.Machine

/-! ### The notices -/

/-- A cause that no block at a scan completion raises stands. -/
theorem State.scanEnd_quiet (s : State) (r : ScanRecord) (b : Bool) {k : StickyCause}
    (h : k = .shortfall ∨ k = .starveA ∨ k = .starveB ∨ k = .fullA ∨ k = .fullB) :
    (s.scanEnd r b).notices.sticky.get k = s.notices.sticky.get k := by
  obtain ⟨-, -, -, -, -, others⟩ := (s.scanSelected_step r b).leaves
  obtain rfl | rfl | rfl | rfl | rfl := h <;>
    (rw [s.scanEnd_sticky r b (by decide) (by decide) (by decide) (by decide) (by decide), others _ (by decide),
      s.scanDetected_sticky]
     simp)

theorem State.scanEnd_foldNotice (s : State) (r : ScanRecord) (b : Bool) :
    (s.scanEnd r b).notices.sticky.fold = true ↔
      s.notices.sticky.fold = true ∨ (foldSample s.fold b s.foldDeb).2 = true := by
  obtain ⟨-, -, -, -, -, others⟩ := (s.scanSelected_step r b).leaves
  change (s.scanEnd r b).notices.sticky.get .fold = true ↔ _
  rw [s.scanEnd_sticky r b (by decide) (by decide) (by decide) (by decide) (by decide), others _ (by decide),
    s.scanDetected_sticky]
  simp [Sticky.get]

theorem State.noticesAtScan (s : State) (r : ScanRecord) (b : Bool) : NoticesAtScan s (s.scanEnd r b) := by
  unfold NoticesAtScan
  intro begins old new wanted
  refine ⟨s.scanEnd_mask r b, s.scanEnd_quiet r b (k := .shortfall) (by decide),
    s.scanEnd_quiet r b (k := .starveA) (by decide), s.scanEnd_quiet r b (k := .starveB) (by decide),
    s.scanEnd_quiet r b (k := .fullA) (by decide), s.scanEnd_quiet r b (k := .fullB) (by decide), ?_,
    s.scanEnd_source r b⟩
  rw [s.scanEnd_fold, ← foldSample_changes]
  exact s.scanEnd_foldNotice r b

/-! ### The FOLD trigger -/

/-- The sequencer's part is told by its record, its conversions, its transactions and its three notices. -/
theorem State.seqPart_eq {s t : State} (record : t.seq = s.seq) (pending : t.converter.probePending = s.converter.probePending)
    (channel : t.converter.probeChannel = s.converter.probeChannel)
    (fetch : t.arbiter.seqFetch = s.arbiter.seqFetch) (write : t.arbiter.seqWrite = s.arbiter.seqWrite)
    (causes : ∀ k, k = .window ∨ k = .writeFault ∨ k = .listBad → t.notices.sticky.get k = s.notices.sticky.get k) :
    t.seqPart = s.seqPart := by
  have window : t.notices.sticky.window = s.notices.sticky.window := causes .window (by decide)
  have writeFault : t.notices.sticky.writeFault = s.notices.sticky.writeFault := causes .writeFault (by decide)
  have listBad : t.notices.sticky.listBad = s.notices.sticky.listBad := causes .listBad (by decide)
  unfold State.seqPart
  rw [record, pending, channel, fetch, write, window, writeFault, listBad]

/-- The bands, the stop cause and the allocator leave the sequencer. -/
theorem State.scanEnd_seqPart (s : State) (r : ScanRecord) (b : Bool) :
    (s.scanEnd r b).seqPart = (s.scanHeated r b).seqPart := by
  have arbiter : (s.scanEnd r b).arbiter = (s.scanHeated r b).arbiter := by simp [State.scanEnd, State.scanBanded]
  have converter : (s.scanEnd r b).converter = (s.scanHeated r b).converter := by simp [State.scanEnd, State.scanBanded]
  refine State.seqPart_eq (by simp [State.scanEnd, State.scanBanded]) (by rw [converter]) (by rw [converter])
    (by rw [arbiter]) (by rw [arbiter]) fun k causes => ?_
  have source : k ≠ .source := by rcases causes with rfl | rfl | rfl <;> decide
  have band : k ≠ .band := by rcases causes with rfl | rfl | rfl <;> decide
  have chosen : ((s.scanBanded r b).chooseStopCause (s.scanStored r)).notices = (s.scanBanded r b).notices := by simp
  refine (State.allocationAtScan_sticky ((s.scanBanded r b).chooseStopCause (s.scanStored r)) k).trans ?_
  rw [decide_eq_false source, Bool.false_and, Bool.or_false, chosen]
  exact (State.lookupBand_sticky _ _ _ band).trans (State.lookupBand_sticky _ _ _ band)

/-- The blocks before the FOLD trigger leave the sequencer. -/
theorem State.scanSelected_seqPart (s : State) (r : ScanRecord) (b : Bool) :
    ((s.scanSelected r b).testDie r.readings.tDie).seqPart = s.seqPart := by
  have counted : ((s.scanSelected r b).testDie r.readings.tDie).arbiter =
      { s.arbiter with gauge := !(s.arbiter.gaugeUnderWay && s.arbiter.awaited) } := by
    have die : ((s.scanSelected r b).testDie r.readings.tDie).arbiter = (s.scanSelected r b).arbiter := by simp
    rw [die, (s.scanSelected_counters r b).1, (State.countersAtScan_appends _ _).2, (s.scanTested_frame r b).1]
  have converter : ((s.scanSelected r b).testDie r.readings.tDie).converter = (s.scanStored r).converter := by
    simp [State.scanSelected, State.selectedAtScan, State.selectorAtScan]
  obtain ⟨-, -, -, -, -, others⟩ := (s.scanSelected_step r b).leaves
  refine State.seqPart_eq (by simp [State.scanSelected, State.selectedAtScan, State.selectorAtScan, State.scanStored])
    (by rw [converter]; rfl) (by rw [converter]; rfl) (by rw [counted]) (by rw [counted]) fun k causes => ?_
  have source : k ≠ .source := by rcases causes with rfl | rfl | rfl <;> decide
  refine Eq.trans (b := (s.scanSelected r b).notices.sticky.get k) rfl ?_
  rw [others k source, s.scanDetected_sticky]
  rcases causes with rfl | rfl | rfl <;> simp

/-! ### The FOLD trigger -/

/-- With no exit from HEAT the trigger of a fold change acts on the sequencer before the HEAT test, which leaves it. -/
theorem State.scanHeated_seqPart {s : State} {r : ScanRecord} {b : Bool} (stays : s.leavesHeat r b = false) :
    (s.scanHeated r b).seqPart = (((s.scanSelected r b).testDie r.readings.tDie).foldTriggered
      (foldSample s.fold b s.foldDeb).2).seqPart := by
  obtain ⟨-, -, eq⟩ | ⟨-, eq⟩ | ⟨exit, -⟩ := ((s.scanSelected r b).testDie r.readings.tDie).triggerAndHeat_cases
    (foldSample s.fold b s.foldDeb).2 r.readings.tDie
  · exact congrArg State.seqPart eq
  · refine (congrArg State.seqPart eq).trans ?_
    rfl
  · exact absurd exit (Bool.eq_false_iff.mp stays)

/-- Without an exit from HEAT the part is in SHIP where it was: the entry is from RUN or QUIET (R184). -/
theorem State.triggerAndHeat_ship {s : State} (changed : Bool) {t : Int} (stays : s.heatExitDue t = false) :
    (s.triggerAndHeat changed t).control.state = .ship ↔ s.control.state = .ship := by
  rw [s.triggerAndHeat_control, stays]
  cases entry : s.heatEntryDue t with
  | false => exact Iff.rfl
  | true =>
    have due : s.control.state ≠ .ship := fun ship => by simp [State.heatEntryDue, ship] at entry
    exact iff_of_false (fun ship => by cases ship) due

theorem State.foldTriggerAtScan {s : State} {r : ScanRecord} (b : Bool)
    (stays : ¬ (s.control.state = .heat ∧ r.readings.tDie ≤ 115)) : FoldTriggerHandedOn s (s.scanEnd r b) := by
  unfold FoldTriggerHandedOn
  intro before standsAs
  have stays : s.leavesHeat r b = false := by
    rw [Bool.eq_false_iff]
    intro exit
    simp only [State.heatExitDue, Bool.and_eq_true, beq_iff_eq, decide_eq_true_eq, (s.scanEnd_control r b).2] at exit
    exact stays exit
  have own := s.scanSelected_seqPart r b
  have after : (s.scanEnd r b).seqPart = _ := (s.scanEnd_seqPart r b).trans (State.scanHeated_seqPart stays)
  have changes := foldSample_changes s.fold b s.foldDeb
  rw [← s.scanEnd_fold r b] at changes
  have put : before = (s.scanEnd r b).putSeq s.seqPart := rfl
  constructor
  · intro later other
    have taken := triggerTaken_takeTrigger .fold before
    rw [changes.mpr ⟨later, other⟩] at after
    have handed : before.takeTrigger .fold = s.scanEnd r b := by
      have ship : (s.scanEnd r b).control.state = .ship ↔
          ((s.scanSelected r b).testDie r.readings.tDie).control.state = .ship := by
        rw [(s.scanEnd_control r b).1]
        exact State.triggerAndHeat_ship _ stays
      have mem : (s.scanEnd r b).mem = ((s.scanSelected r b).testDie r.readings.tDie).mem := by
        simp [State.scanEnd, State.scanBanded, State.scanHeated]
      have voltage : ∀ c, ((s.scanEnd r b).cells.get c).vcell =
          (((s.scanSelected r b).testDie r.readings.tDie).cells.get c).vcell := fun c =>
        (CellPath.core_eq (s.scanEnd_cell r b c).1).2.1
      rw [put, ← own, State.takeTrigger_putSeq .fold _ _ mem voltage ship]
      exact congrArg (s.scanEnd r b).putSeq after.symm
    rw [handed] at taken
    exact ⟨_, taken, rfl, rfl, rfl, rfl⟩
  · intro same
    have still : (foldSample s.fold b s.foldDeb).2 = false := by
      rw [Bool.eq_false_iff, Ne, changes]
      rintro ⟨later, other⟩
      rcases same with initial | same
      · rw [initial] at later
        cases later
      · exact other same
    rw [still] at after
    have stands : before = s.scanEnd r b := by
      rw [put, ← own]
      exact congrArg (s.scanEnd r b).putSeq after.symm
    rw [stands]
    exact ⟨rfl, rfl, rfl, rfl⟩

/-- Settles O42: the stages of the completion, each with what it leaves and what it does. -/
theorem scanCompletes : Obligations.ScanCompletes := by
  unfold Obligations.ScanCompletes
  intro s r v b flight scan last rec_
  obtain ⟨timer, mem, channels, port, refresh, pending, counter⟩ := s.scanEnd_frame rec_ b
  obtain ⟨converter, arbiter⟩ := s.scanEnd_requests rec_ b
  obtain ⟨initial, steady, changes, counts⟩ := foldSample_cases s.fold b s.foldDeb
  have fold : ∀ {p}, foldSample s.fold b s.foldDeb = p → (s.scanEnd rec_ b).fold = p.1 :=
    fun h => (s.scanEnd_fold rec_ b).trans (congrArg Prod.fst h)
  have raised : ∀ {m}, foldSample s.fold b s.foldDeb = (m, true) → (s.scanEnd rec_ b).notices.sticky.fold = true :=
    fun h => (s.scanEnd_foldNotice rec_ b).mpr (.inr (congrArg Prod.snd h))
  refine ⟨s.scanEnd rec_ b, exec_lastConversion v b flight scan last, converter, timer, mem, channels, port, refresh,
    pending, counter, arbiter, fun first => fold (initial first), fun later same => fold (steady later same),
    fun later other enough => ⟨fold (changes later other enough), raised (changes later other enough)⟩,
    fun later other few => fold (counts later other few), s.detectionAtScan rec_ b, s.selectionAtScan rec_ b,
    s.contractAtScan rec_ b, s.noticesAtScan rec_ b, State.foldTriggerAtScan b, fun c => ?_, ?_,
    s.scanEnd_emptyLatch rec_ b, fun idle => State.allocationBegins idle rec_ b, fun al begun => ?_⟩
  · obtain ⟨-, vcell, -⟩ := s.scanEnd_core rec_ b c
    intro ohms
    rw [show ((s.scanEnd rec_ b).cell c).vcell = _ from vcell, (s.scanTested_measured rec_ b c).2]
    cases c <;> exact compensate_eq _ _ _
  · rw [s.scanEnd_gauge, s.scanTested_emptyTest, s.scanTested_emptyTest]
    rfl
  · refine ⟨_, State.scanEnd_skipped begun rec_ b, ?_⟩
    simp only [s.sourceLostAtScan_iff]
    rfl

end Sys2Proof.Machine
end

section
/-! PROOFS. What an allocation completion does to a cell path, to the gauge list and to the notices (R2, R6, R36, R41). -/

namespace Sys2Proof.Machine

/-! ### One cell -/

theorem holdIsNew_eq (x h : Holds) : holdIsNew x h = x.hasBeyond h := rfl

/-- The cases of R6 with what each writes. -/
theorem cellFollows_applyShare (x : CellPath) (al : Allocation) (sh : CellShare) (c : CellId) (kept : Bool) :
    CellFollows al sh c x (x.applyShare al sh c kept) := by
  unfold CellFollows
  intro snap case1 case2 case3 taken found
  have alone : leftAlone x al c ↔ case1 ∨ case2 := by
    unfold leftAlone
    exact or_assoc.symm
  have anew : heldAnew x al sh c ↔ case3 := Iff.rfl
  refine ⟨fun first => ?_, fun not1 not2 held => ?_, fun not1 not2 not3 => ?_⟩
  · exact CellPath.applyShare_of_leftAlone (alone.mpr first)
  · exact CellPath.applyShare_of_heldAnew (fun h => (alone.mp h).elim not1 not2) held
  · have eq := CellPath.applyShare_of_found (kept := kept) (fun h => (alone.mp h).elim not1 not2) (mt anew.mp not3)
    rw [eq]
    refine ⟨fun opened => ?_, fun shut gives lost => ?_, fun shut other => ?_⟩
    · rw [if_pos opened]
      rfl
    · rw [if_neg (by rw [shut]; decide), if_pos ⟨gives, lost⟩]
      refine ⟨rfl, fun high => ?_, fun low => ?_⟩
      · exact if_neg fun h => absurd h.1 (not_lt.mpr high)
      · show standingSupply kept x.setPoint = 0 ∨ standingSupply kept x.setPoint = x.setPoint
        unfold standingSupply
        split
        · exact .inr rfl
        · exact .inl rfl
    · rw [if_neg (by rw [shut]; decide), if_neg]
      · rfl
      · rintro ⟨gives, lost⟩
        rcases other with low | kept_
        · omega
        · rw [lost] at kept_
          cases kept_

/-- A cell takes FULL where its charge ended and it takes the state found (R2, R6). -/
theorem takesFull_iff {s : State} {al : Allocation} {sh : CellShare} {c : CellId}
    (full : sh.stage.terminated = true → sh.stage.found = .full) :
    ((applyCase (s.cell c) al sh c).takesFound && sh.stage.terminated) = takesFull s al sh c := by
  have wanted : takesFull s al sh c = true ↔ sh.stage.terminated = true ∧ ¬ leftAlone (s.cell c) al c ∧
      ¬ (s.cell c).holds.hasBeyond (al.snap.cells.get c).holds = true := by
    unfold takesFull leftAlone
    dsimp only
    rw [holdIsNew_eq]
    simp only [Bool.and_eq_true, Bool.not_eq_true', Bool.and_eq_false_iff, bne_iff_ne, beq_eq_false_iff_ne, ne_eq,
      Bool.not_eq_true]
    grind
  rw [Bool.eq_iff_iff, Bool.and_eq_true, applyCase_takesFound_iff, wanted, and_comm]
  refine and_congr_right fun ended => and_congr_right fun _ => not_congr (and_iff_left ?_)
  rw [full ended]
  rintro ⟨-, absent⟩
  cases absent

/-! ### The gauge list -/

/-- An entry appended leaves the list not empty, so GAUGE waits unless what it awaits is under way (R36). -/
theorem State.appendEntry_eq (s : State) (e : GaugeEntry) : s.appendEntry e = { s with
    gauge := s.gauge ++ [e]
    arbiter := { s.arbiter with gauge := !(s.arbiter.gaugeUnderWay && s.arbiter.awaited) } } := by
  have filled : (s.gauge ++ [e]).isEmpty = false := by simp
  exact congrArg (fun b => ({ s with
    gauge := s.gauge ++ [e]
    arbiter := { s.arbiter with gauge := !b && !(s.arbiter.gaugeUnderWay && s.arbiter.awaited) } } : State)) filled

/-- The FULL entry of a cell that takes FULL, unless the last entry of the cell is one (R36, R41). -/
def fullEntry (l : List GaugeEntry) (takes : Bool) (c : CellId) : List GaugeEntry :=
  if takes = true ∧ (l.filter (GaugeEntry.concerns c)).getLast? ≠ some (.full c) then [GaugeEntry.full c] else []

theorem Sticky.set_get (k : Sticky) (c : StickyCause) : k.set c (k.get c) = k := by cases c <;> rfl

/-- A cell's part of a completion: its path, its FULL notice and its FULL entry, with which GAUGE waits. -/
theorem State.applyToCell_eq {s : State} {al : Allocation} {sh : CellShare} {c : CellId}
    (full : sh.stage.terminated = true → sh.stage.found = .full) (kept : Bool) :
    let takes := takesFull s al sh c
    s.applyToCell al sh kept c = { s with
      cells := s.cells.set c ((s.cell c).applyShare al sh c kept)
      notices := { s.notices with
        sticky := s.notices.sticky.set (fullCauseOf c) (s.notices.sticky.get (fullCauseOf c) || takes) }
      gauge := s.gauge ++ fullEntry s.gauge takes c
      arbiter := { s.arbiter with
        gauge := if fullEntry s.gauge takes c = [] then s.arbiter.gauge
          else !(s.arbiter.gaugeUnderWay && s.arbiter.awaited) } } := by
  intro takes
  unfold State.applyToCell
  rw [takesFull_iff full]
  cases ht : takes with
  | false =>
    have nothing : fullEntry s.gauge false c = [] := if_neg fun h => by cases h.1
    rw [nothing, show takesFull s al sh c = false from ht, Bool.or_false, Sticky.set_get, List.append_nil, if_pos rfl]
    rfl
  | true =>
    rw [show takesFull s al sh c = true from ht, Bool.or_true, if_pos rfl]
    unfold State.appendFull
    by_cases last : (s.gauge.filter (GaugeEntry.concerns c)).getLast? = some (.full c)
    · have nothing : fullEntry s.gauge true c = [] := if_neg fun h => h.2 last
      rw [nothing, List.append_nil, if_pos rfl, if_pos (by exact beq_iff_eq.mpr last)]
      rfl
    · have entry : fullEntry s.gauge true c = [.full c] := if_pos ⟨rfl, last⟩
      rw [entry, if_neg (List.cons_ne_nil _ _), if_neg (by exact mt beq_iff_eq.mp last), State.appendEntry_eq]
      rfl

end Sys2Proof.Machine
end

section
/-! PROOFS. The transfer converter and the status refresh at an allocation completion (R113 to R118, R172, R173). -/

namespace Sys2Proof.Machine

/-! ### The quiet policies -/

theorem State.quietPolicy_keep {s : State} {i : Nat} :
    quietPolicyOf (s.setting i 0 3) = .keep ↔ 2 ≤ (s.readWord i).toNat := by
  unfold quietPolicyOf State.setting clampNat
  split
  · simp only [true_iff]
    omega
  · split
    · simp only [reduceCtorEq, false_iff]
      omega
    · simp only [reduceCtorEq, false_iff]
      omega

theorem State.quietPolicy_stop {s : State} {i : Nat} :
    quietPolicyOf (s.setting i 0 3) = .stopEffective ↔ (s.readWord i).toNat = 1 := by
  unfold quietPolicyOf State.setting clampNat
  split
  · simp only [reduceCtorEq, false_iff]
    omega
  · split
    · simp only [true_iff]
      omega
    · simp only [reduceCtorEq, false_iff]
      omega

/-! ### The transfer converter -/

theorem State.transferCurrent_eq (s : State) (res : ShareResult) (hinge : Nat) (src : CellId) :
    s.transferCurrent res hinge src = transferCurrentOf s res hinge src := by
  have reduced : s.xmaxNow = if s.control.state = .quiet ∧ s.readWord 0x0B1 = 0 then s.xmax / 2 else s.xmax := by
    unfold State.xmaxNow State.qpolXfer
    simp only [State.quietPolicy_reduced]
  unfold State.transferCurrent transferCurrentOf
  rw [reduced]
  dsimp only
  generalize min (if s.control.state = .quiet ∧ s.readWord 0x0B1 = 0 then s.xmax / 2 else s.xmax)
    (res.d.natAbs * s.xk / 16) = raw
  generalize res.cells.get src = giver
  generalize res.cells.get (otherCell src) = taker
  cases src with
  | a =>
    dsimp only
    split <;> omega
  | b =>
    dsimp only
    split <;> omega

theorem State.cellMayTransfer_iff {s : State} {al : Allocation} {res : ShareResult} {c : CellId} :
    s.cellMayTransfer al res c = true ↔ (res.cells.get c).stage.found ≠ .absent ∧
      (res.cells.get c).stage.found ≠ .tripped ∧ (s.cell c).charge ≠ .tripped ∧ al.becameAbsent.get c = false ∧
      (s.cell c).holds.window = false ∧ (s.cell c).holds.quiet = false := by
  simp [State.cellMayTransfer, and_assoc]

/-- The eligibility test of R115. -/
theorem State.transferEligible_iff {s : State} {al : Allocation} {res : ShareResult} {src : CellId} :
    s.transferEligible al res src = true ↔ transferEligibleFrom s al res src := by
  have stop : s.qpolXfer = .stopEffective ↔ s.readWord 0x0B1 = 1 :=
    State.quietPolicy_stop.trans (Iff.symm (BitVec.toNat_eq.trans (by rfl)))
  have cells : (s.cellMayTransfer al res .a = true ∧ s.cellMayTransfer al res .b = true) ↔
      ∀ c, s.cellMayTransfer al res c = true :=
    ⟨fun ⟨a, b⟩ c => by cases c <;> assumption, fun h => ⟨h .a, h .b⟩⟩
  unfold State.transferEligible transferEligibleFrom
  dsimp only
  simp only [← State.cellMayTransfer_iff, ← cells, ← stop]
  simp only [Bool.and_eq_true, beq_iff_eq, Bool.or_eq_true, Bool.not_eq_true', Bool.and_eq_false_iff,
    beq_eq_false_iff_ne, ne_eq, and_assoc, not_and_or]

/-- The direction of a transfer, from the fuller cell (R113). -/
theorem transferSource_iff {d : Int} {src : CellId} :
    transferSource d = some src ↔ (match src with
      | .a => 0 < d
      | .b => d < 0) := by
  unfold transferSource
  cases src with
  | a =>
    split
    · simp only [true_iff]; assumption
    · split <;> simp <;> omega
  | b =>
    split
    · simp; omega
    · split <;> simp <;> omega

theorem runFrom_eq (c : CellId) : runFrom c = runState c := by cases c <;> rfl

theorem State.transferUpdate_of_off {s : State} (off : s.transfer.state = .off) (al : Allocation) (res : ShareResult)
    (hinge : Nat) : s.transferUpdate al res hinge = s.transferStart al res hinge := by
  unfold State.transferUpdate
  rw [off]

theorem State.transferUpdate_of_rest {s : State} (rest : s.transfer.state = .rest) (al : Allocation) (res : ShareResult)
    (hinge : Nat) : s.transferUpdate al res hinge = restCountDown s.transfer := by
  unfold State.transferUpdate
  rw [rest]

theorem State.transferUpdate_of_run {s : State} {src : CellId} (run : s.transfer.state = runFrom src) (al : Allocation)
    (res : ShareResult) (hinge : Nat) :
    s.transferUpdate al res hinge = s.transferContinue al res hinge src := by
  unfold State.transferUpdate
  rw [run]
  cases src <;> rfl

theorem State.transferContinue_of_stop {s : State} {al : Allocation} {res : ShareResult} {hinge : Nat} {src : CellId}
    {cause : StopCause} (stop : s.transferStop al res hinge src = some cause) :
    s.transferContinue al res hinge src =
      { s.transfer with state := .rest, current := 0, rest := s.xrest, stopCause := cause } := by
  unfold State.transferContinue
  rw [stop]

/-- The update of the transfer converter: the start test, the continue test and the rest count (R116 to R118). -/
theorem State.transferFollows (s : State) (al : Allocation) (res : ShareResult) (hinge : Nat) :
    TransferFollows s al res hinge (s.transferUpdate al res hinge) := by
  unfold TransferFollows
  intro heads gap current room starts rests
  have source : ∀ src, transferSource res.d = some src ↔ heads src := fun src => transferSource_iff
  have eligible : ∀ src, s.transferEligible al res src = true ↔ transferEligibleFrom s al res src :=
    fun src => State.transferEligible_iff
  have limit : ∀ src, receiverBelowLimit al res src = true ↔ room src := fun src => decide_eq_true_iff
  have same : ∀ src, s.transferCurrent res hinge src = current src := s.transferCurrent_eq res hinge
  refine ⟨fun off => ?_, fun src run => ?_, fun rest => ?_⟩
  · rw [State.transferUpdate_of_off off]
    unfold State.transferStart
    refine ⟨fun src ⟨toward, fits, wide, enough, below⟩ => ?_, fun none_ => ?_⟩
    · rw [(source src).mpr toward]
      dsimp only
      rw [same, if_pos ⟨(eligible src).mpr fits, wide, enough, (limit src).mpr below⟩, runFrom_eq]
    · cases toward : transferSource res.d with
      | none => rfl
      | some src =>
        refine if_neg fun ⟨fits, wide, enough, below⟩ => none_ src ⟨(source src).mp toward, (eligible src).mp fits, wide,
          ?_, (limit src).mp below⟩
        rwa [same] at enough
  · intro fits
    have tests : s.transferStop al res hinge src = if transferSource res.d ≠ some src then some .reversed
        else if ¬ s.transferEligible al res src then some .ineligible
        else if gap ≤ s.xstop then some .balanced
        else if current src < s.xmin then some .lowCurrent
        else if ¬ receiverBelowLimit al res src then some .receiverLimit else none := by
      unfold State.transferStop
      rw [same]
    have on : heads src → ¬ transferSource res.d ≠ some src := fun toward => not_not.mpr ((source src).mpr toward)
    have able : transferEligibleFrom s al res src → ¬ ¬ s.transferEligible al res src = true :=
      fun fit => not_not.mpr ((eligible src).mpr fit)
    have stopped : ∀ {cause}, s.transferStop al res hinge src = some cause → rests cause := fun stop =>
      (State.transferUpdate_of_run run al res hinge).trans (State.transferContinue_of_stop stop)
    refine ⟨fun away => stopped ?_, fun toward unfit => stopped ?_, fun ⟨toward, fit⟩ even => stopped ?_,
      fun ⟨toward, fit⟩ wide low => stopped ?_, fun ⟨toward, fit⟩ wide enough full => stopped ?_,
      fun ⟨toward, fit⟩ wide enough below => ?_⟩
    · rw [tests, if_pos (mt (source src).mp away)]
    · rw [tests, if_neg (on toward), if_pos fun fit => unfit ⟨toward, (eligible src).mp fit⟩]
    · rw [tests, if_neg (on toward), if_neg (able fit), if_pos even]
    · rw [tests, if_neg (on toward), if_neg (able fit), if_neg (Nat.not_le.mpr wide), if_pos low]
    · rw [tests, if_neg (on toward), if_neg (able fit), if_neg (Nat.not_le.mpr wide),
        if_neg (Nat.not_lt.mpr enough), if_pos (mt (limit src).mp full)]
    · rw [State.transferUpdate_of_run run]
      unfold State.transferContinue
      rw [tests, if_neg (on toward), if_neg (able fit), if_neg (Nat.not_le.mpr wide),
        if_neg (Nat.not_lt.mpr enough), if_neg (not_not.mpr ((limit src).mpr below))]
      dsimp only
      rw [same]
  · rw [State.transferUpdate_of_rest rest]
    unfold restCountDown
    simp only [Nat.sub_eq_zero_iff_le]

end Sys2Proof.Machine
end

section
/-! PROOFS. O50: an allocation past its counter point completes (R2, R6, R109 to R118, R172, R173). -/

namespace Sys2Proof.Machine

/-! ### The status refresh -/

/-- The status page shows neither the image nor the marks of the refresh, nor the arbiter. -/
theorem State.statusImage_of_shown (s : State) (image : List Word) (marks : List Bool) (ar : Arbiter) (n : Nat) :
    State.statusImage { s with
      refresh := { s.refresh with image := image, marks := marks }, arbiter := ar, freeCounter := n } =
        s.statusImage := by
  refine congrArg (fun f => (List.range 0x80).map f) (funext fun i => ?_)
  delta State.statusWord State.generalWord State.cellWord State.lastBlockWord
  rfl

/-- The image that a request takes is the status page as it stands then (R172). -/
theorem State.requestRefresh_refresh (s : State) :
    s.requestRefresh.tick.refresh =
      { image := s.requestRefresh.tick.statusImage, marks := [true, true, true, true], count := 0 } := by
  have image : s.requestRefresh.tick.statusImage = (s.setRefresh { s.refresh with count := 0 }).statusImage :=
    (s.setRefresh { s.refresh with count := 0 }).statusImage_of_shown _ [true, true, true, true]
      { s.arbiter with refresh := true } (s.freeCounter + 1)
  rw [image]
  rfl

/-- A refresh is asked for outside QUIET, and in QUIET as QPOL_REFRESH has it (R173). -/
def State.refreshAsked (s : State) : Prop :=
  ¬ s.control.state = .quiet ∨ 2 ≤ (s.readWord 0x0B3).toNat ∨
    ((s.readWord 0x0B3).toNat = 0 ∧ 8 ≤ s.refresh.count + 1)

theorem State.qpolRefresh_reduced {s : State} (h : (s.readWord 0x0B3).toNat = 0) : s.qpolRefresh = .reduced :=
  State.quietPolicy_reduced.mpr (BitVec.eq_of_toNat_eq h)

theorem State.refreshAtCompletion_of_asked {s : State} (h : s.refreshAsked) : s.refreshAtCompletion = s.requestRefresh := by
  unfold State.refreshAtCompletion
  obtain awake | keep | ⟨reduced, due⟩ := h
  · rw [if_pos awake]
  · by_cases quiet : s.control.state = .quiet
    · rw [if_neg (not_not.mpr quiet), show s.qpolRefresh = .keep from State.quietPolicy_keep.mpr keep]
    · rw [if_pos quiet]
  · by_cases quiet : s.control.state = .quiet
    · rw [if_neg (not_not.mpr quiet), State.qpolRefresh_reduced reduced]
      exact if_pos due
    · rw [if_pos quiet]

theorem State.refreshAtCompletion_of_stop {s : State} (quiet : s.control.state = .quiet)
    (stop : (s.readWord 0x0B3).toNat = 1) : s.refreshAtCompletion = s := by
  unfold State.refreshAtCompletion
  rw [if_neg (not_not.mpr quiet), show s.qpolRefresh = .stopEffective from State.quietPolicy_stop.mpr stop]

theorem State.refreshAtCompletion_of_reduced {s : State} (quiet : s.control.state = .quiet)
    (reduced : (s.readWord 0x0B3).toNat = 0) (early : s.refresh.count + 1 < 8) :
    s.refreshAtCompletion = s.setRefresh { s.refresh with count := s.refresh.count + 1 } := by
  unfold State.refreshAtCompletion
  rw [if_neg (not_not.mpr quiet), State.qpolRefresh_reduced reduced]
  exact if_neg (Nat.not_le.mpr early)

theorem State.refreshAtCompletion_arbiter (s : State) :
    (s.refreshAsked → s.refreshAtCompletion.arbiter = { s.arbiter with refresh := true }) ∧
      (¬ s.refreshAsked → s.refreshAtCompletion.arbiter = s.arbiter) := by
  refine ⟨fun asked => ?_, fun not => ?_⟩
  · rw [State.refreshAtCompletion_of_asked asked]
    rfl
  · simp only [State.refreshAsked, not_or, not_not, not_and] at not
    obtain ⟨quiet, low, early⟩ := not
    by_cases reduced : (s.readWord 0x0B3).toNat = 0
    · rw [State.refreshAtCompletion_of_reduced quiet reduced (Nat.not_le.mp (early reduced))]
      rfl
    · rw [State.refreshAtCompletion_of_stop quiet (by omega)]

theorem State.refreshAtCompletion_refresh (s : State) :
    let e := s.refreshAtCompletion.tick
    (s.refreshAsked → e.refresh = { image := e.statusImage, marks := [true, true, true, true], count := 0 }) ∧
      (s.control.state = .quiet → (s.readWord 0x0B3).toNat = 1 → e.refresh = s.refresh) ∧
      (s.control.state = .quiet → (s.readWord 0x0B3).toNat = 0 → s.refresh.count + 1 < 8 →
        e.refresh = { s.refresh with count := s.refresh.count + 1 }) := by
  intro e
  refine ⟨fun asked => ?_, fun quiet stop => ?_, fun quiet reduced early => ?_⟩
  · have requested : e = s.requestRefresh.tick := congrArg State.tick (State.refreshAtCompletion_of_asked asked)
    rw [requested]
    exact s.requestRefresh_refresh
  · exact congrArg (fun u : State => u.tick.refresh) (State.refreshAtCompletion_of_stop quiet stop)
  · exact congrArg (fun u : State => u.tick.refresh) (State.refreshAtCompletion_of_reduced quiet reduced early)

/-! ### The hand-on -/

/-- The FULL entry of cell a is no entry of cell b. -/
theorem fullEntry_append_a (l : List GaugeEntry) (takesA takesB : Bool) :
    fullEntry (l ++ fullEntry l takesA .a) takesB .b = fullEntry l takesB .b := by
  have other : (fullEntry l takesA .a).filter (GaugeEntry.concerns .b) = [] := by
    unfold fullEntry
    split <;> rfl
  unfold fullEntry at other ⊢
  rw [List.filter_append, other, List.append_nil]

/-- Both cells' parts of a completion, cell a's first (log entry 45). -/
theorem State.applyToCells_eq {s : State} {al : Allocation} {ra rb : CellShare}
    (fullA : ra.stage.terminated = true → ra.stage.found = .full)
    (fullB : rb.stage.terminated = true → rb.stage.found = .full) (ka kb : Bool) :
    let entries := fullEntry s.gauge (takesFull s al ra .a) .a ++ fullEntry s.gauge (takesFull s al rb .b) .b
    (s.applyToCell al ra ka .a).applyToCell al rb kb .b = { s with
      cells := { a := s.cells.a.applyShare al ra .a ka, b := s.cells.b.applyShare al rb .b kb }
      notices := { s.notices with sticky := { s.notices.sticky with
        fullA := s.notices.sticky.fullA || takesFull s al ra .a
        fullB := s.notices.sticky.fullB || takesFull s al rb .b } }
      gauge := s.gauge ++ entries
      arbiter := { s.arbiter with
        gauge := if entries = [] then s.arbiter.gauge else !(s.arbiter.gaugeUnderWay && s.arbiter.awaited) } } := by
  intro entries
  rw [State.applyToCell_eq fullA]
  refine (State.applyToCell_eq fullB kb).trans ?_
  have later := fullEntry_append_a s.gauge (takesFull s al ra .a) (takesFull s al rb .b)
  have gauge : (s.gauge ++ fullEntry s.gauge (takesFull s al ra .a) .a) ++
      fullEntry (s.gauge ++ fullEntry s.gauge (takesFull s al ra .a) .a) (takesFull s al rb .b) .b =
        s.gauge ++ entries := by
    rw [later, List.append_assoc]
  have waits : ∀ g w : Bool, (if fullEntry (s.gauge ++ fullEntry s.gauge (takesFull s al ra .a) .a)
      (takesFull s al rb .b) .b = [] then (if fullEntry s.gauge (takesFull s al ra .a) .a = [] then g else w) else w) =
        if entries = [] then g else w := by
    intro g w
    simp only [later, entries, List.append_eq_nil_iff]
    by_cases none_ : fullEntry s.gauge (takesFull s al rb .b) .b = []
    · simp only [none_, and_true, if_true]
    · simp only [none_, and_false, if_false]
  exact congrArg₂ (fun l w => ({ s with
    cells := { a := s.cells.a.applyShare al ra .a ka, b := s.cells.b.applyShare al rb .b kb }
    notices := { s.notices with sticky := { s.notices.sticky with
      fullA := s.notices.sticky.fullA || takesFull s al ra .a
      fullB := s.notices.sticky.fullB || takesFull s al rb .b } }
    gauge := l
    arbiter := { s.arbiter with gauge := w } } : State)) gauge (waits _ _)

/-- What a completion hands on to the blocks before the refresh takes its image (R109). -/
def State.handedOn (s : State) (al : Allocation) (cp : CounterPoint) (res : ShareResult) (hinge : Nat) : State :=
  let takes := fun c => takesFull s al (res.cells.get c) c
  let entries := fullEntry s.gauge (takes .a) .a ++ fullEntry s.gauge (takes .b) .b
  { s with
    cells :=
      { a := s.cells.a.applyShare al res.cells.a .a (Config.standingSupplyKept (2 * s.freeCounter))
        b := s.cells.b.applyShare al res.cells.b .b (Config.standingSupplyKept (2 * s.freeCounter + 1)) }
    notices := { s.notices with sticky := { s.notices.sticky with
      fullA := s.notices.sticky.fullA || takes .a
      fullB := s.notices.sticky.fullB || takes .b
      shortfall := s.notices.sticky.shortfall || (res.shortfall && !s.allocator.shortfall) } }
    gauge := s.gauge ++ entries
    arbiter := { s.arbiter with
      gauge := if entries = [] then s.arbiter.gauge else !(s.arbiter.gaugeUnderWay && s.arbiter.awaited) }
    transfer := s.transferUpdate al res hinge
    allocator := { s.allocator with
      inFlight := none, shortfall := res.shortfall, w := res.w, v := res.v, published := publish al cp res }
    selector := { s.selector with phase := if s.selector.phase = .held then .done else s.selector.phase } }

theorem State.changeoverCompleted_eq (s : State) : s.changeoverCompleted = { s with
    selector := { s.selector with phase := if s.selector.phase = .held then .done else s.selector.phase } } := by
  unfold State.changeoverCompleted
  split
  next held => rw [if_pos held]; rfl
  next other => rw [if_neg other]

theorem State.writeResults_eq (s : State) (al : Allocation) (cp : CounterPoint) (res : ShareResult) :
    s.writeResults al cp res = { s with
      allocator := { s.allocator with
        inFlight := none, shortfall := res.shortfall, w := res.w, v := res.v, published := publish al cp res }
      notices := { s.notices with sticky := { s.notices.sticky with
        shortfall := s.notices.sticky.shortfall || (res.shortfall && !s.allocator.shortfall) } } } := by
  unfold State.writeResults
  cases new : res.shortfall && !s.allocator.shortfall with
  | true => rw [Bool.or_true]; rfl
  | false => rw [Bool.or_false]; rfl

theorem State.handOn_eq {s : State} {al : Allocation} {res : ShareResult} (cp : CounterPoint) (hinge : Nat)
    (full : ∀ c, (res.cells.get c).stage.terminated = true → (res.cells.get c).stage.found = .full) :
    s.handOn al cp res hinge = (s.handedOn al cp res hinge).refreshAtCompletion.tick := by
  unfold State.handOn
  dsimp only
  rw [State.applyToCells_eq (ra := res.cells.a) (rb := res.cells.b) (full .a) (full .b), State.changeoverCompleted_eq, State.writeResults_eq]
  rfl

/-! ### The stages worked, and the whole completion -/

/-- At a completion every stage is worked (R86, R87). -/
theorem Allocation.work_all {al : Allocation} {cp : CounterPoint} (counted : al.counter = some cp) (s : State) :
    al.work s 4 true = { al with
      budget := some (al.budget.getD (s.budgetRead al.snap))
      capacity := some (al.capacity.getD s.capacityRead)
      ceilings := some (al.ceilings.getD s.ceilingRead)
      chargeSplit := some (al.chargeSplit.getD s.chargeSplitRead)
      supplySplit := some (al.supplySplit.getD s.supplySplitRead) } := by
  unfold Allocation.work
  rw [counted]
  rfl

theorem State.workStages_all {s : State} {al : Allocation} {cp : CounterPoint} (flight : s.allocator.inFlight = some al)
    (counted : al.counter = some cp) :
    let b := al.budget.getD (s.budgetRead al.snap)
    s.workStages 4 true = { s with
      selector := { s.selector with contract := { s.selector.contract with vC := b.vC, iC := b.iC } }
      allocator := { s.allocator with inFlight := some (al.work s 4 true) } } := by
  intro b
  unfold State.workStages
  rw [flight]
  dsimp only
  rw [Allocation.work_all counted]
  rfl

/-- Settles O50: the stages left are worked, and the results handed on to every block. -/
theorem allocationCompletes : Obligations.AllocationCompletes := by
  unfold Obligations.AllocationCompletes
  intro s al cp flight counted b sp res takes fulls
  have ready : s.allocationReady = true := by
    unfold State.allocationReady
    rw [flight]
    exact Option.isSome_iff_exists.mpr ⟨cp, counted⟩
  have full : ∀ c, (res.cells.get c).stage.terminated = true → (res.cells.get c).stage.found = .full :=
    fun c => (share_lawful al.snap cp _ _ _ _ _ c).terminated
  have worked := State.workStages_all flight counted
  have inFlight : (s.workStages 4 true).allocator.inFlight = some (al.work s 4 true) := by rw [worked]
  have completes : s.completeAllocation = (s.workStages 4 true).handOn (al.work s 4 true) cp res sp.iHingeMax := by
    unfold State.completeAllocation
    dsimp only
    rw [inFlight]
    dsimp only
    rw [Allocation.work_all counted]
    simp only [counted]
    rfl
  rw [State.handOn_eq cp sp.iHingeMax full, worked, Allocation.work_all counted] at completes
  generalize hu : State.handedOn _ _ _ _ _ = u at completes
  obtain ⟨cells, fold, timer, converter, gauge, bands, channels, allocator, transfer, selector, seq, mem, port, notices,
    control, pending, counter⟩ := u.refreshAtCompletion_frame
  obtain ⟨asked, unasked⟩ := u.refreshAtCompletion_arbiter
  have step : exec .allocationCompletion s = .next u.refreshAtCompletion.tick.settle := by
    show Host.Outcome.next (if s.allocationReady then s.completeAllocation.settle else s) = _
    rw [if_pos ready, completes]
  obtain ⟨taken, stopped, counts⟩ := u.refreshAtCompletion_refresh
  subst hu
  have published := congrArg Allocator.published allocator
  refine ⟨_, step, mem, channels, timer, seq, control, bands, fold, converter, port, fun c => ?_,
    gauge.trans (List.append_assoc _ _ _).symm, notices, pending, congrArg (· + 1) counter, ?_, ?_, ?_, selector, ?_⟩
  · have path := congrArg (fun x => PerCell.get x c) cells
    refine Eq.subst (motive := fun y => CellFollows al (res.cells.get c) c (s.cell c) y) path.symm ?_
    cases c with
    | a => exact cellFollows_applyShare s.cells.a al res.cells.a .a _
    | b => exact cellFollows_applyShare s.cells.b al res.cells.b .b _
  · exact allocator.trans (congrArg (fun p => ({ s.allocator with
      inFlight := none, shortfall := res.shortfall, w := res.w, v := res.v, published := p } : Allocator)) published.symm)
  · intro p
    have shown : p = publish al cp res := published
    rw [shown]
    exact ⟨rfl, rfl, rfl, rfl, rfl, rfl, rfl, fun c => by cases c <;> rfl⟩
  · refine Eq.subst (motive := fun t => TransferFollows s al res sp.iHingeMax t) transfer.symm ?_
    have follows := (s.workStages 4 true).transferFollows (al.work s 4 true) res sp.iHingeMax
    rw [worked, Allocation.work_all counted] at follows
    exact follows
  · intro quiet policy asks
    refine ⟨?_, taken, stopped, counts⟩
    by_cases asking : asks
    · simp only [asking, if_true]
      exact asked asking
    · simp only [asking, if_false]
      exact unasked asking

end Sys2Proof.Machine
end

section
/-! PROOFS. O28: the items of a list, carried out. -/

namespace Sys2Proof.Machine

/-- A sample begins converting as the statements say (R29, R146, R148). -/
theorem State.beginConverting_of_sample {s : State} {ch n target : Nat} {g : Trigger}
    (item : s.seq.item = some (.sample ch n g target)) (counted : 0 < n) :
    s.beginConverting = beganConverting s ch n target := by
  unfold State.beginConverting beganConverting
  rw [item]
  dsimp only
  by_cases pin : ch < 14
  · rw [if_pos pin, if_pos pin]
    rfl
  · have ratio : ∀ v : Int, (v * n).tdiv n = v := fun v => Int.mul_tdiv_cancel v (by omega)
    rw [if_neg pin, if_neg pin]
    refine (State.formResult_of_sample (s := s.setSeq { s.seq with sum := s.computedChannel ch * n, taken := n })
      item).trans ?_
    simp only [State.setSeq_fields, ratio]
    rfl

theorem State.post_slot (s : State) (code : EndCode) : (s.post code).seq.slot = s.seq.slot := by
  unfold State.post
  split
  · rfl
  · split <;> rfl

/-- A JUMP posts PASS, and gives way to the slot's list (R154). -/
theorem State.jump_cases (s : State) (target : Nat) :
    (s.seq.slot = none → s.jump target = (s.post .pass).finishItem target) ∧
      (s.seq.slot.isSome = true → s.jump target = s.endListWith .pass) := by
  unfold State.jump
  refine ⟨fun empty => ?_, fun full => ?_⟩
  · simp only [State.post_slot, empty]
  · obtain ⟨i, full⟩ := Option.isSome_iff_exists.mp full
    simp only [State.post_slot, full]
    rfl

/-- Settles O28: what each kind of item does is what its row of the list says. -/
theorem itemsCarriedOut : Obligations.ItemsCarriedOut := by
  unfold Obligations.ItemsCarriedOut
  refine ⟨fun s => ?_, fun s => ?_, fun s a => ?_⟩
  · intro counted next
    refine ⟨rfl, fun _ => rfl, fun _ => rfl, fun ch n g target item => ⟨fun waits => ?_, ?_⟩, fun _ _ _ _ => rfl,
      fun _ _ => rfl, fun _ _ _ => rfl, fun target => State.jump_cases counted target, fun v target low high => ?_,
      fun v target outside => ?_⟩
    · cases g with
      | now => exact absurd rfl waits
      | period | fold | swapA | swapB => rfl
    · rintro rfl - some_
      exact State.beginConverting_of_sample item some_
    · exact if_pos ⟨low, high⟩
    · exact if_neg fun ⟨low, high⟩ => by omega
  · refine ⟨rfl, ?_, ?_, ?_, ?_, rfl, rfl, ?_⟩
    · show BitVec.ofNat 16 (bit s.fold.folded 0) = _
      cases s.fold.folded <;> rfl
    · show BitVec.ofNat 16 s.cells.a.charge.code = _
      cases s.cells.a.charge <;> rfl
    · show BitVec.ofNat 16 s.cells.b.charge.code = _
      cases s.cells.b.charge <;> rfl
    · show BitVec.ofNat 16 s.transfer.state.code = _
      cases s.transfer.state <;> rfl
    · show BitVec.ofNat 16 s.selector.selected.code = _
      cases s.selector.selected <;> rfl
  · exact ⟨decide_eq_true_iff, decide_eq_true_iff, rfl, rfl, rfl, rfl, beq_iff_eq, bne_iff_ne⟩

end Sys2Proof.Machine
end

section
/-! PROOFS. O39 and O40: the period expiry, and the expiries that end a WAIT and a REST. -/

namespace Sys2Proof.Machine

/-! ### The period expiry -/

theorem periodLengthOf_eq (p : PartState) : periodLengthOf p = if p = .quiet then .ms32 else .ms4 := by
  cases p <;> rfl

theorem State.countPeriod_askScan (s : State) : s.countPeriod.askScan = periodCounted s := by
  unfold State.askScan State.countPeriod periodCounted
  rw [periodLengthOf_eq]
  simp only [State.setTimer_fields]
  cases s.converter.scan with
  | none => rfl
  | some r => rfl

theorem State.countWait_of_no_pause {s : State} (h : s.seq.state ≠ .pause) : s.countWait = s := by
  unfold State.countWait
  split
  next pause => exact absurd pause h
  next => rfl

/-- A WAIT counts down, and ends where its count reaches 0 (R151). -/
theorem State.countWait_of_pause {s : State} (pause : s.seq.state = .pause) :
    (1 < s.seq.waitCount → s.countWait = s.setSeq { s.seq with waitCount := s.seq.waitCount - 1 }) ∧
      (s.seq.waitCount ≤ 1 →
        s.countWait = (s.setSeq { s.seq with waitCount := 0 }).finishItem (s.seq.itemIndex + 4)) := by
  unfold State.countWait
  rw [pause]
  refine ⟨fun more => if_neg ?_, fun last => ?_⟩
  · show s.seq.waitCount - 1 ≠ 0
    omega
  · rw [Nat.sub_eq_zero_of_le last]
    rfl

theorem State.takeTrigger_of_not_waiting {s : State} (g : Trigger) (h : s.seq.state ≠ .triggerWait) :
    s.takeTrigger g = s := (triggerTaken_takeTrigger g s).2 (.inl h)

/-- A list that ends leaves the sequencer fetching the slot's first item, or IDLE (R143). -/
theorem State.endList_state (s : State) : s.endList.seq.state = .fetch ∨ s.endList.seq.state = .idle := by
  unfold State.endList State.startList
  split
  · exact .inr rfl
  · exact .inl rfl

theorem State.endListWith_state (s : State) (code : EndCode) :
    (s.endListWith code).seq.state = .fetch ∨ (s.endListWith code).seq.state = .idle := State.endList_state _

/-- An item that finishes leaves the sequencer fetching or IDLE (R144). -/
theorem State.finishItem_state (s : State) (i : Nat) :
    (s.finishItem i).seq.state = .fetch ∨ (s.finishItem i).seq.state = .idle := by
  unfold State.finishItem State.goOn
  split
  · exact s.endListWith_state .budget
  · split
    · exact .inl rfl
    · exact s.endListWith_state .bad

theorem SeqState.moved {x : SeqState} (h : x = .fetch ∨ x = .idle) : x ≠ .triggerWait ∧ x ≠ .frozen := by
  rcases h with rfl | rfl <;> decide

/-- While the timer runs a period expiry is counted, and then handed to the sequencer (R21). -/
theorem exec_periodExpiry {s : State} (running : s.timer.running = true) :
    exec .periodExpiry s = .next ((periodCounted s).countWait.takeTrigger .period).settle := by
  rw [← State.countPeriod_askScan]
  exact congrArg Host.Outcome.next (if_pos running)

/-- The period expiry that ends a WAIT (R151). -/
theorem exec_periodExpiry_of_last_wait {s : State} (running : s.timer.running = true) (pause : s.seq.state = .pause)
    (last : s.seq.waitCount ≤ 1) :
    exec .periodExpiry s = .next (({ periodCounted s with seq := { s.seq with waitCount := 0 } } : State).finishItem
      (s.seq.itemIndex + 4)).settle := by
  rw [exec_periodExpiry running, (State.countWait_of_pause (s := periodCounted s) pause).2 last,
    State.takeTrigger_of_not_waiting .period (SeqState.moved (State.finishItem_state _ _)).1]
  rfl

/-- Settles O39: by the state of the sequencer, which alone the hand-on depends on. -/
theorem periodExpiry : Obligations.PeriodExpiry := by
  unfold Obligations.PeriodExpiry
  refine ⟨fun s running stands => ?_, fun s running pause more => ?_, fun s => exec_periodExpiry_of_last_wait,
    fun s running waits => ?_⟩
  · obtain ⟨notPause, notWaiting⟩ : s.seq.state ≠ .pause ∧ s.seq.state ≠ .triggerWait := by
      rcases stands with h | h | h | h | h <;> rw [h] <;> decide
    rw [exec_periodExpiry running, State.countWait_of_no_pause (s := periodCounted s) notPause,
      State.takeTrigger_of_not_waiting (s := periodCounted s) .period notWaiting]
  · have counted := (State.countWait_of_pause (s := periodCounted s) pause).1 more
    have notWaiting : (periodCounted s).countWait.seq.state ≠ .triggerWait := by
      rw [counted]
      exact fun waits => SeqState.noConfusion (pause.symm.trans waits)
    rw [exec_periodExpiry running, State.takeTrigger_of_not_waiting .period notWaiting, counted]
    rfl
  · have notPause : s.seq.state ≠ .pause := by rw [waits]; decide
    rw [exec_periodExpiry running, State.countWait_of_no_pause (s := periodCounted s) notPause]
    exact ⟨_, triggerTaken_takeTrigger .period _, rfl⟩

/-! ### The ends of a WAIT and of a REST -/

theorem State.waitEnds_iff {s : State} : s.waitEnds = true ↔ s.seq.state = .pause ∧ s.seq.waitCount ≤ 1 := by
  simp [State.waitEnds]

theorem State.restEnds_iff {s : State} : s.restEnds = true ↔ s.transfer.state = .rest ∧ s.transfer.rest ≤ 1 := by
  simp [State.restEnds]

/-- An allocation that can complete is in flight and past its counter point (R87). -/
theorem State.allocationReady_iff {s : State} :
    s.allocationReady = true ↔ ∃ al cp, s.allocator.inFlight = some al ∧ al.counter = some cp := by
  unfold State.allocationReady
  split
  next al flight => simp [flight, Option.isSome_iff_exists]
  next none_ => simp [none_]

/-- The allocation completion that ends a REST leaves the transfer converter OFF (R118). -/
theorem exec_allocationCompletion_of_last_rest {s : State} (ready : s.allocationReady = true)
    (rest : s.transfer.state = .rest) (last : s.transfer.rest ≤ 1) :
    ∃ e : State, exec .allocationCompletion s = .next e.settle ∧
      e.transfer = { s.transfer with state := .off, current := 0, rest := 0 } := by
  obtain ⟨al, cp, flight, counted⟩ := State.allocationReady_iff.mp ready
  obtain ⟨e, step, -, -, -, -, -, -, -, -, -, -, -, -, -, -, -, -, ⟨-, -, rests⟩, -⟩ :=
    allocationCompletes s al cp flight counted
  refine ⟨e, step, (rests rest).trans ?_⟩
  rw [if_pos last, Nat.sub_eq_zero_of_le last]

/-- Settles O40: each row is its event under the guard that the count ends there. -/
theorem waitsAndRestsEnd : Obligations.WaitsAndRestsEnd := by
  unfold Obligations.WaitsAndRestsEnd
  refine ⟨fun s running pause last => ?_, fun s elsewhere => ?_, fun s ready rest last => ?_, fun s elsewhere => ?_⟩
  · have same : exec .waitExpiry s = exec .periodExpiry s := by
      refine congrArg Host.Outcome.next ?_
      rw [running, State.waitEnds_iff.mpr ⟨pause, last⟩]
      rfl
    exact ⟨same, same.trans (exec_periodExpiry_of_last_wait running pause last)⟩
  · refine next_of_guard_fails _ ?_
    rw [Bool.and_eq_true, State.waitEnds_iff]
    rintro ⟨running, pause, last⟩
    rcases elsewhere with stopped | notPause | more
    · simp [stopped] at running
    · exact notPause pause
    · omega
  · obtain ⟨e, step, off⟩ := exec_allocationCompletion_of_last_rest ready rest last
    refine ⟨e, Eq.trans (congrArg Host.Outcome.next ?_) step, step, off⟩
    rw [ready, State.restEnds_iff.mpr ⟨rest, last⟩]
    rfl
  · refine next_of_guard_fails _ ?_
    rw [Bool.and_eq_true, State.restEnds_iff]
    rintro ⟨ready, rest, last⟩
    rcases elsewhere with notReady | notRest | more
    · simp [notReady] at ready
    · exact notRest rest
    · omega

end Sys2Proof.Machine
end

section
/-! PROOFS. O41, O46 and O58: the conversions of a scan and of the sequencer, and the converter's grant. -/

namespace Sys2Proof.Machine

/-! ### Readings -/

theorem isThermistor_iff {ch : Nat} : isThermistor ch = true ↔ ch = 4 ∨ ch = 5 ∨ ch = 13 := by
  simp [isThermistor, or_assoc]

/-- A conversion has the reading that the statements give it (R28). -/
theorem reading_eq_some_iff {ch : Nat} {input : Analog} {v : Int} :
    reading ch input = some v ↔ ChannelReads ch input v := by
  cases input with
  | level x => exact Option.some_inj.trans eq_comm
  | thermistorOpen | thermistorShorted =>
    unfold reading ChannelReads
    rw [← isThermistor_iff]
    cases isThermistor ch <;> simp [eq_comm]

/-! ### The conversions of a scan -/

/-- A conversion of a channel below 13 stores its reading, and the next channel follows (R24). -/
theorem exec_scanConversion_below_last {s : State} {r : ScanRecord} {input : Analog} {v : Int} (b : Bool)
    (flight : s.converter.inFlight = .scan) (scan : s.converter.scan = some r) (reads : ChannelReads r.next input v)
    (below : r.next < 13) :
    exec (.scanConversionCompletion input b) s = .next ({ s with
      converter := { s.converter with
        inFlight := .none
        scan := some { r with next := r.next + 1, readings := r.readings.store r.next v } } } : State).settle := by
  refine congrArg Host.Outcome.next ?_
  unfold State.scanConverted
  rw [flight, scan]
  dsimp only
  rw [reading_eq_some_iff.mpr reads]
  dsimp only
  unfold State.scanReading
  rw [if_neg (Nat.not_le.mpr below)]
  rfl

/-- Settles O41: by the reading of the conversion. -/
theorem scanConversionStores : Obligations.ScanConversionStores := by
  unfold Obligations.ScanConversionStores
  refine ⟨⟨fun _ _ => rfl, fun _ => ⟨rfl, rfl, rfl, rfl, rfl, rfl⟩⟩, fun s r v b flight scan below => ?_,
    fun s r b flight scan thermistor => ?_, rfl⟩
  · exact exec_scanConversion_below_last b flight scan rfl below
  · have channel : r.next = 4 ∨ r.next = 5 ∨ r.next = 13 := thermistor.imp_right .inl
    exact ⟨exec_scanConversion_below_last b flight scan ⟨channel, rfl⟩ (by omega),
      exec_scanConversion_below_last b flight scan ⟨channel, rfl⟩ (by omega)⟩

/-! ### The conversions of the sequencer -/

/-- A probe conversion hands its reading over, or is dropped at the converter (R31). -/
theorem exec_probeConversion {s : State} {ch : Nat} {dropped : Bool} {input : Analog} {v : Int}
    (flight : s.converter.inFlight = .probe ch dropped) (reads : ChannelReads ch input v) :
    exec (.probeConversionCompletion input) s =
      .next (if dropped then s.endConversion else s.endConversion.takeReading v).settle := by
  refine congrArg Host.Outcome.next ?_
  unfold State.probeConverted
  rw [flight]
  dsimp only
  rw [reading_eq_some_iff.mpr reads]

theorem State.seqFrozen_iff {s : State} : s.seqFrozen = true ↔ s.seq.state = .frozen := beq_iff_eq

/-- A reading summed (R148). -/
def State.summed (s : State) (v : Int) : State :=
  s.setSeq { s.seq with sum := s.seq.sum + v, taken := s.seq.taken + 1 }

/-- A sample that needs more sums its reading; the last one forms the result, or makes forming it the held step (R148,
R161). -/
theorem State.takeReading_of_convert {s : State} {ch n target : Nat} {g : Trigger} (v : Int)
    (convert : s.seq.effective = .convert) (item : s.seq.item = some (.sample ch n g target))
    (kept : s.seq.discard = false) :
    (s.seq.taken + 1 < n → s.takeReading v = s.summed v) ∧
      (s.seq.taken + 1 = n → s.seq.state ≠ .frozen → s.takeReading v = (s.summed v).formResult) ∧
      (s.seq.taken + 1 = n → s.seq.state = .frozen →
        s.takeReading v = (s.summed v).setSeq { (s.summed v).seq with held := some .formResult }) := by
  have taken : s.takeReading v = if s.seq.taken + 1 < n then s.summed v
      else if s.seqFrozen then (s.summed v).setSeq { (s.summed v).seq with held := some .formResult }
      else (s.summed v).formResult := by
    unfold State.takeReading
    rw [kept, convert, item]
    rfl
  rw [taken]
  refine ⟨fun more => if_pos more, fun last thawed => ?_, fun last frozen => ?_⟩
  · rw [if_neg (not_lt.mpr last.ge), if_neg (mt State.seqFrozen_iff.mp thawed)]
  · rw [if_neg (not_lt.mpr last.ge), if_pos (State.seqFrozen_iff.mpr frozen)]

theorem Sequencer.effective_of_frozen {q : Sequencer} (h : q.state = .frozen) : q.effective = q.kept := by
  unfold Sequencer.effective
  rw [h]

/-- Settles O46: by what the sequencer makes of the reading. -/
theorem probeConversionSums : Obligations.ProbeConversionSums := by
  unfold Obligations.ProbeConversionSums
  refine ⟨fun s ch n target g input x reads flight convert item kept more => ?_,
    fun s ch input x reads flight discards => ?_, fun s ch input x reads flight => exec_probeConversion flight reads,
    fun s ch n target g input x reads flight convert item kept last => ?_,
    fun s ch n target g input x reads flight frozen convert item kept last => ?_,
    fun s ch dropped input flight unread => ?_⟩
  · obtain ⟨sums, -, -⟩ := State.takeReading_of_convert (s := s.endConversion) x convert item kept
    rw [exec_probeConversion flight reads, if_neg Bool.false_ne_true, sums more]
    rfl
  · rw [exec_probeConversion flight reads, if_neg Bool.false_ne_true]
    exact congrArg (fun u : State => Host.Outcome.next u.settle) (if_pos discards)
  · have effective : s.seq.effective = .convert := by
      unfold Sequencer.effective
      rw [convert]
    have thawed : s.seq.state ≠ .frozen := by rw [convert]; decide
    obtain ⟨-, forms, -⟩ := State.takeReading_of_convert (s := s.endConversion) x effective item kept
    intro result
    rw [exec_probeConversion flight reads, if_neg Bool.false_ne_true, forms last thawed,
      State.formResult_of_sample (s := s.endConversion.summed x) item]
    rfl
  · obtain ⟨-, -, holds⟩ := State.takeReading_of_convert (s := s.endConversion) x
      ((Sequencer.effective_of_frozen frozen).trans convert) item kept
    rw [exec_probeConversion flight reads, if_neg Bool.false_ne_true, holds last frozen]
    rfl
  · have none_ : reading ch input = none :=
      Option.eq_none_iff_forall_ne_some.mpr fun v h => unread v (reading_eq_some_iff.mp h)
    refine congrArg Host.Outcome.next ?_
    unfold State.probeConverted
    rw [flight]
    dsimp only
    rw [none_]

/-! ### The converter's grant -/

/-- With a transaction under way, settling is the converter's grant alone (R170). -/
theorem State.settle_of_underWay {s : State} (busy : s.arbiter.underWay.isSome = true) : s.settle = s.convert := by
  have arbiter : s.convert.arbiter = s.arbiter := by simp
  exact if_pos (by rw [arbiter, busy])

/-- Settles O58: the cases of R30 in their order. -/
theorem converterGrantsScanFirst : Obligations.ConverterGrantsScanFirst := by
  unfold Obligations.ConverterGrantsScanFirst
  intro s busy cv
  rw [State.settle_of_underWay busy]
  unfold State.convert
  refine ⟨fun taken => if_pos taken, fun free scan => ?_, fun free noScan probe thawed => ?_,
    fun free noScan noProbe => ?_⟩
  · rw [if_neg (not_not.mpr free), if_pos scan]
  · rw [if_neg (not_not.mpr free), if_neg (Nat.not_lt.mpr noScan.le),
      if_pos ⟨probe, Bool.eq_false_iff.mpr (mt State.seqFrozen_iff.mp thawed)⟩]
  · rw [if_neg (not_not.mpr free), if_neg (Nat.not_lt.mpr noScan.le), if_neg]
    rintro ⟨probe, thawed⟩
    rcases noProbe with none_ | frozen
    · exact probe.ne' none_
    · exact Bool.eq_false_iff.mp thawed (State.seqFrozen_iff.mpr frozen)

end Sys2Proof.Machine
end

section
/-! PROOFS. A thaw that finds the transfer at rest acts on what the sequencer owns alone, and alike in two states that it
reads alike (R161). -/

namespace Sys2Proof.Machine

/-! ### What the sequencer owns, with the marks of the windows -/

/-- A cell path with the WINDOW hold of another. -/
def CellPath.withWindow (x y : CellPath) : CellPath := { x with holds := { x.holds with window := y.holds.window } }

/-- What the sequencer owns and what a firing COMPARE marks, taken from t (R120, R150). -/
def State.takeFrom (u t : State) : State :=
  State.putSeq { u with
    cells := { a := u.cells.a.withWindow t.cells.a, b := u.cells.b.withWindow t.cells.b }
    transfer := { u.transfer with windowStop := t.transfer.windowStop } } t.seqPart

theorem State.takeFrom_record (u t : State) : (u.takeFrom t).seq = t.seq := rfl

theorem State.takeFrom_self (s : State) : s.takeFrom s = s := rfl

/-- Two states that the items read alike: the settings, the values of MARK, the conditions of BRANCH and the computed
channels (R29, R152, R153), with the transfer at a REST that has just begun (R119). -/
structure SeqReadsAlike (s u : State) : Prop where
  mem : u.mem = s.mem
  count : u.timer.count = s.timer.count
  folded : u.fold.folded = s.fold.folded
  charge : ∀ c, (u.cells.get c).charge = (s.cells.get c).charge
  voltage : ∀ c, (u.cells.get c).vcell = (s.cells.get c).vcell
  bands : u.bands = s.bands
  selected : u.selector.selected = s.selector.selected
  rest : s.transfer.state = .rest ∧ s.transfer.rest = s.xrest
  restAlike : u.transfer.state = .rest ∧ u.transfer.rest = u.xrest

theorem SeqReadsAlike.refl {s : State} (rest : s.transfer.state = .rest) (begun : s.transfer.rest = s.xrest) :
    SeqReadsAlike s s := ⟨rfl, rfl, rfl, fun _ => rfl, fun _ => rfl, rfl, rfl, ⟨rest, begun⟩, ⟨rest, begun⟩⟩

theorem SeqReadsAlike.setSeq {s u : State} (h : SeqReadsAlike s u) (q : Sequencer) : SeqReadsAlike (s.setSeq q) u :=
  ⟨h.mem, h.count, h.folded, h.charge, h.voltage, h.bands, h.selected, h.rest, h.restAlike⟩

/-- An operation on the sequencer's part and the settings leaves the windows. -/
theorem SeqLocal.takeFrom {f : State → State} (h : SeqLocal f) {s u : State} (mem : u.mem = s.mem) :
    f (u.takeFrom s) = u.takeFrom (f s) := by
  have own : f s = s.putSeq (f s).seqPart := h s s rfl
  have cells : (f s).cells = s.cells := by rw [own]; rfl
  have transfer : (f s).transfer = s.transfer := by rw [own]; rfl
  unfold State.takeFrom
  rw [cells, transfer]
  exact h s _ mem

/-! ### The items -/

theorem State.beginConverting_takeFrom {s u : State} (h : SeqReadsAlike s u) :
    (u.takeFrom s).beginConverting = u.takeFrom s.beginConverting := by
  have computed : ∀ ch, (u.takeFrom s).computedChannel ch = s.computedChannel ch := fun ch => by
    have a : u.cells.a.vcell = s.cells.a.vcell := h.voltage .a
    have b : u.cells.b.vcell = s.cells.b.vcell := h.voltage .b
    unfold State.computedChannel
    rw [← a, ← b]
    rfl
  simp only [State.beginConverting, State.takeFrom_record, computed]
  split
  next ch n _ _ _ =>
    split
    · rfl
    · exact ((seqLocal_setSeq fun q => { q with sum := s.computedChannel ch * n, taken := n }).comp
        seqLocal_formResult fun _ => rfl).takeFrom h.mem
  next => rfl

/-- At a REST that has just begun a COMPARE with STOP_XFER sets the window stop alone (R119, R120). -/
theorem State.stopTransferByWindow_of_rest {s : State} (rest : s.transfer.state = .rest)
    (begun : s.transfer.rest = s.xrest) :
    s.stopTransferByWindow = s.setTransfer { s.transfer with windowStop := true } := by
  have again : s.transfer.rested s.xrest .window = s.transfer := by
    unfold Transfer.rested
    rw [rest]
    dsimp only
    rw [← begun, ← rest]
  unfold State.stopTransferByWindow
  rw [State.forceRest_eq, again]
  rfl

theorem State.compareFires_takeFrom {s u : State} (h : SeqReadsAlike s u) (n : Nat) (x : CompareAction) :
    (u.takeFrom s).compareFires n x = u.takeFrom (s.compareFires n x) := by
  cases x with
  | note | holdA | holdB => rfl
  | stopXfer =>
    have fired : ∀ v : State, v.transfer.state = .rest ∧ v.transfer.rest = v.xrest → v.compareFires n .stopXfer =
        ((v.setSeq { v.seq with flags := v.seq.flags ||| (1#8 <<< n) }).raise .window).setTransfer
          { v.transfer with windowStop := true } := fun v ⟨rest, begun⟩ =>
      State.stopTransferByWindow_of_rest
        (s := (v.setSeq { v.seq with flags := v.seq.flags ||| (1#8 <<< n) }).raise .window) rest begun
    rw [fired s h.rest, fired (u.takeFrom s) h.restAlike]
    rfl

theorem State.markValue_takeFrom {s u : State} (h : SeqReadsAlike s u) (x : MarkWhat) :
    (u.takeFrom s).markValue x = s.markValue x := by
  cases x with
  | periodCount => exact congrArg (BitVec.ofNat 16) h.count
  | foldState => exact congrArg (fun v => BitVec.ofNat 16 (bit v 0)) h.folded
  | chargeA => exact congrArg (fun v : ChargeState => BitVec.ofNat 16 v.code) (h.charge .a)
  | chargeB => exact congrArg (fun v : ChargeState => BitVec.ofNat 16 v.code) (h.charge .b)
  | transfer =>
    exact congrArg (fun v : TransferState => BitVec.ofNat 16 v.code) (h.restAlike.1.trans h.rest.1.symm)
  | last => rfl
  | bands =>
    exact congrArg (fun v : PerCell BandRecord => BitVec.ofNat 16 (bandCode v.a.index * 256 + bandCode v.b.index))
      h.bands
  | source => exact congrArg (fun v : Source => BitVec.ofNat 16 v.code) h.selected

theorem State.branchHolds_takeFrom {s u : State} (h : SeqReadsAlike s u) (x : BranchCondition) (a : Int) :
    (u.takeFrom s).branchHolds x a = s.branchHolds x a := by
  cases x with
  | lastBelow | lastAtOrAbove | flagSet | flagClear => rfl
  | folded => exact h.folded
  | unfolded => exact congrArg not h.folded
  | sourceNone => exact congrArg (· == Source.none) h.selected
  | sourceNotNone => exact congrArg (· != Source.none) h.selected

theorem seqLocal_jump (i : Nat) : SeqLocal fun s => s.jump i := by
  intro s u h
  cases slot : s.seq.slot with
  | none =>
    show (u.putSeq s.seqPart).jump i = u.putSeq (s.jump i).seqPart
    rw [(s.jump_cases i).1 slot, ((u.putSeq s.seqPart).jump_cases i).1 slot]
    exact (seqLocal_post .pass).comp (seqLocal_finishItem i) (fun s => by simp) s u h
  | some j =>
    have full : s.seq.slot.isSome = true := by rw [slot]; rfl
    show (u.putSeq s.seqPart).jump i = u.putSeq (s.jump i).seqPart
    rw [(s.jump_cases i).2 full, ((u.putSeq s.seqPart).jump_cases i).2 full]
    exact seqLocal_endListWith .pass s u h

theorem State.carryOut_takeFrom {s u : State} (h : SeqReadsAlike s u) (x : Item) :
    (u.takeFrom s).carryOut x = u.takeFrom (s.carryOut x) := by
  have counted := h.setSeq { s.seq with budget := x.budgetAfter s.seq.budget }
  generalize hv : s.setSeq { s.seq with budget := x.budgetAfter s.seq.budget } = v at counted
  have here : (u.takeFrom s).setSeq
      { (u.takeFrom s).seq with budget := x.budgetAfter (u.takeFrom s).seq.budget } = u.takeFrom v := by
    rw [← hv]
    rfl
  unfold State.carryOut
  rw [here, hv]
  cases x with
  | endItem => exact (seqLocal_endListWith .ended).takeFrom counted.mem
  | bad k => exact (seqLocal_endListWith .bad).takeFrom counted.mem
  | sample ch n g target =>
    cases g with
    | now => exact State.beginConverting_takeFrom (counted.setSeq { v.seq with sum := 0, taken := 0 })
    | period | fold | swapA | swapB => rfl
  | compare flag action low high =>
    dsimp only
    rw [State.takeFrom_record]
    split
    · rw [State.compareFires_takeFrom counted]
      exact (seqLocal_finishItem v.nextItem).takeFrom (counted.mem.trans (by simp))
    · exact (seqLocal_finishItem v.nextItem).takeFrom counted.mem
  | wait periods => rfl
  | mark what target =>
    dsimp only
    rw [State.markValue_takeFrom counted]
    exact (seqLocal_writeResult target _).takeFrom counted.mem
  | branch c a target =>
    dsimp only
    rw [State.branchHolds_takeFrom counted]
    exact (seqLocal_finishItem _).takeFrom counted.mem
  | jump target => exact (seqLocal_jump target).takeFrom counted.mem
  | setw w target => exact (seqLocal_writeSetting target w).takeFrom counted.mem

/-! ### The thaw -/

theorem State.thaw_takeFrom {s u : State} (h : SeqReadsAlike s u) : (u.takeFrom s).thaw = u.takeFrom s.thaw := by
  have back := h.setSeq { s.seq with state := s.seq.kept, held := none }
  simp only [State.thaw, State.takeFrom_record]
  split
  · split
    · split
      · exact State.carryOut_takeFrom back _
      · rfl
    · exact (seqLocal_finishItem _).takeFrom back.mem
    · exact seqLocal_formResult.takeFrom back.mem
    · exact seqLocal_startList.takeFrom back.mem
    · rfl
  · rfl

/-- A thaw at a REST that has just begun leaves all but what the sequencer owns and the marks of the windows. -/
theorem State.thaw_eq_takeFrom {s : State} (rest : s.transfer.state = .rest) (begun : s.transfer.rest = s.xrest) :
    s.thaw = s.takeFrom s.thaw := State.thaw_takeFrom (.refl rest begun)

/-- What a thaw does, in the words of the statements (R161). -/
theorem thawsTo_thaw (s : State) : ThawsTo s s.thaw := by
  unfold ThawsTo
  refine ⟨fun awake => ?_, fun frozen => ⟨fun item held fetched => ?_, fun i held => ?_,
    fun ch n g target held item => ?_, fun i held kept slot => ?_, fun held idle => ?_⟩⟩
  · unfold State.thaw
    split
    next frozen => exact absurd frozen awake
    next => rfl
  all_goals
    unfold State.thaw
    rw [frozen]
    dsimp only
    rw [held]
  · cases s
    cases ‹Sequencer›
    cases fetched
    rfl
  · rfl
  · exact State.formResult_of_sample (s := s.setSeq { s.seq with state := s.seq.kept, held := none }) item
  · cases s
    cases ‹Sequencer›
    cases kept
    cases slot
    rfl
  · split
    next h => exact absurd h nofun
    next h => exact absurd h nofun
    next h => exact absurd h nofun
    next kept =>
      have empty : s.seq.slot = none := idle.resolve_left (not_not.mpr kept)
      cases s
      cases ‹Sequencer›
      cases kept
      cases empty
      rfl
    next => rfl

/-! ### Only a freezing freezes -/

theorem State.writeResult_awake (s : State) (target : Nat) (v : Word) :
    (s.writeResult target v).seq.state ≠ .frozen := by
  unfold State.writeResult
  split
  · exact nofun
  · exact (SeqState.moved (State.finishItem_state _ _)).2

theorem State.formResult_awake {s : State} (h : s.seq.state ≠ .frozen) : s.formResult.seq.state ≠ .frozen := by
  unfold State.formResult
  split
  · exact State.writeResult_awake _ _ _
  · exact h

theorem State.beginConverting_awake {s : State} (h : s.seq.state ≠ .frozen) : s.beginConverting.seq.state ≠ .frozen := by
  unfold State.beginConverting
  split
  · split
    · exact nofun
    · exact State.formResult_awake h
  · exact h

theorem State.takeTrigger_awake {s : State} (g : Trigger) (h : s.seq.state ≠ .frozen) :
    (s.takeTrigger g).seq.state ≠ .frozen := by
  unfold State.takeTrigger
  split
  · split
    · exact State.beginConverting_awake h
    · exact h
  · exact h

theorem State.takeTrigger_of_frozen {s : State} (g : Trigger) (h : s.seq.state = .frozen) : s.takeTrigger g = s :=
  State.takeTrigger_of_not_waiting g (by rw [h]; decide)

theorem State.carryOut_awake {s : State} (x : Item) (h : s.seq.state ≠ .frozen) : (s.carryOut x).seq.state ≠ .frozen := by
  unfold State.carryOut
  cases x with
  | endItem | bad => exact (SeqState.moved (State.endListWith_state _ _)).2
  | sample ch n g target =>
    cases g with
    | now => exact State.beginConverting_awake h
    | period | fold | swapA | swapB => exact nofun
  | compare | branch => exact (SeqState.moved (State.finishItem_state _ _)).2
  | wait periods => exact nofun
  | mark what target => exact State.writeResult_awake _ _ _
  | jump target =>
    dsimp only
    unfold State.jump
    dsimp only
    split
    · exact (SeqState.moved (State.endList_state _)).2
    · exact (SeqState.moved (State.finishItem_state _ _)).2
  | setw w target =>
    dsimp only
    unfold State.writeSetting
    split
    · exact nofun
    · exact (SeqState.moved (State.finishItem_state _ _)).2

theorem State.thaw_awake {s : State} (kept : s.seq.kept ≠ .frozen) : s.thaw.seq.state ≠ .frozen := by
  unfold State.thaw
  split
  · dsimp only
    split
    · split
      · exact State.carryOut_awake _ kept
      · exact kept
    · exact (SeqState.moved (State.finishItem_state _ _)).2
    · exact State.formResult_awake kept
    · unfold State.startList
      split <;> exact nofun
    · exact kept
  next awake => exact awake

end Sys2Proof.Machine
end

section
/-! PROOFS. The band unit at a scan completion (R50 to R56). -/

namespace Sys2Proof.Machine

/-- The record of a cell's band at a T_eff, from the band it held (R49, R50, R53). -/
def State.bandRecord (s : State) (held : Option Nat) (teff : Int) : BandRecord :=
  let entry := s.bandEntry (nextBand s.uppers held teff)
  { index := some (nextBand s.uppers held teff), teff := teff, derate := entry.derate, vcapDrop := entry.vcapDrop,
    allow := entry.allow }

theorem State.bandRecord_of_mem {s u : State} (mem : u.mem = s.mem) (held : Option Nat) (teff : Int) :
    u.bandRecord held teff = s.bandRecord held teff := by
  simp only [State.bandRecord, State.uppers, State.bandEntry, State.setting, State.readWord, mem]

theorem State.bandRecord_copies (s : State) (held : Option Nat) (teff : Int) :
    let y := s.bandRecord held teff
    ∀ i, y.index = some i →
      y.derate = min 256 (s.readWord (0x0C0 + 4 * i + 1)).toNat ∧
      y.vcapDrop = min 400 (s.readWord (0x0C0 + 4 * i + 2)).toNat ∧
      (let w := s.readWord (0x0C0 + 4 * i + 3);
        y.allow = { c := w.getLsbD 0, s := w.getLsbD 1, i := w.getLsbD 2, o := w.getLsbD 3 }) := by
  intro y i found
  obtain rfl := Option.some.inj found
  have clamped : ∀ hi x, clampNat 0 hi x = min hi x := fun hi x => congrArg (min hi) (Nat.zero_max x)
  exact ⟨clamped _ _, clamped _ _, rfl⟩

/-- The record that a cell's lookup writes. -/
def State.lookedUp (s : State) (r : Readings) (c : CellId) : BandRecord :=
  s.bandRecord (s.bands.get c).index (s.effectiveTemperature (r.temperature c))

theorem isBandChange_iff {held : Option Nat} {now : Nat} :
    isBandChange held now = true ↔ ∃ i, held = some i ∧ some now ≠ some i := by
  cases held with
  | none => simp [isBandChange]
  | some i =>
    refine bne_iff_ne.trans ⟨fun other => ⟨i, rfl, fun same => other (Option.some.inj same).symm⟩, ?_⟩
    rintro ⟨j, held, other⟩ rfl
    exact other held

/-- A cell's lookup writes its record and its BAND hold, and raises BAND at a change (R50, R54, R56). -/
theorem State.lookupBand_eq (s : State) (r : Readings) (c : CellId) : s.lookupBand r c = { s with
    bands := s.bands.set c (s.lookedUp r c)
    cells := s.cells.set c { s.cell c with
      holds := { (s.cell c).holds with band := !(s.lookedUp r c).allow.c } }
    notices := { s.notices with sticky := { s.notices.sticky with
      band := s.notices.sticky.band || isBandChange (s.bands.get c).index
        (nextBand s.uppers (s.bands.get c).index (s.effectiveTemperature (r.temperature c))) } } } := by
  unfold State.lookupBand
  dsimp only
  cases changed : isBandChange (s.bands.get c).index
    (nextBand s.uppers (s.bands.get c).index (s.effectiveTemperature (r.temperature c))) with
  | true =>
    rw [Bool.or_true]
    rfl
  | false =>
    rw [Bool.or_false]
    rfl

/-- Both lookups, each of its own cell. -/
theorem State.lookupBands_cell (s : State) (r : Readings) (c : CellId) :
    let t := (s.lookupBand r .a).lookupBand r .b
    t.bands.get c = s.lookedUp r c ∧
      t.cells.get c = { s.cells.get c with
        holds := { (s.cells.get c).holds with band := !(s.lookedUp r c).allow.c } } := by
  intro t
  have both : t = (s.lookupBand r .a).lookupBand r .b := rfl
  rw [State.lookupBand_eq, State.lookupBand_eq] at both
  rw [both]
  cases c with
  | a => exact ⟨rfl, rfl⟩
  | b => exact ⟨rfl, rfl⟩

/-- BAND is raised at a change of a cell from one band to another, and by nothing else of the lookups (R56). -/
theorem State.lookupBands_sticky (s : State) (r : Readings) :
    ((s.lookupBand r .a).lookupBand r .b).notices.sticky.band = true ↔ s.notices.sticky.band = true ∨
      ∃ c i, (s.bands.get c).index = some i ∧ (s.lookedUp r c).index ≠ some i := by
  have raised : ((s.lookupBand r .a).lookupBand r .b).notices.sticky.band = ((s.notices.sticky.band ||
      isBandChange (s.bands.get .a).index
        (nextBand s.uppers (s.bands.get .a).index (s.effectiveTemperature (r.temperature .a)))) ||
      isBandChange (s.bands.get .b).index
        (nextBand s.uppers (s.bands.get .b).index (s.effectiveTemperature (r.temperature .b)))) := by
    rw [State.lookupBand_eq, State.lookupBand_eq]
    rfl
  rw [raised, Bool.or_eq_true, Bool.or_eq_true, isBandChange_iff, isBandChange_iff, or_assoc]
  refine or_congr Iff.rfl ⟨?_, ?_⟩
  · rintro (⟨i, h⟩ | ⟨i, h⟩)
    · exact ⟨.a, i, h⟩
    · exact ⟨.b, i, h⟩
  · rintro ⟨c, i, h⟩
    cases c with
    | a => exact .inl ⟨i, h⟩
    | b => exact .inr ⟨i, h⟩

end Sys2Proof.Machine
end

section
/-! PROOFS. The entry to QUIET, and the exit from HEAT: the cell paths, the band indices and the sequencer (R182 to
R184). -/

namespace Sys2Proof.Machine

/-- An entry to QUIET in the words of the statements (R182). -/
theorem State.enterQuiet_eq (s : State) : s.enterQuiet = { s with
    control := { s.control with state := .quiet }
    cells := quietHolds s s.cells
    seq := quietFreezes s } := by
  have held : (if (s.setPartState .quiet).qpolCharge = .stopEffective then (s.setPartState .quiet).putHoldBoth .quiet true
      else s.setPartState .quiet) =
        { s with control := { s.control with state := .quiet }, cells := quietHolds s s.cells } := by
    unfold quietHolds
    by_cases stop : s.qpolCharge = .stopEffective
    · rw [if_pos stop]
      exact if_pos stop
    · rw [if_neg stop]
      exact if_neg stop
  unfold State.enterQuiet
  dsimp only
  rw [held]
  unfold quietFreezes
  by_cases stop : s.qpolProbe = .stopEffective
  · refine (if_pos stop).trans ?_
    unfold State.freeze
    split
    next frozen => rw [if_neg fun h => h.2 frozen]
    next awake => rw [if_pos ⟨stop, awake⟩]; rfl
  · rw [if_neg (c := s.qpolProbe = .stopEffective ∧ s.seq.state ≠ .frozen) fun h => stop h.1]
    exact if_neg stop

/-! ### The closing of the paths -/

/-- The exit from HEAT to a part state, before the entry to QUIET or the wake (R121, R184). -/
def State.heatClosed (s : State) (p : PartState) : State :=
  (((((s.setPartState p).putHoldBoth .heat false).closePath .a).closePath .b).restAfterHeat).raise .heat

theorem State.exitHeat_eq (s : State) :
    s.exitHeat = if s.control.qreq then (s.heatClosed .quiet).enterQuiet
      else (s.heatClosed .run).wake s.quietStands := by
  unfold State.exitHeat
  cases s.control.qreq with
  | true =>
    simp only [if_true]
    rfl
  | false =>
    simp only [Bool.false_eq_true, if_false]
    rfl

/-- In RUN and QUIET outside start-up a trip alone keeps a path open (R7). -/
theorem State.openingStands_of_calm {s : State} (started : s.control.startup = false)
    (calm : s.control.state = .run ∨ s.control.state = .quiet) (c : CellId) :
    s.openingStands c = ((s.cell c).charge == .tripped) := by
  unfold State.openingStands
  rw [started, Bool.false_and, Bool.or_false]
  cases (s.cell c).charge == .tripped with
  | true => rfl
  | false => rcases calm with h | h <;> rw [h] <;> rfl

/-- A closing where a trip alone keeps a path open. -/
theorem State.closePath_of_calm {s : State} (started : s.control.startup = false)
    (calm : s.control.state = .run ∨ s.control.state = .quiet) (c d : CellId) :
    (s.closePath c).cells.get d = if d = c then
      { s.cells.get d with pathOpen := (s.cells.get d).charge == .tripped && (s.cells.get d).pathOpen }
      else s.cells.get d := by
  rw [State.get_closePath, State.openingStands_of_calm started calm]
  by_cases same : d = c
  · subst same
    cases tripped : ((s.cell d).charge == .tripped) with
    | true =>
      rw [if_neg fun h => Bool.noConfusion h.2, if_pos rfl]
      rw [show ((s.cells.get d).charge == .tripped) = true from tripped, Bool.true_and]
    | false =>
      rw [if_pos ⟨rfl, rfl⟩, if_pos rfl]
      rw [show ((s.cells.get d).charge == .tripped) = false from tripped, Bool.false_and]
      rfl
  · rw [if_neg fun h => same h.1, if_neg same]

/-- At the exit from HEAT both paths close but of a TRIPPED cell, and the HEAT holds are cleared (R184). -/
theorem State.heatClosed_cell {s : State} (started : s.control.startup = false) {p : PartState}
    (calm : p = .run ∨ p = .quiet) (c : CellId) :
    (s.heatClosed p).cells.get c = { s.cells.get c with
      pathOpen := (s.cells.get c).charge == .tripped && (s.cells.get c).pathOpen
      holds := { (s.cells.get c).holds with heat := false } } := by
  have cells : (s.heatClosed p).cells =
      ((((s.setPartState p).putHoldBoth .heat false).closePath .a).closePath .b).cells := by
    simp [State.heatClosed]
  have first := State.closePath_of_calm (s := (s.setPartState p).putHoldBoth .heat false) started calm .a
  have second := State.closePath_of_calm (s := ((s.setPartState p).putHoldBoth .heat false).closePath .a)
    (by simp [State.setPartState, started]) (by simp [State.setPartState, calm]) .b
  rw [cells, second c, first c, State.get_putHoldBoth]
  cases c with
  | a => rfl
  | b => rfl

theorem State.heatClosed_frame (s : State) (p : PartState) :
    (s.heatClosed p).fold = s.fold ∧ (s.heatClosed p).timer = s.timer ∧ (s.heatClosed p).bands = s.bands ∧
      (s.heatClosed p).selector = s.selector ∧ (s.heatClosed p).mem = s.mem ∧
      (s.heatClosed p).converter = s.converter ∧ (s.heatClosed p).arbiter = s.arbiter ∧
      (s.heatClosed p).seq = s.seq ∧
      (s.heatClosed p).notices = { s.notices with sticky := { s.notices.sticky with heat := true } } := by
  unfold State.heatClosed
  refine ⟨by simp, by simp, by simp, by simp, by simp, by simp, by simp, by simp, ?_⟩
  simp only [State.raise_fields, State.restAfterHeat_frame, State.closePath_frame, State.putHoldBoth_frame,
    State.setPartState_frame]
  rfl

/-- The transfer rests from the exit on (R121). -/
theorem State.heatClosed_transfer (s : State) (p : PartState) :
    (s.heatClosed p).transfer = { s.transfer with state := .rest, current := 0, rest := s.xrest } := by
  unfold State.heatClosed State.restAfterHeat
  simp only [State.raise_fields, State.setTransfer_fields, State.closePath_frame, State.putHoldBoth_frame,
    State.setPartState_frame]
  rw [State.xrest_of_mem (s := s) (by simp)]

/-! ### The wake -/

/-- The state that a thaw at the exit from HEAT to RUN finds. -/
def State.heatLeft (s : State) : State := ((s.heatClosed .run).setPartState .run).putHoldBoth .quiet false

theorem State.heatLeft_rest (s : State) :
    s.heatLeft.transfer.state = .rest ∧ s.heatLeft.transfer.rest = s.heatLeft.xrest := by
  have transfer : s.heatLeft.transfer = (s.heatClosed .run).transfer := by simp [State.heatLeft]
  have length : s.heatLeft.xrest = s.xrest := State.xrest_of_mem (by simp [State.heatLeft, s.heatClosed_frame])
  rw [transfer, s.heatClosed_transfer, length]
  exact ⟨rfl, rfl⟩

/-- A wake with its WAKE_FRESH step, or the thaw alone (R183, R184). -/
theorem State.exitHeat_of_wake {s : State} (low : s.control.qreq = false) :
    s.exitHeat = if s.quietStands then s.heatLeft.thaw.wakeFreshStep else s.heatLeft.thaw := by
  rw [State.exitHeat_eq, low]
  rfl

/-- The exit from HEAT is a wake that takes the WAKE_FRESH step (R183, R184). -/
def State.wakesFresh (s : State) : Bool := !s.control.qreq && s.quietStands && decide (s.wakeFresh = 1)

theorem State.wakeFreshStep_cell (s : State) (c : CellId) :
    s.wakeFreshStep.cells.get c =
        { s.cells.get c with renewal := (s.cells.get c).renewal || decide (s.wakeFresh = 1) } ∧
      s.wakeFreshStep.bands.get c =
        { s.bands.get c with index := if s.wakeFresh = 1 then none else (s.bands.get c).index } := by
  unfold State.wakeFreshStep
  by_cases fresh : s.wakeFresh = 1
  · rw [if_pos fresh, if_pos fresh, decide_eq_true fresh, Bool.or_true]
    cases c with
    | a => exact ⟨rfl, rfl⟩
    | b => exact ⟨rfl, rfl⟩
  · rw [if_neg fresh, if_neg fresh, decide_eq_false fresh, Bool.or_false]
    exact ⟨rfl, rfl⟩

theorem State.heatLeft_mem (s : State) : s.heatLeft.thaw.mem = s.mem := by
  simp [State.heatLeft, s.heatClosed_frame]

/-- The band indices after the exit from HEAT (R61, R183). -/
theorem State.exitHeat_bands (s : State) (c : CellId) :
    (s.exitHeat.bands.get c).index = if s.wakesFresh then none else (s.bands.get c).index := by
  have fresh : s.heatLeft.thaw.wakeFresh = s.wakeFresh := State.setting_of_mem s.heatLeft_mem _ _ _
  have thawed : s.heatLeft.thaw.bands = s.bands := by simp [State.heatLeft, s.heatClosed_frame]
  unfold State.wakesFresh
  cases qreq : s.control.qreq with
  | true =>
    rw [State.exitHeat_eq, if_pos qreq]
    simp [s.heatClosed_frame]
  | false =>
    rw [State.exitHeat_of_wake qreq]
    cases stands : s.quietStands with
    | true =>
      rw [if_pos rfl, (State.wakeFreshStep_cell _ c).2, thawed, fresh]
      simp
    | false =>
      rw [if_neg Bool.false_ne_true, thawed]
      rfl

theorem State.thaw_cell {s : State} (rest : s.transfer.state = .rest) (begun : s.transfer.rest = s.xrest) (c : CellId) :
    s.thaw.cells.get c = (s.cells.get c).withWindow (s.thaw.cells.get c) := by
  have cells := congrArg (fun u : State => u.cells.get c) (State.thaw_eq_takeFrom rest begun)
  refine cells.trans ?_
  cases c with
  | a => rfl
  | b => rfl

/-- A cell path after the exit from HEAT (R184): its WINDOW hold is as the sequencer leaves it. -/
theorem State.exitHeat_cell {s : State} (started : s.control.startup = false) (c : CellId) :
    let x := s.cells.get c
    s.exitHeat.cells.get c = { x with
      pathOpen := x.charge == .tripped && x.pathOpen
      renewal := x.renewal || s.wakesFresh
      holds :=
        { band := x.holds.band
          window := (s.exitHeat.cells.get c).holds.window
          quiet := s.control.qreq && (x.holds.quiet || decide (s.qpolCharge = .stopEffective))
          heat := false } } := by
  intro x
  unfold State.wakesFresh
  cases qreq : s.control.qreq with
  | true =>
    have closed := s.heatClosed_cell started (.inr rfl) c
    have policy : (s.heatClosed .quiet).qpolCharge = s.qpolCharge :=
      congrArg quietPolicyOf (State.setting_of_mem (by simp [s.heatClosed_frame]) _ _ _)
    have held : s.exitHeat.cells.get c = { (s.heatClosed .quiet).cells.get c with
        holds := { ((s.heatClosed .quiet).cells.get c).holds with
          quiet := ((s.heatClosed .quiet).cells.get c).holds.quiet || decide (s.qpolCharge = .stopEffective) } } := by
      rw [State.exitHeat_eq, if_pos qreq, State.enterQuiet_eq]
      unfold quietHolds
      rw [policy]
      by_cases stop : s.qpolCharge = .stopEffective
      · rw [if_pos stop, decide_eq_true stop, Bool.or_true]
        cases c with
        | a => rfl
        | b => rfl
      · rw [if_neg stop, decide_eq_false stop, Bool.or_false]
    rw [held, closed, Bool.true_and, Bool.not_true, Bool.false_and, Bool.false_and, Bool.or_false]
  | false =>
    have closed := s.heatClosed_cell started (.inl rfl) c
    have found : s.heatLeft.cells.get c =
        { x with pathOpen := x.charge == .tripped && x.pathOpen,
                 holds := { x.holds with heat := false, quiet := false } } := by
      refine (State.get_putHoldBoth ((s.heatClosed .run).setPartState .run) .quiet false c).trans ?_
      rw [show ((s.heatClosed .run).setPartState .run).cells = (s.heatClosed .run).cells from rfl, closed]
      rfl
    have thawed := State.thaw_cell s.heatLeft_rest.1 s.heatLeft_rest.2 c
    have fresh : s.heatLeft.thaw.wakeFresh = s.wakeFresh := State.setting_of_mem s.heatLeft_mem _ _ _
    rw [found] at thawed
    rw [State.exitHeat_of_wake qreq, Bool.false_and, Bool.not_false, Bool.true_and]
    cases stands : s.quietStands with
    | true =>
      rw [if_pos rfl, (State.wakeFreshStep_cell _ c).1, thawed, fresh, Bool.true_and]
      rfl
    | false =>
      rw [if_neg Bool.false_ne_true, Bool.false_and, Bool.or_false]
      exact thawed

end Sys2Proof.Machine
end

section
/-! PROOFS. The FOLD trigger and the HEAT test on the bands, the cell paths, the notices and the sequencer (R147, R184). -/

namespace Sys2Proof.Machine

/-! ### The FOLD trigger leaves what the exit from HEAT reads -/

theorem State.foldTriggered_frame (s : State) (changed : Bool) :
    (s.foldTriggered changed).cells = s.cells ∧ (s.foldTriggered changed).bands = s.bands ∧
      (s.foldTriggered changed).mem = s.mem ∧ (s.foldTriggered changed).control = s.control := by
  unfold State.foldTriggered
  split <;> simp

theorem State.takeTrigger_frozen (s : State) (g : Trigger) :
    (s.takeTrigger g).seq.state = .frozen ↔ s.seq.state = .frozen := by
  refine ⟨fun h => ?_, fun h => ?_⟩
  · by_contra awake
    exact State.takeTrigger_awake g awake h
  · rw [State.takeTrigger_of_frozen g h, h]

theorem State.foldTriggered_frozen (s : State) (changed : Bool) :
    (s.foldTriggered changed).seq.state = .frozen ↔ s.seq.state = .frozen := by
  unfold State.foldTriggered
  split
  · exact s.takeTrigger_frozen .fold
  · exact Iff.rfl

theorem State.foldTriggered_of_frozen {s : State} (changed : Bool) (h : s.seq.state = .frozen) :
    s.foldTriggered changed = s := by
  unfold State.foldTriggered
  split
  · exact State.takeTrigger_of_frozen .fold h
  · rfl

theorem State.wakesFresh_foldTriggered (s : State) (changed : Bool) :
    (s.foldTriggered changed).wakesFresh = s.wakesFresh := by
  obtain ⟨cells, -, mem, control⟩ := s.foldTriggered_frame changed
  have frozen : (s.foldTriggered changed).seqFrozen = s.seqFrozen := by
    rw [Bool.eq_iff_iff, State.seqFrozen_iff, State.seqFrozen_iff]
    exact s.foldTriggered_frozen changed
  have fresh : (s.foldTriggered changed).wakeFresh = s.wakeFresh := State.setting_of_mem mem _ _ _
  unfold State.wakesFresh State.quietStands
  rw [cells, control, frozen, fresh]

/-! ### The exit from HEAT, before or after the trigger -/

/-- The part of the exit from HEAT in the bands and the cell paths is one, with the trigger before it or after it. -/
theorem State.triggerAndHeat_exits {s : State} (changed : Bool) {t : Int} (exit : s.heatExitDue t = true) :
    ∃ v : State, v.cells = s.cells ∧ v.bands = s.bands ∧ v.mem = s.mem ∧ v.control = s.control ∧
      v.wakesFresh = s.wakesFresh ∧ (s.triggerAndHeat changed t).cells = v.exitHeat.cells ∧
      (s.triggerAndHeat changed t).bands = v.exitHeat.bands := by
  obtain ⟨-, stays, -⟩ | ⟨entry, -⟩ | ⟨-, eq | eq⟩ := s.triggerAndHeat_cases changed t
  · rw [stays] at exit
    cases exit
  · rw [State.heatEntryDue_of_exit exit] at entry
    cases entry
  · obtain ⟨cells, bands, mem, control⟩ := s.foldTriggered_frame changed
    exact ⟨s.foldTriggered changed, cells, bands, mem, control, s.wakesFresh_foldTriggered changed, by rw [eq], by rw [eq]⟩
  · exact ⟨s, rfl, rfl, rfl, rfl, rfl, by rw [eq]; simp, by rw [eq]; simp⟩

/-- A wake that takes the WAKE_FRESH step, and nothing else here, returns the band indices to none (R61). -/
theorem State.triggerAndHeat_bands (s : State) (changed : Bool) (t : Int) (c : CellId) :
    ((s.triggerAndHeat changed t).bands.get c).index =
      if s.heatExitDue t && s.wakesFresh then none else (s.bands.get c).index := by
  have triggered : (s.foldTriggered changed).bands = s.bands := (s.foldTriggered_frame changed).2.1
  cases exit : s.heatExitDue t with
  | true =>
    obtain ⟨v, -, bands, -, -, fresh, -, left⟩ := State.triggerAndHeat_exits changed exit
    rw [left, v.exitHeat_bands, bands, fresh, Bool.true_and]
  | false =>
    obtain ⟨-, -, eq⟩ | ⟨-, eq⟩ | ⟨due, -⟩ := s.triggerAndHeat_cases changed t
    · rw [eq, triggered]
      rfl
    · have entered : (s.foldTriggered changed).enterHeat.bands = s.bands := by simp [triggered]
      rw [eq, entered]
      rfl
    · rw [exit] at due
      cases due

/-- A cell path where the part leaves HEAT (R184). -/
theorem State.triggerAndHeat_cell_of_exit {s : State} (changed : Bool) {t : Int} (exit : s.heatExitDue t = true)
    (started : s.control.startup = false) (c : CellId) :
    let x := s.cells.get c
    let y := (s.triggerAndHeat changed t).cells.get c
    y.pathOpen = (x.charge == .tripped && x.pathOpen) ∧ y.renewal = (x.renewal || s.wakesFresh) ∧
      y.holds.heat = false ∧
      y.holds.quiet = (s.control.qreq && (x.holds.quiet || decide (s.qpolCharge = .stopEffective))) := by
  intro x y
  obtain ⟨v, cells, -, mem, control, fresh, left, -⟩ := State.triggerAndHeat_exits changed exit
  have policy : v.qpolCharge = s.qpolCharge := congrArg quietPolicyOf (State.setting_of_mem mem _ _ _)
  have path := v.exitHeat_cell (by rw [control, started]) c
  rw [← left, cells, control, fresh, policy] at path
  refine ⟨?_, ?_, ?_, ?_⟩ <;> rw [show y = _ from path]

/-- A cell path where the part enters HEAT (R184). -/
theorem State.triggerAndHeat_cell_of_entry {s : State} (changed : Bool) {t : Int} (entry : s.heatEntryDue t = true)
    (c : CellId) :
    (s.triggerAndHeat changed t).cells.get c = { s.cells.get c with
      pathOpen := true, setPoint := 0, holds := { (s.cells.get c).holds with heat := true } } := by
  have triggered := s.foldTriggered_cells changed
  obtain ⟨none_, -⟩ | ⟨-, eq⟩ | ⟨exit, -⟩ := s.triggerAndHeat_cases changed t
  · rw [none_] at entry
    cases entry
  · rw [eq, ← triggered]
    cases c with
    | a => rfl
    | b => rfl
  · rw [State.heatEntryDue_of_exit exit] at entry
    cases entry

theorem State.triggerAndHeat_cells_of_neither {s : State} (changed : Bool) {t : Int} (entry : s.heatEntryDue t = false)
    (exit : s.heatExitDue t = false) : (s.triggerAndHeat changed t).cells = s.cells := by
  obtain ⟨-, -, eq⟩ | ⟨due, -⟩ | ⟨due, -⟩ := s.triggerAndHeat_cases changed t
  · rw [eq, s.foldTriggered_cells]
  · rw [entry] at due
    cases due
  · rw [exit] at due
    cases due

/-! ### HEAT -/

theorem SeqActs.heat {s t : State} (h : SeqActs s t) : t.notices.sticky.heat = s.notices.sticky.heat := by
  unfold SeqActs at h
  rw [h]
  rfl

theorem State.foldTriggered_heat (s : State) (changed : Bool) :
    (s.foldTriggered changed).notices.sticky.heat = s.notices.sticky.heat := by
  unfold State.foldTriggered
  split
  · exact (SeqActs.takeTrigger s .fold).heat
  · rfl

theorem State.exitHeat_heat (s : State) : s.exitHeat.notices.sticky.heat = true := by
  have raised : ∀ p, (s.heatClosed p).notices.sticky.heat = true := fun p => rfl
  cases qreq : s.control.qreq with
  | true =>
    rw [State.exitHeat_eq, if_pos qreq]
    simp [raised]
  | false =>
    have left : s.heatLeft.notices.sticky.heat = true := by
      have notices : s.heatLeft.notices = (s.heatClosed .run).notices := by simp [State.heatLeft]
      rw [notices, raised]
    have thawed := (SeqActs.thaw s.heatLeft).heat.trans left
    rw [State.exitHeat_of_wake qreq]
    split
    · simpa using thawed
    · exact thawed

/-- HEAT is raised at the entry to HEAT and at the exit, and at nothing else here (R184). -/
theorem State.triggerAndHeat_heat (s : State) (changed : Bool) (t : Int) :
    (s.triggerAndHeat changed t).notices.sticky.heat =
      (s.notices.sticky.heat || s.heatEntryDue t || s.heatExitDue t) := by
  have triggered := s.foldTriggered_heat changed
  obtain ⟨entry, exit, eq⟩ | ⟨entry, eq⟩ | ⟨exit, eq⟩ := s.triggerAndHeat_cases changed t
  · rw [entry, exit, eq, triggered, Bool.or_false, Bool.or_false]
  · rw [entry, eq, Bool.or_true, Bool.true_or]
    rfl
  · rw [exit, Bool.or_true]
    obtain eq | eq := eq <;> rw [eq]
    · exact State.exitHeat_heat _
    · exact (SeqActs.takeTrigger _ _).heat.trans (State.exitHeat_heat s)

/-! ### The sequencer at the exit from HEAT -/

theorem quietFreezes_state {s : State} (stop : s.qpolProbe = .stopEffective) : (quietFreezes s).state = .frozen := by
  unfold quietFreezes
  split
  next => rfl
  next standing =>
    by_contra awake
    exact standing ⟨stop, awake⟩

theorem State.heatClosed_quietFreezes (s : State) (p : PartState) : quietFreezes (s.heatClosed p) = quietFreezes s := by
  obtain ⟨-, -, -, -, mem, -, -, seq, -⟩ := s.heatClosed_frame p
  have policy : (s.heatClosed p).qpolProbe = s.qpolProbe := congrArg quietPolicyOf (State.setting_of_mem mem _ _ _)
  unfold quietFreezes
  rw [policy, seq]

/-- With QREQ high the exit freezes the sequencer as the policy has it, and lets it ask for nothing (R182, R184). -/
theorem State.exitHeat_seqPart_of_quiet {s : State} (high : s.control.qreq = true) :
    s.exitHeat.seqPart = { s.seqPart with seq := quietFreezes s } := by
  obtain ⟨-, -, -, -, -, converter, arbiter, -, notices⟩ := s.heatClosed_frame .quiet
  rw [State.exitHeat_eq, if_pos high, State.enterQuiet_eq, State.heatClosed_quietFreezes]
  unfold State.seqPart
  dsimp only
  rw [converter, arbiter, notices]

theorem State.exitHeat_windowStop_of_quiet {s : State} (high : s.control.qreq = true) :
    s.exitHeat.transfer.windowStop = s.transfer.windowStop := by
  rw [State.exitHeat_eq, if_pos high, State.enterQuiet_eq]
  dsimp only
  rw [State.heatClosed_transfer]

theorem State.exitHeat_window_of_quiet {s : State} (high : s.control.qreq = true) (started : s.control.startup = false)
    (c : CellId) : (s.exitHeat.cells.get c).holds.window = (s.cells.get c).holds.window := by
  have closed := s.heatClosed_cell started (.inr rfl) c
  have held : (s.exitHeat.cells.get c).holds.window = ((s.heatClosed .quiet).cells.get c).holds.window := by
    rw [State.exitHeat_eq, if_pos high, State.enterQuiet_eq]
    unfold quietHolds
    split
    · cases c with
      | a => rfl
      | b => rfl
    · rfl
  rw [held, closed]

/-- With QREQ low the exit leaves of what the sequencer owns what the thaw leaves (R183, R184). -/
theorem State.exitHeat_owned_of_wake {s : State} (low : s.control.qreq = false) :
    s.exitHeat.seqPart = s.heatLeft.thaw.seqPart ∧
      s.exitHeat.transfer.windowStop = s.heatLeft.thaw.transfer.windowStop ∧
      ∀ c, (s.exitHeat.cells.get c).holds.window = (s.heatLeft.thaw.cells.get c).holds.window := by
  rw [State.exitHeat_of_wake low]
  split
  · refine ⟨?_, by simp, fun c => by rw [(State.wakeFreshStep_cell _ c).1]⟩
    exact State.seqPart_eq (by simp) (by simp) (by simp) (by simp) (by simp) (by simp)
  · exact ⟨rfl, rfl, fun _ => rfl⟩

theorem State.heatLeft_seq (s : State) : s.heatLeft.seq = s.seq := by
  simp [State.heatLeft, s.heatClosed_frame]

/-- The freezing and the thaw of an exit from HEAT, with a FOLD trigger before it or after it. -/
theorem State.triggerAndHeat_seq_of_exit {s : State} (changed : Bool) {t : Int} (exit : s.heatExitDue t = true) :
    (s.control.qreq = true → s.qpolProbe = .stopEffective →
      (s.triggerAndHeat changed t).seq.state = .frozen) ∧
    (s.control.qreq = false → s.seq.state = .frozen → s.seq.kept ≠ .frozen →
      (s.triggerAndHeat changed t).seq.state ≠ .frozen) := by
  have freezes : ∀ v : State, v.control.qreq = true → v.qpolProbe = .stopEffective →
      v.exitHeat.seq.state = .frozen := fun v high stop => by
    have seq : v.exitHeat.seq = quietFreezes v := congrArg SeqPart.seq (State.exitHeat_seqPart_of_quiet high)
    rw [seq, quietFreezes_state stop]
  have thaws : s.control.qreq = false → s.seq.kept ≠ .frozen → s.exitHeat.seq.state ≠ .frozen := fun low kept => by
    have seq : s.exitHeat.seq = s.heatLeft.thaw.seq := congrArg SeqPart.seq (State.exitHeat_owned_of_wake low).1
    rw [seq]
    exact State.thaw_awake (by rwa [State.heatLeft_seq])
  obtain ⟨-, stays, -⟩ | ⟨entry, -⟩ | ⟨-, eq | eq⟩ := s.triggerAndHeat_cases changed t
  · rw [stays] at exit
    cases exit
  · rw [State.heatEntryDue_of_exit exit] at entry
    cases entry
  · obtain ⟨-, -, mem, control⟩ := s.foldTriggered_frame changed
    rw [eq]
    refine ⟨fun high stop => freezes _ (by rw [control, high]) ?_, fun low frozen kept => ?_⟩
    · exact (congrArg quietPolicyOf (State.setting_of_mem mem _ _ _)).trans stop
    · rw [State.foldTriggered_of_frozen changed frozen]
      exact thaws low kept
  · rw [eq]
    refine ⟨fun high stop => (State.takeTrigger_frozen _ _).mpr (freezes s high stop), fun low _ kept => ?_⟩
    exact State.takeTrigger_awake _ (thaws low kept)

/-- With no fold change the HEAT test stands alone. -/
theorem State.triggerAndHeat_of_no_change {s : State} {t : Int} (exit : s.heatExitDue t = true) :
    s.triggerAndHeat false t = s.exitHeat := by
  have alone : s.triggerAndHeat false t = s.testHeat t := rfl
  rw [alone, State.testHeat, State.heatEntryDue_of_exit exit, exit]
  rfl

end Sys2Proof.Machine
end

section
/-! PROOFS. The state in which the HEAT test of a scan completion is made, and the cell paths and the bands at the end. -/

namespace Sys2Proof.Machine

/-! ### Before the HEAT test -/

/-- Once the die is tested. -/
def State.scanDie (s : State) (r : ScanRecord) (b : Bool) : State := (s.scanSelected r b).testDie r.readings.tDie

theorem State.scanHeated_eq (s : State) (r : ScanRecord) (b : Bool) :
    s.scanHeated r b = (s.scanDie r b).triggerAndHeat (foldSample s.fold b s.foldDeb).2 r.readings.tDie := rfl

/-- The die warning by its level (R32). -/
theorem dieWarningAfter_eq (active : Bool) (hotSel : Nat) (t : Int) :
    dieWarningAfter active hotSel t = if active then decide (90 + 10 * (hotSel : Int) - 5 < t)
      else decide (90 + 10 * (hotSel : Int) ≤ t) := by
  unfold dieWarningAfter warningLevel
  cases active with
  | true => simp only [if_true, ← decide_not, Int.not_le]
  | false => rfl

theorem State.scanDie_frame (s : State) (r : ScanRecord) (b : Bool) :
    (s.scanDie r b).mem = s.mem ∧ (s.scanDie r b).bands = s.bands ∧ (s.scanDie r b).timer = s.timer ∧
      (s.scanDie r b).fold = (s.scanEnd r b).fold ∧
      (s.scanDie r b).selector.selected = (s.scanEnd r b).selector.selected ∧ (s.scanDie r b).seq = s.seq := by
  refine ⟨?_, ?_, ?_, ?_, (s.scanEnd_selector r b).2.2.1.symm, ?_⟩
  case refine_4 => simp [State.scanDie, State.scanEnd, State.scanBanded, State.scanHeated]
  all_goals simp [State.scanDie, State.scanSelected, State.selectedAtScan, State.scanStored]

theorem State.scanDie_control (s : State) (r : ScanRecord) (b : Bool) :
    (s.scanDie r b).control = { s.control with
      dieWarning := if s.control.dieWarning then decide (90 + 10 * (s.hotSel : Int) - 5 < r.readings.tDie)
        else decide (90 + 10 * (s.hotSel : Int) ≤ r.readings.tDie) } := by
  have control : (s.scanSelected r b).control = s.control := by
    simp [State.scanSelected, State.selectedAtScan, State.scanStored]
  have hot : (s.scanSelected r b).hotSel = s.hotSel :=
    State.setting_of_mem (by simp [State.scanSelected, State.selectedAtScan, State.scanStored]) _ _ _
  rw [← dieWarningAfter_eq]
  unfold State.scanDie State.testDie State.setControl
  rw [hot, control]

/-- The entry to HEAT by what the scan finds (R184). -/
theorem State.entersHeat_due_iff (s : State) (r : ScanRecord) (b : Bool) :
    s.entersHeat r b = true ↔ (s.control.state = .run ∨ s.control.state = .quiet) ∧ s.control.startup = false ∧
      135 ≤ r.readings.tDie := by
  show (s.scanDie r b).heatEntryDue r.readings.tDie = true ↔ _
  unfold State.heatEntryDue
  rw [s.scanDie_control]
  simp [and_assoc]

/-- The exit from HEAT by what the scan finds (R184). -/
theorem State.leavesHeat_due_iff (s : State) (r : ScanRecord) (b : Bool) :
    s.leavesHeat r b = true ↔ s.control.state = .heat ∧ r.readings.tDie ≤ 115 := by
  show (s.scanDie r b).heatExitDue r.readings.tDie = true ↔ _
  unfold State.heatExitDue
  rw [s.scanDie_control]
  simp

/-- A cell path that the HEAT test finds (R16, R17): the scan opens the path of a cell that it trips, and leaves the hold
reasons and the renewal mark. -/
theorem State.scanDie_cell (s : State) (r : ScanRecord) (b : Bool) (c : CellId) :
    let x := s.cells.get c
    let y := (s.scanDie r b).cells.get c
    y.holds = x.holds ∧ y.renewal = x.renewal ∧ y.charge = ((s.scanEnd r b).cells.get c).charge ∧
      y.vcell = ((s.scanEnd r b).cells.get c).vcell ∧ (x.pathOpen = true → y.pathOpen = true) ∧
      (x.charge = .tripped ∨ ((s.scanEnd r b).cells.get c).charge ≠ .tripped → y.pathOpen = x.pathOpen) := by
  intro x y
  obtain ⟨endCharge, endVcell, -⟩ := s.scanEnd_core r b c
  have found : y = (s.scanSelected r b).cells.get c := by simp [y, State.scanDie]
  rw [s.scanSelected_cell] at found
  rw [endCharge, endVcell, found]
  obtain ⟨-, -, eq⟩ | ⟨trips, -, cause, -, eq⟩ | ⟨-, -, eq⟩ := s.scanTested_cases r b c <;> rw [eq]
  · exact ⟨rfl, rfl, rfl, rfl, id, fun _ => rfl⟩
  · exact ⟨rfl, rfl, rfl, rfl, fun _ => rfl, fun h => (h.resolve_left trips.1 rfl).elim⟩
  · exact ⟨rfl, rfl, rfl, rfl, id, fun _ => rfl⟩

/-! ### The part state and HEAT at the end -/

theorem State.scanEnd_part (s : State) (r : ScanRecord) (b : Bool) :
    (s.scanEnd r b).control = { s.control with
      state := if s.entersHeat r b then .heat
        else if s.leavesHeat r b then (if s.control.qreq then .quiet else .run) else s.control.state
      dieWarning := if s.control.dieWarning then decide (90 + 10 * (s.hotSel : Int) - 5 < r.readings.tDie)
        else decide (90 + 10 * (s.hotSel : Int) ≤ r.readings.tDie) } := by
  have part := (s.scanDie r b).triggerAndHeat_control (foldSample s.fold b s.foldDeb).2 r.readings.tDie
  rw [(s.scanEnd_control r b).1, s.scanHeated_eq, part, s.scanDie_control]
  rfl

theorem State.scanEnd_heat (s : State) (r : ScanRecord) (b : Bool) :
    (s.scanEnd r b).notices.sticky.heat = (s.notices.sticky.heat || s.entersHeat r b || s.leavesHeat r b) := by
  obtain ⟨-, -, -, -, -, others⟩ := (s.scanSelected_step r b).leaves
  have before : (s.scanDie r b).notices.sticky.get .heat = s.notices.sticky.get .heat := by
    refine (others .heat (by decide)).trans ?_
    rw [s.scanDetected_sticky]
    simp
  have heated := (s.scanDie r b).triggerAndHeat_heat (foldSample s.fold b s.foldDeb).2 r.readings.tDie
  have chosen : ((s.scanBanded r b).chooseStopCause (s.scanStored r)).notices = (s.scanBanded r b).notices := by simp
  have after : (s.scanEnd r b).notices.sticky.get .heat = (s.scanHeated r b).notices.sticky.get .heat := by
    refine (State.allocationAtScan_sticky ((s.scanBanded r b).chooseStopCause (s.scanStored r)) .heat).trans ?_
    rw [chosen, show decide (StickyCause.heat = .source) = false from rfl, Bool.false_and, Bool.or_false]
    exact (State.lookupBand_sticky _ _ _ (by decide)).trans (State.lookupBand_sticky _ _ _ (by decide))
  refine after.trans (heated.trans ?_)
  rw [show (s.scanDie r b).notices.sticky.heat = s.notices.sticky.heat from before]
  rfl

/-! ### The bands at the end -/

/-- The wake of an exit from HEAT takes the WAKE_FRESH step (R183, R184). -/
abbrev State.freshAtScan (s : State) (r : ScanRecord) : Prop :=
  (s.control.state = .heat ∧ r.readings.tDie ≤ 115) ∧ s.control.qreq = false ∧ s.wakeFresh = 1 ∧
    (s.cells.a.holds.quiet = true ∨ s.cells.b.holds.quiet = true ∨ s.seq.state = .frozen)

theorem State.scanDie_wakesFresh (s : State) (r : ScanRecord) (b : Bool) :
    (s.scanDie r b).wakesFresh = true ↔ s.control.qreq = false ∧ s.wakeFresh = 1 ∧
      (s.cells.a.holds.quiet = true ∨ s.cells.b.holds.quiet = true ∨ s.seq.state = .frozen) := by
  obtain ⟨mem, -, -, -, -, seq⟩ := s.scanDie_frame r b
  have holdsA : (s.scanDie r b).cells.a.holds = s.cells.a.holds := (s.scanDie_cell r b .a).1
  have holdsB : (s.scanDie r b).cells.b.holds = s.cells.b.holds := (s.scanDie_cell r b .b).1
  have fresh : (s.scanDie r b).wakeFresh = s.wakeFresh := State.setting_of_mem mem _ _ _
  unfold State.wakesFresh State.quietStands
  rw [s.scanDie_control, holdsA, holdsB, fresh]
  simp only [Bool.and_eq_true, Bool.or_eq_true, Bool.not_eq_true', decide_eq_true_eq, State.seqFrozen_iff, seq]
  constructor
  · rintro ⟨⟨low, stands⟩, set⟩
    exact ⟨low, set, or_assoc.mp stands⟩
  · rintro ⟨low, set, stands⟩
    exact ⟨⟨low, or_assoc.mpr stands⟩, set⟩

theorem State.freshAtScan_iff (s : State) (r : ScanRecord) (b : Bool) :
    (s.leavesHeat r b && (s.scanDie r b).wakesFresh) = true ↔ s.freshAtScan r := by
  rw [Bool.and_eq_true, s.leavesHeat_due_iff, s.scanDie_wakesFresh]

/-- The band that a cell held at its lookup (R61; log entry 15). -/
theorem State.scanHeated_index (s : State) (r : ScanRecord) (b : Bool) (c : CellId) :
    ((s.scanHeated r b).bands.get c).index = if s.freshAtScan r then none else (s.bands.get c).index := by
  have index := (s.scanDie r b).triggerAndHeat_bands (foldSample s.fold b s.foldDeb).2 r.readings.tDie c
  rw [(s.scanDie_frame r b).2.1] at index
  rw [s.scanHeated_eq, index]
  exact if_congr (s.freshAtScan_iff r b) rfl rfl

/-- What a cell's lookup finds at a scan completion (R51). -/
theorem State.scanHeated_lookedUp (s : State) (r : ScanRecord) (b : Bool) (c : CellId) :
    (s.scanHeated r b).lookedUp r.readings c = s.bandRecord (if s.freshAtScan r then none else (s.bands.get c).index)
      (r.readings.temperature c + (if (s.scanEnd r b).fold.folded then (s.foldTOff : Int) else 0)) := by
  obtain ⟨mem, -, -, fold, -⟩ := s.scanDie_frame r b
  have mem : (s.scanHeated r b).mem = s.mem := by simpa [State.scanHeated_eq] using mem
  have fold : (s.scanHeated r b).fold = (s.scanEnd r b).fold := by simpa [State.scanHeated_eq] using fold
  have offset : (s.scanHeated r b).foldTOff = s.foldTOff := State.setting_of_mem mem _ _ _
  unfold State.lookedUp State.effectiveTemperature
  rw [s.scanHeated_index, State.bandRecord_of_mem mem, fold, offset]
  congr 1
  split
  · rfl
  · exact (Int.add_zero _).symm

theorem State.scanEnd_band (s : State) (r : ScanRecord) (b : Bool) (c : CellId) :
    (s.scanEnd r b).bands.get c = (s.scanHeated r b).lookedUp r.readings c ∧
      ((s.scanEnd r b).cells.get c).holds.band = !((s.scanEnd r b).bands.get c).allow.c := by
  obtain ⟨band, cell⟩ := (s.scanHeated r b).lookupBands_cell r.readings c
  have bands : (s.scanEnd r b).bands = (s.scanBanded r b).bands := by simp [State.scanEnd]
  have cells : (s.scanEnd r b).cells = (s.scanBanded r b).cells := by simp [State.scanEnd]
  have record : (s.scanEnd r b).bands.get c = (s.scanHeated r b).lookedUp r.readings c := by
    rw [bands]
    exact band
  rw [record, cells]
  exact ⟨rfl, congrArg (fun x => x.holds.band) cell⟩

/-- BAND is raised at a scan completion by a change from one band to another alone (R56). -/
theorem State.scanEnd_bandNotice (s : State) (r : ScanRecord) (b : Bool) :
    (s.scanEnd r b).notices.sticky.band = true ↔ s.notices.sticky.band = true ∨
      ∃ c i, (if s.freshAtScan r then none else (s.bands.get c).index) = some i ∧
        ((s.scanEnd r b).bands.get c).index ≠ some i := by
  obtain ⟨-, -, -, -, -, others⟩ := (s.scanSelected_step r b).leaves
  have heated : (s.scanHeated r b).notices.sticky.get .band = s.notices.sticky.get .band := by
    have kept := KeepsRequests.triggerAndHeat (s.scanDie r b) (foldSample s.fold b s.foldDeb).2 r.readings.tDie
    refine (kept.sticky .band (by decide) (by decide) (by decide) (by decide)).trans ((others .band (by decide)).trans ?_)
    rw [s.scanDetected_sticky]
    simp
  have chosen : ((s.scanBanded r b).chooseStopCause (s.scanStored r)).notices = (s.scanBanded r b).notices := by simp
  have after : (s.scanEnd r b).notices.sticky.band = (s.scanBanded r b).notices.sticky.band := by
    refine (State.allocationAtScan_sticky ((s.scanBanded r b).chooseStopCause (s.scanStored r)) .band).trans ?_
    rw [chosen, show decide (StickyCause.band = .source) = false from rfl, Bool.false_and, Bool.or_false]
    rfl
  have looked := (s.scanHeated r b).lookupBands_sticky r.readings
  rw [show (s.scanHeated r b).notices.sticky.band = s.notices.sticky.band from heated] at looked
  rw [after]
  refine looked.trans (or_congr Iff.rfl (exists_congr fun c => exists_congr fun i => ?_))
  rw [s.scanHeated_index, (s.scanEnd_band r b c).1]

end Sys2Proof.Machine
end

section
/-! PROOFS. O45: the sequencer at an exit from HEAT, and the bands and HEAT at a scan completion. -/

namespace Sys2Proof.Machine

/-! ### What the sequencer owns at the end -/

/-- What the sequencer owns and the marks of the windows tell what a state takes of another. -/
theorem State.takeFrom_congr {u t v : State} (own : t.seqPart = v.seqPart)
    (stop : t.transfer.windowStop = v.transfer.windowStop)
    (window : ∀ c, (t.cells.get c).holds.window = (v.cells.get c).holds.window) : u.takeFrom t = u.takeFrom v := by
  have a : t.cells.a.holds.window = v.cells.a.holds.window := window .a
  have b : t.cells.b.holds.window = v.cells.b.holds.window := window .b
  unfold State.takeFrom CellPath.withWindow
  rw [own, stop, a, b]

/-- The marks of the windows after the HEAT test stand to the end. -/
theorem State.scanEnd_windows (s : State) (r : ScanRecord) (b : Bool) :
    (s.scanEnd r b).transfer.windowStop = (s.scanHeated r b).transfer.windowStop ∧
      ∀ c, ((s.scanEnd r b).cells.get c).holds.window = ((s.scanHeated r b).cells.get c).holds.window := by
  refine ⟨?_, fun c => by rw [s.scanEnd_holds]⟩
  obtain same | ⟨-, x, -, chosen⟩ := s.scanEnd_transfer r b
  · rw [same]
  · rw [chosen]

/-- What is before the HEAT test leaves the marks of the windows. -/
theorem State.scanDie_windows (s : State) (r : ScanRecord) (b : Bool) :
    (s.scanDie r b).transfer.windowStop = s.transfer.windowStop ∧
      ∀ c, ((s.scanDie r b).cells.get c).holds.window = (s.cells.get c).holds.window := by
  refine ⟨?_, fun c => by rw [(s.scanDie_cell r b c).1]⟩
  have same : (s.scanDie r b).transfer = (s.scanSelected r b).transfer := by simp [State.scanDie]
  rw [same]
  obtain ⟨-, -, stands⟩ | ⟨cause, rested, -⟩ := s.scanSelected_transfer_cases r b
  · rw [stands]
  · rw [rested, Transfer.rested_windowStop]

/-- The transfer converter at the end, where the part enters HEAT or leaves it (R121). -/
theorem State.scanEnd_transfer_heat (s : State) (r : ScanRecord) (b : Bool) :
    (s.entersHeat r b = true → (s.scanEnd r b).transfer.state = .off ∧ (s.scanEnd r b).transfer.current = 0 ∧
      (s.scanEnd r b).transfer.rest = 0) ∧
    (s.leavesHeat r b = true → (s.scanEnd r b).transfer.state = .rest ∧ (s.scanEnd r b).transfer.current = 0 ∧
      (s.scanEnd r b).transfer.rest = s.xrest) := by
  have kept : (s.scanEnd r b).transfer.state = (s.scanHeated r b).transfer.state ∧
      (s.scanEnd r b).transfer.current = (s.scanHeated r b).transfer.current ∧
      (s.scanEnd r b).transfer.rest = (s.scanHeated r b).transfer.rest := by
    obtain same | ⟨-, x, -, chosen⟩ := s.scanEnd_transfer r b
    · rw [same]
      exact ⟨rfl, rfl, rfl⟩
    · rw [chosen]
      exact ⟨rfl, rfl, rfl⟩
  obtain ⟨-, enters, leaves⟩ := s.scanHeated_transfer r b
  rw [kept.1, kept.2.1, kept.2.2]
  refine ⟨fun h => ?_, fun h => ?_⟩
  · rw [enters h]
    exact ⟨rfl, rfl, rfl⟩
  · rw [leaves h]
    exact ⟨rfl, rfl, rfl⟩

/-! ### The cell paths at an entry to HEAT, at an exit, and at neither -/

/-- After the HEAT test a cell path changes in its BAND hold alone (R54). -/
theorem State.scanEnd_cell_eq (s : State) (r : ScanRecord) (b : Bool) (c : CellId) :
    ∃ band, (s.scanEnd r b).cells.get c = { (s.scanHeated r b).cells.get c with
      holds := { ((s.scanHeated r b).cells.get c).holds with band := band } } := by
  have cells : (s.scanEnd r b).cells = (s.scanBanded r b).cells := by simp [State.scanEnd]
  rw [cells]
  exact ⟨_, ((s.scanHeated r b).lookupBands_cell r.readings c).2⟩

theorem State.scanEnd_cell_of_entry {s : State} {r : ScanRecord} {b : Bool} (entry : s.entersHeat r b = true)
    (c : CellId) :
    let y := (s.scanEnd r b).cells.get c
    y.pathOpen = true ∧ y.setPoint = 0 ∧ y.holds.heat = true ∧ y.renewal = (s.cells.get c).renewal := by
  obtain ⟨band, eq⟩ := s.scanEnd_cell_eq r b c
  have heated : (s.scanHeated r b).cells.get c = _ :=
    State.triggerAndHeat_cell_of_entry (s := s.scanDie r b) _ entry c
  rw [eq, heated]
  exact ⟨rfl, rfl, rfl, (s.scanDie_cell r b c).2.1⟩

theorem State.scanEnd_cell_of_neither {s : State} {r : ScanRecord} {b : Bool} (entry : s.entersHeat r b = false)
    (exit : s.leavesHeat r b = false) (c : CellId) :
    let x := s.cells.get c
    let y := (s.scanEnd r b).cells.get c
    y.holds.heat = x.holds.heat ∧ y.holds.quiet = x.holds.quiet ∧ y.renewal = x.renewal ∧
      (x.charge = .tripped ∨ y.charge ≠ .tripped → y.pathOpen = x.pathOpen) := by
  intro x y
  obtain ⟨holds, renewal, -, -, -, opened⟩ := s.scanDie_cell r b c
  obtain ⟨band, eq⟩ := s.scanEnd_cell_eq r b c
  have heated : (s.scanHeated r b).cells = (s.scanDie r b).cells :=
    State.triggerAndHeat_cells_of_neither (s := s.scanDie r b) _ entry exit
  rw [heated] at eq
  refine ⟨?_, ?_, ?_, fun h => ?_⟩
  · exact (congrArg (fun z => z.holds.heat) eq).trans (congrArg Holds.heat holds)
  · exact (congrArg (fun z => z.holds.quiet) eq).trans (congrArg Holds.quiet holds)
  · exact (congrArg CellPath.renewal eq).trans renewal
  · exact (congrArg CellPath.pathOpen eq).trans (opened h)

theorem State.scanEnd_cell_of_exit {s : State} {r : ScanRecord} {b : Bool} (exit : s.leavesHeat r b = true)
    (started : s.control.startup = false) (c : CellId) :
    let x := s.cells.get c
    let y := (s.scanEnd r b).cells.get c
    y.holds.heat = false ∧ y.renewal = (x.renewal || decide (s.freshAtScan r)) ∧
      y.holds.quiet = (s.control.qreq && (x.holds.quiet || decide (s.qpolCharge = .stopEffective))) ∧
      (y.charge ≠ .tripped → y.pathOpen = false) ∧
      (y.charge = .tripped → x.pathOpen = true → y.pathOpen = true) := by
  intro x y
  obtain ⟨holds, renewal, charge, -, opened, -⟩ := s.scanDie_cell r b c
  obtain ⟨band, eq⟩ := s.scanEnd_cell_eq r b c
  have control := s.scanDie_control r b
  have policy : (s.scanDie r b).qpolCharge = s.qpolCharge :=
    congrArg quietPolicyOf (State.setting_of_mem (s.scanDie_frame r b).1 _ _ _)
  have fresh : (s.scanDie r b).wakesFresh = decide (s.freshAtScan r) := by
    rw [Bool.eq_iff_iff, decide_eq_true_iff, ← s.freshAtScan_iff r b, exit, Bool.true_and]
  obtain ⟨path, renewed, heat, quiet⟩ := State.triggerAndHeat_cell_of_exit (s := s.scanDie r b)
    (foldSample s.fold b s.foldDeb).2 exit (by rw [control, started]) c
  rw [← s.scanHeated_eq] at path renewed heat quiet
  rw [charge] at path
  rw [renewal, fresh] at renewed
  rw [control, holds, policy] at quiet
  have switch : y.pathOpen = (y.charge == .tripped && ((s.scanDie r b).cells.get c).pathOpen) :=
    (congrArg CellPath.pathOpen eq).trans path
  refine ⟨?_, ?_, ?_, fun sound => ?_, fun tripped was => ?_⟩
  · exact (congrArg (fun z => z.holds.heat) eq).trans heat
  · exact (congrArg CellPath.renewal eq).trans renewed
  · exact (congrArg (fun z => z.holds.quiet) eq).trans quiet
  · rw [switch, beq_eq_false_iff_ne.mpr sound, Bool.false_and]
  · rw [switch, beq_iff_eq.mpr tripped, Bool.true_and, opened was]

/-! ### The sequencer where no fold change falls -/

theorem State.scanHeated_of_no_change {s : State} {r : ScanRecord} {b : Bool} (exit : s.leavesHeat r b = true)
    (same : s.fold.firstScan = true ∨ (s.scanEnd r b).fold.folded = s.fold.folded) :
    s.scanHeated r b = (s.scanDie r b).exitHeat := by
  have still : (foldSample s.fold b s.foldDeb).2 = false := by
    rw [Bool.eq_false_iff, Ne, foldSample_changes, ← s.scanEnd_fold r b]
    rintro ⟨later, other⟩
    rcases same with first | same
    · rw [first] at later
      cases later
    · exact other same
  rw [s.scanHeated_eq, still]
  exact State.triggerAndHeat_of_no_change exit

/-- With QREQ high the sequencer is frozen as the policy has it, and asks for nothing (R182, R184). -/
theorem State.scanEnd_seq_of_quiet {s : State} {r : ScanRecord} {b : Bool} (exit : s.leavesHeat r b = true)
    (started : s.control.startup = false) (high : s.control.qreq = true)
    (same : s.fold.firstScan = true ∨ (s.scanEnd r b).fold.folded = s.fold.folded) :
    SequencerStandsBut s (s.scanEnd r b) ∧ (s.scanEnd r b).seq = quietFreezes s := by
  obtain ⟨mem, -, -, -, -, seq⟩ := s.scanDie_frame r b
  obtain ⟨stop, window⟩ := s.scanEnd_windows r b
  obtain ⟨stopBefore, windowBefore⟩ := s.scanDie_windows r b
  have control := s.scanDie_control r b
  have high' : (s.scanDie r b).control.qreq = true := by rw [control, high]
  have heated := State.scanHeated_of_no_change exit same
  have frozen : quietFreezes (s.scanDie r b) = quietFreezes s := by
    have policy : (s.scanDie r b).qpolProbe = s.qpolProbe :=
      congrArg quietPolicyOf (State.setting_of_mem mem _ _ _)
    unfold quietFreezes
    rw [policy, seq]
  have own : (s.scanEnd r b).seqPart = { s.seqPart with seq := quietFreezes s } := by
    rw [s.scanEnd_seqPart, heated, State.exitHeat_seqPart_of_quiet high', frozen]
    exact congrArg (fun p : SeqPart => { p with seq := quietFreezes s }) (s.scanSelected_seqPart r b)
  refine ⟨⟨congrArg SeqPart.probePending own, congrArg SeqPart.probeChannel own, congrArg SeqPart.seqFetch own,
    congrArg SeqPart.seqWrite own, congrArg SeqPart.window own, congrArg SeqPart.writeFault own,
    congrArg SeqPart.listBad own, ?_, fun c => ?_⟩, congrArg SeqPart.seq own⟩
  · rw [stop, heated, State.exitHeat_windowStop_of_quiet high', stopBefore]
  · refine (window c).trans ?_
    rw [heated, State.exitHeat_window_of_quiet high' (by rw [control, started]), windowBefore]
    rfl

theorem State.heatLeft_frame (s : State) :
    s.heatLeft.fold = s.fold ∧ s.heatLeft.timer = s.timer ∧ s.heatLeft.bands = s.bands ∧
      s.heatLeft.selector = s.selector ∧ s.heatLeft.mem = s.mem ∧
      s.heatLeft.transfer.windowStop = s.transfer.windowStop ∧ s.heatLeft.seqPart = s.seqPart := by
  have transfer : s.heatLeft.transfer = (s.heatClosed .run).transfer := by simp [State.heatLeft]
  obtain ⟨fold, timer, bands, selector, mem, converter, arbiter, seq, notices⟩ := s.heatClosed_frame .run
  refine ⟨by simp [State.heatLeft, fold], by simp [State.heatLeft, timer], by simp [State.heatLeft, bands],
    by simp [State.heatLeft, selector], by simp [State.heatLeft, mem], by rw [transfer, s.heatClosed_transfer], ?_⟩
  have converterLeft : s.heatLeft.converter = s.converter := by simp [State.heatLeft, converter]
  have arbiterLeft : s.heatLeft.arbiter = s.arbiter := by simp [State.heatLeft, arbiter]
  have noticesLeft : s.heatLeft.notices = (s.heatClosed .run).notices := by simp [State.heatLeft]
  refine State.seqPart_eq s.heatLeft_seq (by rw [converterLeft]) (by rw [converterLeft]) (by rw [arbiterLeft])
    (by rw [arbiterLeft]) ?_
  rw [noticesLeft, notices]
  rintro _ (rfl | rfl | rfl) <;> rfl

@[simp] theorem State.core_heatLeft (s : State) (c : CellId) :
    (s.heatLeft.cells.get c).core = (s.cells.get c).core := by
  simp [State.heatLeft, State.heatClosed]

theorem State.heatLeft_window {s : State} (started : s.control.startup = false) (c : CellId) :
    (s.heatLeft.cells.get c).holds.window = (s.cells.get c).holds.window := by
  have closed := s.heatClosed_cell started (.inl rfl) c
  have held := State.get_putHoldBoth ((s.heatClosed .run).setPartState .run) .quiet false c
  refine (congrArg (fun x => x.holds.window) held).trans ?_
  exact congrArg (fun x => x.holds.window) closed

/-- With QREQ low the sequencer is thawed, and finds the state that the exit leaves but for the bands (R183, R184; log
entries 12 and 15). -/
theorem State.thawedAtExit {s : State} {r : ScanRecord} {b : Bool} (exit : s.leavesHeat r b = true)
    (started : s.control.startup = false) (low : s.control.qreq = false)
    (same : s.fold.firstScan = true ∨ (s.scanEnd r b).fold.folded = s.fold.folded) :
    ThawedAtExit s (s.scanEnd r b) := by
  obtain ⟨mem, bands, timer, fold, selected, -⟩ := s.scanDie_frame r b
  obtain ⟨timerEnd, memEnd, -⟩ := s.scanEnd_frame r b
  obtain ⟨stop, window⟩ := s.scanEnd_windows r b
  obtain ⟨stopBefore, windowBefore⟩ := s.scanDie_windows r b
  obtain ⟨restEnd, -, lengthEnd⟩ := (s.scanEnd_transfer_heat r b).2 exit
  have control := s.scanDie_control r b
  have heated := State.scanHeated_of_no_change exit same
  obtain ⟨foldLeft, timerLeft, bandsLeft, selectorLeft, memLeft, stopLeft, ownLeft⟩ := (s.scanDie r b).heatLeft_frame
  obtain ⟨own, stopAfter, windowAfter⟩ :=
    State.exitHeat_owned_of_wake (s := s.scanDie r b) (by rw [control, low])
  rw [← heated] at own stopAfter windowAfter
  unfold ThawedAtExit
  intro windowOf before
  have alike : SeqReadsAlike (s.scanDie r b).heatLeft { s.scanEnd r b with bands := s.bands } := by
    have core : ∀ c, (((s.scanEnd r b).cells.get c).charge = ((s.scanDie r b).heatLeft.cells.get c).charge) ∧
        ((s.scanEnd r b).cells.get c).vcell = ((s.scanDie r b).heatLeft.cells.get c).vcell := fun c => by
      obtain ⟨-, -, charge, vcell, -⟩ := s.scanDie_cell r b c
      obtain ⟨chargeLeft, vcellLeft, -⟩ := CellPath.core_eq ((s.scanDie r b).core_heatLeft c)
      rw [chargeLeft, vcellLeft, charge, vcell]
      exact ⟨rfl, rfl⟩
    refine ⟨?_, ?_, ?_, fun c => (core c).1, fun c => (core c).2, ?_, ?_, (s.scanDie r b).heatLeft_rest, restEnd, ?_⟩
    · rw [memLeft, mem]
      exact memEnd
    · rw [timerLeft, timer]
      exact congrArg PeriodTimer.count timerEnd
    · rw [foldLeft, fold]
    · rw [bandsLeft, bands]
    · rw [selectorLeft, selected]
    · exact lengthEnd.trans (State.xrest_of_mem memEnd).symm
  have found : before = State.takeFrom { s.scanEnd r b with bands := s.bands } (s.scanDie r b).heatLeft := by
    refine Eq.trans (b := State.takeFrom { s.scanEnd r b with bands := s.bands } s) rfl ?_
    refine State.takeFrom_congr ?_ ?_ fun c => ?_
    · exact (ownLeft.trans (s.scanSelected_seqPart r b)).symm
    · exact (stopLeft.trans stopBefore).symm
    · rw [State.heatLeft_window (by rw [control, started]), windowBefore]
  have thawed : before.thaw = { s.scanEnd r b with bands := s.bands } := by
    rw [found, State.thaw_takeFrom alike]
    refine Eq.trans (State.takeFrom_congr ?_ ?_ fun c => ?_) (State.takeFrom_self { s.scanEnd r b with bands := s.bands })
    · exact (own.symm.trans (s.scanEnd_seqPart r b).symm)
    · exact (stopAfter.symm.trans stop.symm)
    · exact (windowAfter c).symm.trans (window c).symm
  refine ⟨before.thaw, thawsTo_thaw before, ?_⟩
  rw [thawed]
  exact ⟨rfl, rfl, rfl, rfl, rfl, rfl⟩

/-! ### The whole completion -/

theorem State.uppers_eq (s : State) :
    s.uppers = (List.range 8).map fun i => min 150 (max (-40) (s.readWord (0x0C0 + 4 * i)).toInt) := rfl

/-- Settles O45: the die, the bands and HEAT, each as its block leaves it. -/
theorem scanBandsAndHeat : Obligations.ScanBandsAndHeat := by
  unfold Obligations.ScanBandsAndHeat
  refine ⟨State.uppers_eq, fun s r v b flight scan last => ?_⟩
  intro rec_ tDie entry exit_ fresh held
  have enters : s.entersHeat rec_ b = true ↔ entry := s.entersHeat_due_iff rec_ b
  have leaves : s.leavesHeat rec_ b = true ↔ exit_ := s.leavesHeat_due_iff rec_ b
  have record : ∀ c, (s.scanEnd rec_ b).bands.get c = s.bandRecord (held c)
      (rec_.readings.temperature c + (if (s.scanEnd rec_ b).fold.folded then (s.foldTOff : Int) else 0)) :=
    fun c => ((s.scanEnd_band rec_ b c).1).trans (s.scanHeated_lookedUp rec_ b c)
  have notice := s.scanEnd_bandNotice rec_ b
  obtain ⟨off, rests⟩ := s.scanEnd_transfer_heat rec_ b
  have heat := s.scanEnd_heat rec_ b
  refine ⟨s.scanEnd rec_ b, exec_lastConversion v b flight scan last, ?_, fun c => ⟨?_, ?_, ?_,
    (s.scanEnd_band rec_ b c).2, fun i was other => notice.mpr (.inr ⟨c, i, was, other⟩)⟩, fun stand => ?_,
    fun hot => ?_, fun cool stays => ?_, fun left started => ?_⟩
  · rw [s.scanEnd_part]
    simp only [enters, leaves]
    rfl
  · rw [record]
    rfl
  · rw [record]
    rfl
  · rw [record]
    exact s.bandRecord_copies _ _
  · rw [Bool.eq_iff_iff, notice]
    refine or_iff_left ?_
    rintro ⟨c, i, was, other⟩
    rcases stand c with none_ | same
    · cases none_.symm.trans was
    · exact other (same.trans was)
  · rw [enters.mpr hot, Bool.or_true, Bool.true_or] at heat
    obtain ⟨state, current, rest⟩ := off (enters.mpr hot)
    exact ⟨state, current, rest, heat, fun c => State.scanEnd_cell_of_entry (enters.mpr hot) c⟩
  · have noEntry : s.entersHeat rec_ b = false := Bool.eq_false_iff.mpr (mt enters.mp cool)
    have noExit : s.leavesHeat rec_ b = false := Bool.eq_false_iff.mpr (mt leaves.mp stays)
    rw [noEntry, noExit, Bool.or_false, Bool.or_false] at heat
    exact ⟨heat, fun c => State.scanEnd_cell_of_neither noEntry noExit c⟩
  · have due := leaves.mpr left
    obtain ⟨state, current, rest⟩ := rests due
    have heated : (s.scanEnd rec_ b).seq = (s.scanHeated rec_ b).seq := congrArg SeqPart.seq (s.scanEnd_seqPart rec_ b)
    obtain ⟨mem, -, -, -, -, seq⟩ := s.scanDie_frame rec_ b
    obtain ⟨freezes, thaws⟩ := State.triggerAndHeat_seq_of_exit (s := s.scanDie rec_ b)
      (foldSample s.fold b s.foldDeb).2 due
    rw [← s.scanHeated_eq, ← heated, s.scanDie_control, seq] at thaws
    rw [← s.scanHeated_eq, ← heated, s.scanDie_control] at freezes
    have policy : (s.scanDie rec_ b).qpolProbe = s.qpolProbe :=
      congrArg quietPolicyOf (State.setting_of_mem mem _ _ _)
    rw [policy] at freezes
    rw [due, Bool.or_true] at heat
    refine ⟨heat, state, current, rest, fun c => State.scanEnd_cell_of_exit due started c, freezes, thaws,
      fun same => ⟨fun high => ?_, fun high stop awake => ?_, fun high other => ?_, fun low => ?_⟩⟩
    · exact (State.scanEnd_seq_of_quiet due started high same).1
    · rw [(State.scanEnd_seq_of_quiet due started high same).2]
      exact if_pos ⟨stop, awake⟩
    · rw [(State.scanEnd_seq_of_quiet due started high same).2]
      exact if_neg fun ⟨stop, awake⟩ => other.elim (fun go => go stop) awake
    · exact State.thawedAtExit due started low same

end Sys2Proof.Machine
end

section
/-! PROOFS. Every request at the arbiter has something to carry out (R36, R170, R172): what the blocks' requests see of the
state, and the effects that make one or leave it. -/

namespace Sys2Proof.Machine

-- One proof at a time: proofs elaborated side by side each hold a thread's stack.
set_option Elab.async false

/-! ### The requests of the counters, the port and the refresh -/

/-- The requests that stand for a list another block holds: of GAUGE, of LINK and of REFRESH. -/
structure Arbiter.BlockView where
  gauge : Bool
  link : Bool
  refresh : Bool

def Arbiter.blockView (x : Arbiter) : Arbiter.BlockView := { gauge := x.gauge, link := x.link, refresh := x.refresh }

theorem SeqActs.blockView {s t : State} (h : SeqActs s t) : t.arbiter.blockView = s.arbiter.blockView := by
  unfold SeqActs at h
  rw [h]
  rfl

@[simp] theorem State.blockView_takeTrigger (s : State) (g : Trigger) :
    (s.takeTrigger g).arbiter.blockView = s.arbiter.blockView := (SeqActs.takeTrigger s g).blockView

@[simp] theorem State.blockView_startList (s : State) : s.startList.arbiter.blockView = s.arbiter.blockView :=
  (seqLocal_startList.acts s).blockView

@[simp] theorem State.blockView_endList (s : State) : s.endList.arbiter.blockView = s.arbiter.blockView :=
  (seqLocal_endList.acts s).blockView

@[simp] theorem State.blockView_finishItem (s : State) (i : Nat) :
    (s.finishItem i).arbiter.blockView = s.arbiter.blockView := ((seqLocal_finishItem i).acts s).blockView

@[simp] theorem State.blockView_formResult (s : State) : s.formResult.arbiter.blockView = s.arbiter.blockView :=
  (seqLocal_formResult.acts s).blockView

@[simp] theorem State.blockView_carryOut (s : State) (x : Item) :
    (s.carryOut x).arbiter.blockView = s.arbiter.blockView := (SeqActs.carryOut s x).blockView

@[simp] theorem State.blockView_thaw (s : State) : s.thaw.arbiter.blockView = s.arbiter.blockView :=
  (SeqActs.thaw s).blockView

@[simp] theorem State.blockView_takeReading (s : State) (v : Int) :
    (s.takeReading v).arbiter.blockView = s.arbiter.blockView := by
  unfold State.takeReading
  dsimp only
  (repeat' split) <;> simp

@[simp] theorem State.blockView_countWait (s : State) : s.countWait.arbiter.blockView = s.arbiter.blockView := by
  unfold State.countWait
  dsimp only
  (repeat' split) <;> simp

@[simp] theorem State.blockView_itemFetched (s : State) (x : Item) :
    (s.itemFetched x).arbiter.blockView = s.arbiter.blockView := by
  unfold State.itemFetched
  dsimp only
  split <;> simp

@[simp] theorem State.blockView_itemWritten (s : State) : s.itemWritten.arbiter.blockView = s.arbiter.blockView := by
  unfold State.itemWritten
  dsimp only
  split <;> simp

@[simp] theorem State.blockView_writeNext (s : State) (v : Word) :
    (s.writeNext v).arbiter.blockView = s.arbiter.blockView := by
  unfold State.writeNext
  dsimp only
  (repeat' split) <;> simp

@[simp] theorem State.blockView_withdrawSeq (s : State) : s.withdrawSeq.arbiter.blockView = s.arbiter.blockView := rfl

@[simp] theorem State.blockView_skipToNext (s : State) : s.skipToNext.arbiter.blockView = s.arbiter.blockView := by
  unfold State.skipToNext
  split <;> simp

@[simp] theorem State.blockView_skipItem (s : State) : s.skipItem.arbiter.blockView = s.arbiter.blockView := by
  unfold State.skipItem
  dsimp only
  split <;> simp

@[simp] theorem State.blockView_skipList (s : State) : s.skipList.arbiter.blockView = s.arbiter.blockView := by
  unfold State.skipList
  dsimp only
  (repeat' split) <;> simp

@[simp] theorem State.blockView_resetSeq (s : State) (st kept : SeqState) :
    (s.resetSeq st kept).arbiter.blockView = s.arbiter.blockView := by simp [State.resetSeq]

@[simp] theorem State.blockView_stopSeqForShip (s : State) :
    s.stopSeqForShip.arbiter.blockView = s.arbiter.blockView := by simp [State.stopSeqForShip]

@[simp] theorem State.blockView_requestFetch (s : State) (c : CellId) :
    (s.requestFetch c).arbiter.blockView = s.arbiter.blockView := by
  unfold State.requestFetch
  dsimp only
  split <;> rfl

@[simp] theorem State.blockView_dropTable (s : State) (c : CellId) :
    (s.dropTable c).arbiter.blockView = s.arbiter.blockView := by
  unfold State.dropTable State.discardFetch
  dsimp only
  split <;> rfl

@[simp] theorem State.blockView_profileStart (s : State) (c : CellId) :
    (s.profileStart c).arbiter.blockView = s.arbiter.blockView := by
  have own : ∀ d, (s.startOwn d).arbiter.blockView = s.arbiter.blockView := fun d => by simp [State.startOwn]
  cases c with
  | a => exact own .a
  | b =>
    show (if s.bMode = 0 then s.startOwn .b else s.startFollowing).arbiter.blockView = _
    split
    · exact own .b
    · simp [State.startFollowing]

@[simp] theorem State.blockView_profileStop (s : State) (c : CellId) :
    (s.profileStop c).arbiter.blockView = s.arbiter.blockView := by
  unfold State.profileStop
  dsimp only
  split <;> simp

@[simp] theorem State.blockView_resetChannel (s : State) (c : CellId) :
    (s.resetChannel c).arbiter.blockView = s.arbiter.blockView := by simp [State.resetChannel]

@[simp] theorem State.blockView_fetchAfter (s : State) (c : CellId) (g : Segment) :
    (s.fetchAfter c g).arbiter.blockView = s.arbiter.blockView := by
  unfold State.fetchAfter
  split <;> simp

@[simp] theorem State.blockView_swap (s : State) (c : CellId) (g : Segment) :
    (s.swap c g).arbiter.blockView = s.arbiter.blockView := by simp [State.swap]

@[simp] theorem State.blockView_takeQuantum (s : State) (c : CellId) :
    (s.takeQuantum c).arbiter.blockView = s.arbiter.blockView := by
  have ended : ∀ u : State, (u.segmentEnd c).arbiter.blockView = u.arbiter.blockView := fun u => by
    unfold State.segmentEnd
    dsimp only
    (repeat' split) <;> simp
  unfold State.takeQuantum State.stepQuantum
  dsimp only
  (repeat' split) <;> simp [ended]

@[simp] theorem State.blockView_takeBatch (s : State) (c : CellId) (k : Nat) :
    (s.takeBatch c k).arbiter.blockView = s.arbiter.blockView := by
  induction k generalizing s with
  | zero => rfl
  | succ k ih => simp [State.takeBatch, ih]

@[simp] theorem State.blockView_fetchCompleted (s : State) (c : CellId) (i : Nat) (ws : List Word) :
    (s.fetchCompleted c i ws).arbiter.blockView = s.arbiter.blockView := by
  unfold State.fetchCompleted State.install
  dsimp only
  (repeat' split) <;> simp

theorem KeepsRequests.blockView {s t : State} (h : KeepsRequests s t) : t.arbiter.blockView = s.arbiter.blockView := by
  rw [h.arbiter]
  rfl

@[simp] theorem State.blockView_wake (s : State) (b : Bool) : (s.wake b).arbiter.blockView = s.arbiter.blockView :=
  (KeepsRequests.wake s b).blockView

@[simp] theorem State.blockView_triggerAndHeat (s : State) (b : Bool) (t : Int) :
    (s.triggerAndHeat b t).arbiter.blockView = s.arbiter.blockView := (KeepsRequests.triggerAndHeat s b t).blockView

@[simp] theorem State.blockView_endTransaction (s : State) :
    s.endTransaction.arbiter.blockView = s.arbiter.blockView := rfl

end Sys2Proof.Machine
end

section
/-! PROOFS. Every effect leaves each waiting request something to carry out (R36, R170, R172). -/

namespace Sys2Proof.Machine

-- One proof at a time: proofs elaborated side by side each hold a thread's stack.
set_option Elab.async false

/-! ### Runs that wait -/

/-- A run that waits for its grant. -/
def PortOp.waits : PortOp → Bool
  | .run r => r.phase == .waiting
  | .write _ _ => false

theorem takeWaiting_isSome (m : Memory) (ops : List PortOp) : (takeWaiting m ops).isSome = ops.any PortOp.waits := by
  induction ops with
  | nil => rfl
  | cons op ops ih =>
    cases op with
    | run r =>
      by_cases waits : r.phase = .waiting
      · simp [takeWaiting, PortOp.waits, waits]
      · simp [takeWaiting, PortOp.waits, waits, ih]
    | write r w => simp [takeWaiting, PortOp.waits, ih]

theorem lowestMark_isSome (marks : List Bool) : (lowestMark marks).isSome = marks.any id := by
  induction marks with
  | nil => rfl
  | cons b marks ih => cases b <;> simp [lowestMark, ih]

/-! ### What a waiting request stands for -/

/-- GAUGE waits for an entry and REFRESH for a marked block; and, where `runs` says so, LINK for a run that waits. While the
port is changed its request is still to be made anew, and `runs` is False. -/
structure State.requestsMeant (runs : Prop) (s : State) : Prop where
  gauge : s.arbiter.gauge = true → s.gauge ≠ []
  refresh : s.arbiter.refresh = true → s.refresh.marks.any id = true
  link : runs → s.arbiter.link = true → s.port.ops.any PortOp.waits = true

/-- No request waits. -/
def Arbiter.idle (x : Arbiter) : Prop :=
  x.gauge = false ∧ x.fetch.a = none ∧ x.fetch.b = none ∧ x.link = false ∧ x.seqFetch = none ∧ x.seqWrite = none ∧
    x.refresh = false

theorem State.arbiterSettled_iff (s : State) :
    s.arbiterSettled ↔ s.requestsMeant True ∧ (s.arbiter.underWay = none → s.arbiter.idle) := by
  unfold State.arbiterSettled
  rw [takeWaiting_isSome, lowestMark_isSome]
  exact ⟨fun ⟨gauge, link, refresh, free⟩ => ⟨⟨gauge, refresh, fun _ => link⟩, free⟩,
    fun ⟨meant, free⟩ => ⟨meant.gauge, meant.link trivial, meant.refresh, free⟩⟩

/-- Where no request of the three is open, each has what it stands for. -/
theorem State.requestsMeant_of_none {runs : Prop} {s : State} (gauge : s.arbiter.gauge = false)
    (refresh : s.arbiter.refresh = false) (link : s.arbiter.link = false) : s.requestsMeant runs :=
  ⟨fun h => by simp [gauge] at h, fun h => by simp [refresh] at h, fun _ h => by simp [link] at h⟩

section Effects

variable {runs : Prop} {s : State} (h : s.requestsMeant runs)
include h

theorem State.requestsMeant.weaken : s.requestsMeant False := ⟨h.gauge, h.refresh, False.elim⟩

theorem State.requestsMeant.of_view {t : State} (view : t.arbiter.blockView = s.arbiter.blockView := by simp)
    (gauge : t.gauge = s.gauge := by simp) (refresh : t.refresh.marks = s.refresh.marks := by simp)
    (ops : t.port.ops = s.port.ops := by simp) : t.requestsMeant runs := by
  obtain ⟨hg, hl, hr⟩ := Arbiter.BlockView.mk.inj view
  refine ⟨?_, ?_, ?_⟩
  · rw [hg, gauge]
    exact h.gauge
  · rw [hr, refresh]
    exact h.refresh
  · rw [hl, ops]
    exact h.link

/-- The request of GAUGE is made by the list as it stands, whatever that is (R36). -/
theorem State.requestsMeant.requestGauge {t : State}
    (view : t.arbiter.blockView = s.arbiter.blockView := by simp)
    (refresh : t.refresh.marks = s.refresh.marks := by simp) (ops : t.port.ops = s.port.ops := by simp) :
    t.requestGauge.requestsMeant runs := by
  obtain ⟨-, hl, hr⟩ := Arbiter.BlockView.mk.inj view
  refine ⟨fun waits empty => ?_, fun waits => ?_, fun p waits => ?_⟩
  · have none_ : t.gauge = [] := by simpa using empty
    simp [State.requestGauge, none_] at waits
  · simpa [refresh] using h.refresh (hr ▸ waits)
  · simpa [ops] using h.link p (hl ▸ waits)

end Effects

end Sys2Proof.Machine
end

section
/-! PROOFS. Every effect leaves each waiting request something to carry out (R36, R170, R172). -/

namespace Sys2Proof.Machine

-- One proof at a time: proofs elaborated side by side each hold a thread's stack.
set_option Elab.async false

/-! ### The counters -/

/-- A transaction of the counters has ended, before the grants that follow. -/
def State.gaugeEnded (s : State) (e : GaugeEntry) : State :=
  (if s.arbiter.awaited then (s.gaugeWrite e).gaugeAwaited e (s.entryBatch e .a) (s.entryBatch e .b)
    else s.gaugeWrite e).endTransaction.requestGauge

theorem State.gaugeCompleted_eq (s : State) (e : GaugeEntry) : s.gaugeCompleted e = (s.gaugeEnded e).settle := rfl

section Effects

variable {runs : Prop} {s : State} (h : s.requestsMeant runs)
include h

theorem State.requestsMeant.askRefresh (r : Refresh) : ((s.setRefresh r).waitRefresh).requestsMeant runs :=
  ⟨h.gauge, id, h.link⟩

theorem State.requestsMeant.requestRefresh : s.requestRefresh.requestsMeant runs := h.askRefresh _

theorem State.requestsMeant.refreshAtCompletion : s.refreshAtCompletion.requestsMeant runs := by
  unfold State.refreshAtCompletion
  dsimp only
  split
  · exact h.requestRefresh
  · split
    · exact h.requestRefresh
    · exact h
    · have counted : (s.setRefresh { s.refresh with count := s.refresh.count + 1 }).requestsMeant runs := h.of_view
      split
      · exact counted.requestRefresh
      · exact counted

theorem State.requestsMeant.appendEntry (e : GaugeEntry) : (s.appendEntry e).requestsMeant runs :=
  h.requestGauge (t := s.setGauge (s.gauge ++ [e]))

theorem State.requestsMeant.appendPreset (c : CellId) : (s.appendPreset c).requestsMeant runs := by
  unfold State.appendPreset
  split
  · exact h
  · exact h.appendEntry _

/-! ### The scan and the allocation -/

theorem State.requestsMeant.blocksAtScan (r : ScanRecord) (b : Bool) : (s.blocksAtScan r b).requestsMeant runs := by
  have counted : ((s.cellsAtScan r b).countersAtScan r).requestsMeant runs := by
    refine State.requestsMeant.appendEntry ?_ _
    exact h.of_view
  unfold State.blocksAtScan
  exact counted.of_view

theorem State.requestsMeant.scanReading (r : ScanRecord) (v : Int) (b : Bool) :
    (s.scanReading r v b).requestsMeant runs := by
  have completed : ∀ r, (s.scanCompletes r b).requestsMeant runs := fun r =>
    State.requestsMeant.of_view (State.requestsMeant.blocksAtScan (s := s.storeScan r) h.of_view r b)
      (by simp [State.scanCompletes]) (by simp [State.scanCompletes]) (by simp [State.scanCompletes])
      (by simp [State.scanCompletes])
  unfold State.scanReading
  dsimp only
  split
  · exact completed _
  · exact h.of_view

theorem State.requestsMeant.applyToCell (al : Allocation) (sh : CellShare) (kept : Bool) (c : CellId) :
    (s.applyToCell al sh kept c).requestsMeant runs := by
  unfold State.applyToCell
  dsimp only
  split
  · unfold State.appendFull
    split
    · exact h.of_view
    · refine State.requestsMeant.appendEntry ?_ _
      exact h.of_view
  · exact h.of_view

theorem State.requestsMeant.handOn (al : Allocation) (cp : CounterPoint) (res : ShareResult) (hinge : Nat) :
    (s.handOn al cp res hinge).requestsMeant runs := by
  have applied : ∀ x y, ((s.applyToCell al res.cells.a x .a).applyToCell al res.cells.b y .b).requestsMeant runs :=
    fun x y => (h.applyToCell ..).applyToCell ..
  have handed : ∀ {u : State}, u.requestsMeant runs → ∀ t,
      (((u.setTransfer t).writeResults al cp res).changeoverCompleted).refreshAtCompletion.tick.requestsMeant runs :=
    fun hu _ => State.requestsMeant.of_view (State.requestsMeant.refreshAtCompletion hu.of_view) rfl rfl rfl rfl
  exact handed (applied _ _) _

theorem State.requestsMeant.completeAllocation : s.completeAllocation.requestsMeant runs := by
  have worked : (s.workStages 4 true).requestsMeant runs := h.of_view
  unfold State.completeAllocation
  dsimp only
  split
  · exact h
  · split
    · exact worked.handOn ..
    · exact h

theorem State.requestsMeant.gaugeEnded (e : GaugeEntry) : (s.gaugeEnded e).requestsMeant runs := by
  have awaited : ∀ (u : State) i j, (u.gaugeAwaited e i j).arbiter.blockView = u.arbiter.blockView := fun u i j => by
    cases e <;> simp [State.gaugeAwaited, State.handBatches]
  unfold State.gaugeEnded
  split
  · exact h.requestGauge (by simp [awaited])
  · exact h.requestGauge

/-! ### The resets -/

theorem State.requestsMeant.softReset : s.softReset.requestsMeant runs := by
  unfold State.softReset
  split
  · unfold State.softResetBlocks
    dsimp only
    split
    · refine State.requestsMeant.requestRefresh ?_
      refine h.of_view
    · refine State.requestsMeant.requestRefresh ?_
      exact h.of_view
  · exact h

omit h in
theorem State.requestsMeant_shipWake (s : State) : s.shipWake.requestsMeant runs :=
  State.requestsMeant.requestRefresh
    (State.requestsMeant_of_none (by simp [State.wakeLink, Reset.arbiter]) (by simp [State.wakeLink, Reset.arbiter])
      (by simp [State.wakeLink, Reset.arbiter]))

theorem State.requestsMeant.enterShip : s.enterShip.requestsMeant runs := by
  unfold State.enterShip
  dsimp only
  split
  · exact State.requestsMeant_shipWake _
  · have withdrawn : (s.abandonScan.abandonAllocation.stopSeqForShip).withdrawRefresh.requestsMeant runs :=
      State.requestsMeant.askRefresh (s := s.abandonScan.abandonAllocation.stopSeqForShip) h.of_view _
    exact ⟨withdrawn.gauge, withdrawn.refresh, fun _ h => by cases h⟩

omit h in
theorem State.requestsMeant_powerOnReset (s : State) : s.powerOnReset.requestsMeant runs :=
  State.requestsMeant_of_none rfl rfl rfl

theorem State.requestsMeant.shipSlotExpires : s.shipSlotExpires.requestsMeant runs := by
  unfold State.shipSlotExpires
  split
  · split
    · exact h.of_view
    · exact h.of_view
    · exact State.requestsMeant.enterShip h.of_view
    · exact h
  · exact h

theorem State.requestsMeant.acceptShip : s.acceptShip.requestsMeant runs := by
  have accepted : ∀ x, (s.setControl x).requestsMeant runs := fun x => h.of_view
  have stopped : ∀ {u : State}, u.requestsMeant runs → (u.forceOff .ship).requestsMeant runs := fun hu => hu.of_view
  have thawed : ∀ {u : State}, u.requestsMeant runs → ((u.putHoldBoth .quiet false).thaw).requestsMeant runs :=
    fun hu => hu.of_view
  have ready : ∀ x, (State.forceOff (if s.control.state = .quiet then ((s.setControl x).putHoldBoth .quiet false).thaw
      else s.setControl x) .ship).requestsMeant runs := fun x => by
    split
    · exact stopped (thawed (accepted x))
    · exact stopped (accepted x)
  have opened : ∀ {u : State}, u.requestsMeant runs → u.openCellB.openCellA.openInput.requestsMeant runs :=
    fun hu => State.requestsMeant.enterShip hu.of_view
  unfold State.acceptShip
  dsimp only
  split
  · exact opened (ready _)
  · exact ready _

theorem State.requestsMeant.ship : s.ship.requestsMeant runs := by
  have refused : s.refuseShip.requestsMeant runs := h.of_view
  have accepted := h.acceptShip
  unfold State.ship
  split
  · split
    · exact accepted
    · exact refused
  · split
    · exact accepted
    · exact refused
  · exact refused
  · exact h
  · exact h

theorem State.requestsMeant.attachWake (i : Input) : (s.attachWake i).requestsMeant runs := by
  unfold State.attachWake
  split
  · split
    · split
      · exact h
      · exact h.of_view
    · exact State.requestsMeant_shipWake _
    · exact h
    · exact h
    · exact h
  · exact h

theorem State.requestsMeant.qreqRises : s.qreqRises.requestsMeant runs := by
  have rose : (s.setQreq true).requestsMeant runs := h.of_view
  unfold State.qreqRises
  dsimp only
  split
  · exact h
  · split
    · exact rose.of_view
    · exact rose

/-! ### The conversions, and the completions of the channels' and the sequencer's transactions -/

/-- A scan conversion changes nothing, or leaves a state of this kind to the grants. -/
theorem State.requestsMeant.scanConverted (x : Analog) (b : Bool) :
    s.scanConverted x b = s ∨ ∃ u : State, u.requestsMeant runs ∧ s.scanConverted x b = u.settle := by
  have ended : s.endConversion.requestsMeant runs := h.of_view
  unfold State.scanConverted
  split
  · split
    · exact .inr ⟨_, ended.scanReading .., rfl⟩
    · exact .inl rfl
  · exact .inl rfl

theorem State.requestsMeant.probeConverted (x : Analog) :
    s.probeConverted x = s ∨ ∃ u : State, u.requestsMeant runs ∧ s.probeConverted x = u.settle := by
  have taken : ∀ (dropped : Bool) v,
      (if dropped then s.endConversion else s.endConversion.takeReading v).requestsMeant runs := fun dropped v => by
    cases dropped
    · exact h.of_view
    · exact h.of_view
  unfold State.probeConverted
  split
  · split
    · exact .inr ⟨_, taken .., rfl⟩
    · exact .inl rfl
  · exact .inl rfl

theorem State.requestsMeant.profileFetchCompleted (c : CellId) (i : Nat) (ws : List Word) :
    (s.profileFetchCompleted c i ws).requestsMeant runs := by
  unfold State.profileFetchCompleted
  split
  · exact h.of_view
  · exact h.of_view

theorem State.requestsMeant.itemFetchCompleted (ws : List Word) : (s.itemFetchCompleted ws).requestsMeant runs := by
  unfold State.itemFetchCompleted
  split
  · exact h.of_view
  · exact h.of_view

theorem State.requestsMeant.seqWriteCompleted : s.seqWriteCompleted.requestsMeant runs := by
  unfold State.seqWriteCompleted
  split
  · exact h.of_view
  · exact h.of_view

/-! ### The grants -/

/-- A grant opens no request, and what a request still waiting stands for is left to it. -/
theorem State.requestsMeant.granted {t : State} (gauge : t.arbiter.gauge = true → s.arbiter.gauge = true)
    (refresh : t.arbiter.refresh = true → s.arbiter.refresh = true ∧ t.refresh = s.refresh)
    (link : t.arbiter.link = true → s.arbiter.link = true ∧ t.port = s.port) (list : t.gauge = s.gauge) :
    t.requestsMeant runs := by
  refine ⟨fun waits => list ▸ h.gauge (gauge waits), fun waits => ?_, fun p waits => ?_⟩
  · obtain ⟨waited, same⟩ := refresh waits
    exact same ▸ h.refresh waited
  · obtain ⟨waited, same⟩ := link waits
    exact same ▸ h.link p waited

theorem State.requestsMeant.grantGauge : s.grantGauge.requestsMeant runs := by
  unfold State.grantGauge
  split
  · exact h.granted (fun waits => by cases waits) (fun waits => ⟨waits, rfl⟩) (fun waits => ⟨waits, rfl⟩) rfl
  · exact h.granted (fun waits => by cases waits) (fun waits => ⟨waits, rfl⟩) (fun waits => ⟨waits, rfl⟩) rfl

theorem State.requestsMeant.grantLink : s.grantLink.requestsMeant runs := by
  have closed : s.grantLink.arbiter.link = false ∧ s.grantLink.arbiter.gauge = s.arbiter.gauge ∧
      s.grantLink.arbiter.refresh = s.arbiter.refresh := by
    unfold State.grantLink
    split
    · exact ⟨rfl, rfl, rfl⟩
    · dsimp only
      split <;> simp [State.beginTransaction]
  obtain ⟨link, gauge, refresh⟩ := closed
  exact h.granted (fun waits => gauge ▸ waits) (fun waits => ⟨refresh ▸ waits, by simp⟩)
    (fun waits => by simp [link] at waits) (by simp)

theorem State.requestsMeant.grantSeqWrite (i : Nat) (v : Word) : (s.grantSeqWrite i v).requestsMeant runs := by
  have same : (s.grantSeqWrite i v).arbiter.blockView = s.arbiter.blockView := by
    unfold State.grantSeqWrite
    dsimp only
    split <;> simp [State.beginTransaction, Arbiter.blockView]
  exact h.of_view same

theorem State.requestsMeant.grantRefresh : s.grantRefresh.requestsMeant runs := by
  unfold State.grantRefresh
  split
  · exact h.granted id (fun waits => by cases waits) (fun waits => ⟨waits, rfl⟩) rfl
  · exact h.granted id (fun waits => by cases waits) (fun waits => ⟨waits, rfl⟩) rfl

theorem State.requestsMeant.grantFirst : s.grantFirst.requestsMeant runs := by
  unfold State.grantFirst
  dsimp only
  split
  · exact h.grantGauge
  · split
    · exact h.granted id (fun waits => ⟨waits, rfl⟩) (fun waits => ⟨waits, rfl⟩) rfl
    · exact h.granted id (fun waits => ⟨waits, rfl⟩) (fun waits => ⟨waits, rfl⟩) rfl
    · split
      · exact h.grantLink
      · split
        · exact h.granted id (fun waits => ⟨waits, rfl⟩) (fun waits => ⟨waits, rfl⟩) rfl
        · exact h.grantSeqWrite _ _
        · split
          · exact h.grantRefresh
          · exact h

omit h in
/-- With a run that waits behind each request of LINK, an arbiter left free by a grant has no request (R170). -/
theorem State.grantFirst_free (h : s.requestsMeant True) (free : s.grantFirst.arbiter.underWay = none) :
    s.grantFirst.arbiter.idle := by
  unfold State.grantFirst at free
  dsimp only at free
  split at free
  next waits =>
    obtain ⟨e, rest, list⟩ := List.exists_cons_of_ne_nil (h.gauge waits)
    simp [State.grantGauge, list, State.beginTransaction] at free
  next gauge =>
    split at free
    · cases free
    · cases free
    next fa fb =>
      split at free
      next waits =>
        obtain ⟨p, taken⟩ := Option.isSome_iff_exists.mp
          ((takeWaiting_isSome s.mem s.port.ops).trans (h.link trivial waits))
        unfold State.grantLink at free
        rw [taken] at free
        dsimp only at free
        split at free
        · cases free
        · simp [State.beginTransaction] at free
      next link =>
        split at free
        · cases free
        · unfold State.grantSeqWrite at free
          dsimp only at free
          split at free <;> simp [State.beginTransaction] at free
        next sf sw =>
          split at free
          next waits =>
            obtain ⟨b, marked⟩ := Option.isSome_iff_exists.mp
              ((lowestMark_isSome s.refresh.marks).trans (h.refresh waits))
            simp [State.grantRefresh, marked, State.beginTransaction] at free
          next refresh =>
            simp only [Bool.not_eq_true] at gauge link refresh
            have nothing : s.grantFirst = s := by simp [State.grantFirst, gauge, link, refresh, fa, fb, sf, sw]
            rw [nothing]
            exact ⟨gauge, fa, fb, link, sf, sw, refresh⟩

theorem State.requestsMeant.settle : s.settle.requestsMeant runs := by
  have converted : s.convert.requestsMeant runs := h.of_view
  unfold State.settle State.arbitrate
  split
  · exact converted
  · exact converted.grantFirst

omit h in
/-- Both grants settle the arbiter, when every request has something to carry out. -/
theorem State.arbiterSettled_settle (h : s.requestsMeant True) : s.settle.arbiterSettled := by
  refine (State.arbiterSettled_iff _).mpr ⟨h.settle, ?_⟩
  have converted : s.convert.requestsMeant True := h.of_view
  unfold State.settle State.arbitrate
  split
  next busy =>
    intro free
    rw [free] at busy
    cases busy
  next => exact State.grantFirst_free converted

end Effects

end Sys2Proof.Machine
end

section
/-! PROOFS. O10: no request waits while the arbiter is free, and every waiting request has something to carry out (R36, R170,
R172). -/

namespace Sys2Proof.Machine

-- One proof at a time: proofs elaborated side by side each hold a thread's stack.
set_option Elab.async false

/-! ### The moves at the port -/

/-- Every effect keeps what the requests of the counters and of the refresh stand for, the moves at the port too. -/
theorem requestsMeant_stepKeeps : StepKeeps (State.requestsMeant False) where
  soft _ h := h.softReset
  skipItem _ h := h.of_view
  skipList _ h := h.of_view
  ship _ h := h.ship
  release _ _ h := h.of_view
  start _ _ h := h.of_view
  stop _ _ h := h.of_view
  clear _ h := h.of_view
  preset _ c h := h.appendPreset c
  next _ _ h := h.of_view
  note _ _ h := h.of_view
  mask _ _ h := h.of_view
  queue _ _ h := h.of_view
  settle _ h := h.settle
  port _ _ _ h := ⟨h.gauge, h.refresh, False.elim⟩
  endTransaction _ h := h.of_view
  requestLink _ h := ⟨h.gauge, h.refresh, False.elim⟩
  readDone _ h := h.of_view
  por s _ := s.requestsMeant_powerOnReset
  begins s _ h := h.of_view (ops := s.beginStartup_ops)
  slot _ h := h.of_view
  rise _ h := h.of_view
  fall s h := by
    unfold State.qreqFalls
    dsimp only
    split
    · split
      · refine State.requestsMeant.settle ?_
        exact h.of_view
      · exact h.of_view
    · exact h
  fast _ _ _ _ h := h.of_view
  collapse _ _ h := h.of_view
  wake _ _ i h := h.attachWake i
  shipSlot _ _ h := h.shipSlotExpires
  period _ _ h := by
    refine State.requestsMeant.settle ?_
    exact h.of_view
  scan _ x b h := by
    rcases h.scanConverted x b with same | ⟨u, hu, eq⟩
    · rwa [same]
    · exact eq ▸ hu.settle
  probe _ x h := by
    rcases h.probeConverted x with same | ⟨u, hu, eq⟩
    · rwa [same]
    · exact eq ▸ hu.settle
  gauge _ e h := (h.gaugeEnded e).settle
  alloc _ _ h := h.completeAllocation
  waitRefresh s h := h.askRefresh s.refresh
  fetch _ c i ws h := h.profileFetchCompleted c i ws
  item _ ws h := h.itemFetchCompleted ws
  written _ h := h.seqWriteCompleted

/-- The request of LINK is made by the port's operations as they stand (R167). -/
theorem State.requestsMeant_requestLink {s : State} (h : s.requestsMeant False) : s.requestLink.requestsMeant True := by
  refine ⟨h.gauge, h.refresh, fun _ waits => ?_⟩
  have first : (match firstOutstanding s.port.ops with
      | some (.run r) => r.phase == .waiting
      | _ => false) = true := waits
  show s.port.ops.any PortOp.waits = true
  split at first
  next r found => exact List.any_eq_true.mpr ⟨.run r, List.mem_of_find?_eq_some found, first⟩
  next => cases first

theorem State.arbiterSettled_busEvent {s : State} (h : s.arbiterSettled) (e : FrameEvent) :
    (s.busEvent e).arbiterSettled := by
  have meant := ((State.arbiterSettled_iff s).mp h).1.weaken
  unfold State.busEvent
  split
  · exact State.arbiterSettled_settle (State.requestsMeant_requestLink (requestsMeant_stepKeeps.frameEvent meant e))
  · exact h

theorem State.arbiterSettled_linkCompleted {s : State} (h : s.requestsMeant False) : s.linkCompleted.arbiterSettled :=
  State.arbiterSettled_settle (State.requestsMeant_requestLink (requestsMeant_stepKeeps.actHeld
    (requestsMeant_stepKeeps.endTransaction _ (requestsMeant_stepKeeps.setOps h _))))

/-! ### Effects that no grant follows -/

/-- Where the requests and the transaction under way stand, the arbiter stays settled. -/
theorem State.arbiterSettled.of_frame {s t : State} (h : s.arbiterSettled) (arbiter : t.arbiter = s.arbiter := by simp)
    (gauge : t.gauge = s.gauge := by simp) (refresh : t.refresh.marks = s.refresh.marks := by simp)
    (ops : t.port.ops = s.port.ops := by simp) : t.arbiterSettled := by
  obtain ⟨meant, free⟩ := (State.arbiterSettled_iff s).mp h
  exact (State.arbiterSettled_iff t).mpr ⟨meant.of_view (by rw [arbiter]) gauge refresh ops, arbiter ▸ free⟩

/-- A request withdrawn leaves the arbiter settled (R66, R171). -/
theorem State.arbiterSettled.dropTable {s : State} (h : s.arbiterSettled) (c : CellId) :
    (s.dropTable c).arbiterSettled := by
  obtain ⟨meant, free⟩ := (State.arbiterSettled_iff s).mp h
  refine (State.arbiterSettled_iff _).mpr ⟨meant.of_view, ?_⟩
  unfold State.dropTable State.discardFetch
  dsimp only
  split
  · exact free
  · intro idle
    obtain ⟨gauge, fetchA, fetchB, rest⟩ := free idle
    cases c with
    | a => exact ⟨gauge, rfl, fetchB, rest⟩
    | b => exact ⟨gauge, fetchA, rfl, rest⟩

theorem State.arbiterSettled.profileStop {s : State} (h : s.arbiterSettled) (c : CellId) :
    (s.profileStop c).arbiterSettled := by
  unfold State.profileStop
  dsimp only
  split
  · exact h
  · exact (h.dropTable c).of_frame

theorem State.arbiterSettled.startFollowing {s : State} (h : s.arbiterSettled) : s.startFollowing.arbiterSettled :=
  (h.dropTable .b).of_frame rfl rfl rfl rfl

theorem State.arbiterSettled.withdrawSeq {s : State} (h : s.arbiterSettled) : s.withdrawSeq.arbiterSettled := by
  obtain ⟨meant, free⟩ := (State.arbiterSettled_iff s).mp h
  refine (State.arbiterSettled_iff _).mpr ⟨meant.of_view, fun idle => ?_⟩
  obtain ⟨gauge, fetchA, fetchB, link, -, -, refresh⟩ := free idle
  exact ⟨gauge, fetchA, fetchB, link, rfl, rfl, refresh⟩

/-- An accepting write to NEXT that starts no list asks for nothing (R141). -/
theorem State.arbiterSettled.writeNext {s : State} (h : s.arbiterSettled) (v : Word) (quiet : s.nextStarts v = false) :
    (s.writeNext v).arbiterSettled := by
  unfold State.writeNext
  split
  · exact h
  next free =>
    split
    next index =>
      dsimp only
      split
      next idle => simp [State.nextStarts, free, index, idle] at quiet
      next => exact h.of_frame
    next => exact h

theorem Sequencer.effective_of_awake {q : Sequencer} (h : q.state ≠ .frozen) : q.effective = q.state := by
  unfold Sequencer.effective
  split
  next frozen => exact absurd frozen h
  next => rfl

/-- A SKIP_ITEM that goes on to no item asks for nothing (R158). -/
theorem State.arbiterSettled.skipItem {s : State} (h : s.arbiterSettled) (quiet : s.skipItemGoesOn = false) :
    s.skipItem.arbiterSettled := by
  by_cases frozen : s.seq.state = .frozen
  · have toNext : ∀ {u : State}, u.seq.state = .frozen → u.arbiterSettled → u.skipToNext.arbiterSettled := by
      intro u stands hu
      rw [State.skipToNext, if_pos (State.seqFrozen_iff.mpr stands)]
      exact hu.of_frame
    unfold State.skipItem
    split
    · exact toNext frozen h
    · exact toNext frozen (h.of_frame)
    · exact toNext frozen h
    all_goals exact h
  · have still : s.skipItem = s := by
      unfold State.skipItem
      rw [Sequencer.effective_of_awake frozen]
      unfold State.skipItemGoesOn at quiet
      split at quiet <;> simp_all
    rw [still]
    exact h

/-- A SKIP_LIST that starts no list asks for nothing (R159). -/
theorem State.arbiterSettled.skipList {s : State} (h : s.arbiterSettled) (quiet : s.skipListGoesOn = false) :
    s.skipList.arbiterSettled := by
  have withdrawn : s.withdrawSeq.cancelSample.arbiterSettled := h.withdrawSeq.of_frame
  have stopped : s.seq.state = .idle ∨ s.seq.state = .frozen := by
    simpa [State.skipListGoesOn, or_iff_not_imp_left] using quiet
  unfold State.skipList
  split
  · exact h
  next busy =>
    dsimp only
    split
    · exact withdrawn.of_frame
    next awake =>
      rcases stopped with idle | frozen
      · exact absurd (Sequencer.effective_of_awake (by simp [idle]) |>.trans idle) busy
      · exact absurd (State.seqFrozen_iff.mpr frozen) awake

/-- A slot expiry of SHIP_ENTRY but the last opens a cell path and asks for nothing (R186). -/
theorem State.arbiterSettled.shipSlotExpires {s : State} (h : s.arbiterSettled) (early : s.control.shipStep ≠ 3) :
    s.shipSlotExpires.arbiterSettled := by
  unfold State.shipSlotExpires
  split
  · split
    · exact h.of_frame
    · exact h.of_frame
    next last => exact absurd last early
    · exact h
  · exact h

theorem State.arbiterSettled.ship {s : State} (h : s.arbiterSettled) (refused : s.shipAccepted = false) :
    s.ship.arbiterSettled := by
  have unchanged : s.refuseShip.arbiterSettled := h.of_frame
  unfold State.ship
  rw [refused]
  split <;> assumption

/-- An attach-wake event outside SHIP asks for nothing (R187). -/
theorem State.arbiterSettled.attachWake {s : State} (h : s.arbiterSettled) (i : Input) (awake : s.control.state ≠ .ship) :
    (s.attachWake i).arbiterSettled := by
  unfold State.attachWake
  split
  · split
    · split
      · exact h
      · exact h.of_frame
    next ship => exact absurd ship awake
    all_goals exact h
  · exact h

/-! ### Every step -/

theorem State.arbiterSettled_after {s : State} (h : s.arbiterSettled) (c : Instr) : (s.after c).arbiterSettled := by
  have meant := ((State.arbiterSettled_iff s).mp h).1
  have settled : ∀ {t : State}, t.requestsMeant True → t.settle.arbiterSettled := State.arbiterSettled_settle
  have settledIf : ∀ {t : State} {b : Bool}, t.requestsMeant True → (b = false → t.arbiterSettled) →
      (t.settleIf b).arbiterSettled := fun {t b} ht quiet => by
    cases b
    · exact quiet rfl
    · exact settled ht
  have serving : ∀ {t : State}, t.arbiterSettled → (s.whenServing t).arbiterSettled := fun ht => by
    unfold State.whenServing
    split
    · exact ht
    · exact h
  have preset : ∀ c, ((s.appendPreset c).settleIf (!mergesInto s.gauge c (.preset c))).arbiterSettled := fun c =>
    settledIf (meant.appendPreset c) fun merges => by
      rw [State.appendPreset, if_pos (by simpa using merges)]
      exact h
  have guarded : ∀ {b : Bool} {t : State}, (b = true → t.arbiterSettled) →
      (if b = true then t else s).arbiterSettled := fun ht => by
    split
    next due => exact ht due
    next => exact h
  unfold State.after
  cases c <;> simp only [exec]
  case por => exact (State.arbiterSettled_iff _).mpr ⟨s.requestsMeant_powerOnReset, fun _ => ⟨rfl, rfl, rfl, rfl, rfl, rfl, rfl⟩⟩
  case startupBegin => exact guarded fun _ => h.of_frame (ops := s.beginStartup_ops)
  case startupSlotExpiry => exact h.of_frame (t := s.startupSlot)
  case linkFrame l =>
    exact State.busEvents_induction State.arbiterSettled (fun _ e hs => State.arbiterSettled_busEvent hs e) l s h
  case linkReadRunCompletion => exact guarded fun _ => State.arbiterSettled_linkCompleted meant.weaken
  case linkWriteRunCompletion => exact guarded fun _ => State.arbiterSettled_linkCompleted meant.weaken
  case nextWrite v => exact serving (settledIf meant.of_view (h.writeNext v))
  case doneRead => exact serving (h.of_frame (ops := by simp [State.shiftOut]))
  case noteWrite v => exact serving h.of_frame
  case maskWrite v => exact serving h.of_frame
  case registerWriteDropped => exact h
  case softReset =>
    refine serving (settledIf meant.softReset fun ignored => ?_)
    rw [State.softReset, ignored]
    exact h
  case skipItem => exact serving (settledIf meant.of_view h.skipItem)
  case skipList => exact serving (settledIf meant.of_view h.skipList)
  case ship => exact serving (settledIf meant.ship h.ship)
  case releaseA => exact serving h.of_frame
  case releaseB => exact serving h.of_frame
  case profileStartA => exact serving (settled meant.of_view)
  case profileStartB =>
    refine serving (settledIf meant.of_view fun follows => ?_)
    rw [State.profileStart, if_neg (by simpa using follows)]
    exact h.startFollowing
  case profileStopA => exact serving (h.profileStop .a)
  case profileStopB => exact serving (h.profileStop .b)
  case clearWindow => exact serving h.of_frame
  case presetA => exact serving (preset .a)
  case presetB => exact serving (preset .b)
  case qreqRise => exact h.of_frame (t := s.qreqRises)
  case qreqFall =>
    dsimp only [execQreqFall]
    unfold State.qreqFalls
    dsimp only
    split
    · split
      · refine settled ?_
        exact meant.of_view
      · exact h.of_frame
    · exact h
  case fastComparatorEvent x => exact guarded fun _ => h.of_frame
  case inputCollapseEvent i => exact h.of_frame (t := s.collapseEvent i)
  case attachWakeEvent i =>
    exact guarded fun _ => settledIf (meant.attachWake i) fun awake => h.attachWake i (by simpa using awake)
  case shipSlotExpiry =>
    dsimp only [execShipSlotExpiry]
    split
    · exact settledIf meant.shipSlotExpires fun early => h.shipSlotExpires (by simpa using early)
    · exact h
  case periodExpiry => exact guarded fun _ => settled meant.of_view
  case waitExpiry => exact guarded fun _ => settled meant.of_view
  case scanConversionCompletion x b =>
    dsimp only [execScanConversionCompletion]
    rcases meant.scanConverted x b with same | ⟨u, hu, eq⟩
    · rwa [same]
    · exact eq ▸ settled hu
  case probeConversionCompletion x =>
    dsimp only [execProbeConversionCompletion]
    rcases meant.probeConverted x with same | ⟨u, hu, eq⟩
    · rwa [same]
    · exact eq ▸ settled hu
  case gaugeIntegrate => dsimp only [execGaugeIntegrate]; split; exacts [settled (meant.gaugeEnded _), h]
  case gaugeFull => dsimp only [execGaugeFull]; split; exacts [settled (meant.gaugeEnded _), h]
  case gaugePreset => dsimp only [execGaugePreset]; split; exacts [settled (meant.gaugeEnded _), h]
  case allocationCompletion => exact guarded fun _ => settled meant.completeAllocation
  case restExpiry => exact guarded fun _ => settled meant.completeAllocation
  case refreshBlockWrite =>
    dsimp only [execRefreshBlockWrite]
    split
    · exact settled (State.requestsMeant.askRefresh (s := s.endTransaction) meant.of_view s.refresh)
    · exact h
  case profileFetchCompletion =>
    dsimp only [execProfileFetchCompletion]
    split; exacts [settled (meant.profileFetchCompleted ..), h]
  case itemFetchCompletion =>
    dsimp only [execItemFetchCompletion]
    split; exacts [settled (meant.itemFetchCompleted _), h]
  case seqWriteCompletion =>
    dsimp only [execSeqWriteCompletion]
    split; exacts [settled meant.seqWriteCompleted, h]

/-- Settles O10: each effect leaves a waiting request what it asks for, and every effect that makes a request is followed by
the grants, which leave none waiting at a free arbiter. -/
theorem stepKeepsArbiterSettled : Obligations.StepKeepsArbiterSettled := by
  unfold Obligations.StepKeepsArbiterSettled
  exact fun _ _ hs h =>
    step_keeps State.arbiterSettled (fun _ _ h => h.of_frame) (fun c _ h => State.arbiterSettled_after h c) hs h

end Sys2Proof.Machine
end

section
/-! PROOFS. O36 and O49: the gauge list, the words a GAUGE transaction writes, and the calibrations (R36, R40, R41, R44). -/

namespace Sys2Proof.Machine

-- One proof at a time: proofs elaborated side by side each hold a thread's stack.
set_option Elab.async false

/-! ### The gauge list -/

theorem exec_presetOf {s : State} (serving : s.port.serving = true) (c : CellId) :
    exec (presetOf c) s = .next ((s.appendPreset c).settleIf (!mergesInto s.gauge c (.preset c))) := by
  cases c with
  | a => exact congrArg Host.Outcome.next (if_pos serving)
  | b => exact congrArg Host.Outcome.next (if_pos serving)

theorem mergesInto_iff {l : List GaugeEntry} {c : CellId} {e : GaugeEntry} :
    mergesInto l c e = true ↔ (l.filter (GaugeEntry.concerns c)).getLast? = some e := beq_iff_eq

/-- Settles O36: the request is merged by the last entry of the cell, and appended otherwise. -/
theorem presetAppendsEntry : Obligations.PresetAppendsEntry := by
  unfold Obligations.PresetAppendsEntry
  refine fun s c serving => ⟨fun other => ?_, fun last => ?_⟩
  · have appends : mergesInto s.gauge c (.preset c) = false := Bool.eq_false_iff.mpr (mt mergesInto_iff.mp other)
    rw [exec_presetOf serving, State.appendPreset, appends, if_neg Bool.false_ne_true, State.appendEntry_eq]
    rfl
  · have merges := mergesInto_iff.mpr last
    rw [exec_presetOf serving, State.appendPreset, merges, if_pos rfl]
    rfl

/-! ### The counts of the two cells, as words (R35) -/

/-- A word after the write of a GAUGE transaction to one cell. -/
theorem State.readWord_setQF {s : State} (w : s.memoryCanonical) (c : CellId) (q f i : Nat) :
    (s.setQF c q f).readWord i =
      if i = cellBlock c + 2 then BitVec.ofNat 16 f
      else if i = cellBlock c + 1 then BitVec.ofNat 16 q
      else if i = cellBlock c then BitVec.ofNat 16 (q / 65536)
      else s.readWord i := by
  have area : cellBlock c + 2 < areaWords := by cases c <;> decide
  have high := Memory.writeWord_wf w (cellBlock c) (BitVec.ofNat 16 (q / 65536))
  have low := Memory.writeWord_wf high (cellBlock c + 1) (BitVec.ofNat 16 q)
  unfold State.setQF
  simp only [State.readWord, State.writeWord_fields]
  rw [Memory.readWord_writeWord low area, Memory.readWord_writeWord high (by omega),
    Memory.readWord_writeWord w (by omega)]

/-- A state that differs in no word but those of the two counts. -/
def State.sameSettings (s t : State) : Prop := ∀ i, isChargeWord i = false → t.readWord i = s.readWord i

theorem State.sameSettings_setQF {s : State} (w : s.memoryCanonical) (c : CellId) (q f : Nat) :
    s.sameSettings (s.setQF c q f) := by
  intro i other
  have apart : i ≠ cellBlock c + 2 ∧ i ≠ cellBlock c + 1 ∧ i ≠ cellBlock c := by
    cases c <;> simp [isChargeWord, cellBlock] at other ⊢ <;> omega
  obtain ⟨third, second, first⟩ := apart
  rw [State.readWord_setQF w, if_neg third, if_neg second, if_neg first]

theorem State.sameSettings.cap {s t : State} (h : s.sameSettings t) (c : CellId) : t.cap c = s.cap c := by
  cases c with
  | a => exact congrArg (fun w : Word => clampNat 100 8000 w.toNat) (h 0x08A rfl)
  | b => exact congrArg (fun w : Word => clampNat 100 8000 w.toNat) (h 0x08B rfl)

theorem State.sameSettings.trans {s t u : State} (h : s.sameSettings t) (k : t.sameSettings u) : s.sameSettings u :=
  fun i other => (k i other).trans (h i other)

/-- Q and F of either cell after the write of a GAUGE transaction to one, for values the words hold. -/
theorem State.counts_setQF {s : State} (w : s.memoryCanonical) (c d : CellId) {q f : Nat} (hq : q < 4294967296)
    (hf : f < 65536) :
    (s.setQF c q f).q d = (if d = c then q else s.q d) ∧ (s.setQF c q f).f d = (if d = c then f else s.f d) := by
  have low : q % 65536 + q / 65536 * 65536 = q := Nat.mod_add_div' q 65536
  have high : q / 65536 < 65536 := by omega
  simp only [State.q, State.f, State.readWord_setQF w]
  cases c <;> cases d <;>
    simp [cellBlock, Nat.mod_eq_of_lt hf, Nat.mod_eq_of_lt high, Nat.add_comm _ (q % 65536), low]

theorem State.capQ_le (s : State) (c : CellId) : s.capQ c ≤ 800000 := by
  have cap : s.cap c ≤ 8000 := by cases c <;> exact Nat.min_le_left _ _
  exact Nat.mul_le_mul_right 100 cap

theorem otherCell_ne (c : CellId) : otherCell c ≠ c := by cases c <;> decide

/-- A calibration: the named cell takes a count and F 0, and the other's stand, clamped (R40; log entry 24). -/
theorem State.counts_calibrated {s : State} (w : s.memoryCanonical) (c : CellId) {q : Nat} (hq : q ≤ 800000) :
    let t := (s.setQF c q 0).clampQF (otherCell c)
    t.q c = q ∧ t.f c = 0 ∧ t.q (otherCell c) = min (s.q (otherCell c)) (s.cap (otherCell c) * 100) ∧
      t.f (otherCell c) = min (s.f (otherCell c)) 35999 ∧ s.sameSettings t := by
  intro t
  have other := otherCell_ne c
  obtain ⟨qc, fc⟩ := State.counts_setQF w c c (q := q) (f := 0) (by omega) (by omega)
  obtain ⟨qd, fd⟩ := State.counts_setQF w c (otherCell c) (q := q) (f := 0) (by omega) (by omega)
  rw [if_pos rfl] at qc fc
  rw [if_neg other] at qd fd
  have same := State.sameSettings_setQF w c q 0
  have wu : (s.setQF c q 0).memoryCanonical := State.setQF_wf w c q 0
  have cap : (s.setQF c q 0).capQ (otherCell c) = s.cap (otherCell c) * 100 := congrArg (· * 100) (same.cap _)
  have bound := s.capQ_le (otherCell c)
  have clamped := fun d => State.counts_setQF wu (otherCell c) d
    (q := min (s.q (otherCell c)) (s.cap (otherCell c) * 100)) (f := min (s.f (otherCell c)) 35999)
    (by unfold State.capQ at bound; omega) (by omega)
  have ht : t = (s.setQF c q 0).setQF (otherCell c) (min (s.q (otherCell c)) (s.cap (otherCell c) * 100))
      (min (s.f (otherCell c)) 35999) := by
    rw [← qd, ← fd, ← cap]
    rfl
  refine ⟨?_, ?_, ?_, ?_, same.trans (State.sameSettings_setQF wu _ _ _)⟩
  · rw [ht, (clamped c).1, if_neg other.symm, qc]
  · rw [ht, (clamped c).2, if_neg other.symm, fc]
  · rw [ht, (clamped _).1, if_pos rfl]
  · rw [ht, (clamped _).2, if_pos rfl]

/-! ### The end of a transaction of the counters -/

theorem State.gaugeWrite_eq (s : State) (e : GaugeEntry) : s.gaugeWrite e = { s with mem := (s.gaugeWrite e).mem } :=
  State.eq_of_fields (by simp) (by simp) (by simp) (by simp) (by simp) (by simp) (by simp) (by simp) (by simp) (by simp)
    (by simp) rfl (by simp) (by simp) (by simp) (by simp) (by simp) (by simp) (by simp)

/-- The counters' transaction ended, GAUGE waits while an entry is left (R36). -/
theorem State.requestGauge_endTransaction (s : State) : s.endTransaction.requestGauge = { s with
    arbiter := { s.arbiter with underWay := none, awaited := false, gauge := !s.gauge.isEmpty } } :=
  congrArg (fun b => ({ s with arbiter := { s.arbiter with underWay := none, awaited := false, gauge := b } } : State))
    (Bool.and_true _)

/-- A calibration leaves everything but the words, the list and the arbiter as it was. -/
theorem State.gaugeEnded_of_calibration (s : State) {e : GaugeEntry} (calibrates : e.isIntegrate = false) :
    let left := if s.arbiter.awaited then s.gauge.tail else s.gauge
    s.gaugeEnded e = { s with
      mem := (s.gaugeWrite e).mem
      gauge := left
      arbiter := { s.arbiter with underWay := none, awaited := false, gauge := !left.isEmpty } } := by
  have taken : ∀ i j, (s.gaugeWrite e).gaugeAwaited e i j = (s.gaugeWrite e).setGauge s.gauge.tail := fun i j => by
    cases e with
    | integrate => cases calibrates
    | full c => simp [State.gaugeAwaited]
    | preset c => simp [State.gaugeAwaited]
  intro left
  have written := s.gaugeWrite_eq e
  have effect : (if s.arbiter.awaited then (s.gaugeWrite e).gaugeAwaited e (s.entryBatch e .a) (s.entryBatch e .b)
      else s.gaugeWrite e) = { s with mem := (s.gaugeWrite e).mem, gauge := left } := by
    rw [taken]
    generalize (s.gaugeWrite e).mem = m at written
    rw [written]
    show _ = { s with mem := m, gauge := if s.arbiter.awaited then s.gauge.tail else s.gauge }
    cases s.arbiter.awaited with
    | true => rfl
    | false => rfl
  unfold State.gaugeEnded
  rw [effect]
  exact State.requestGauge_endTransaction _

/-- The words at the end of a transaction are those it wrote. -/
theorem State.gaugeEnded_words (s : State) (e : GaugeEntry) :
    (∀ c, (s.gaugeEnded e).q c = (s.gaugeWrite e).q c) ∧ (∀ c, (s.gaugeEnded e).f c = (s.gaugeWrite e).f c) ∧
      ∀ i, (s.gaugeEnded e).readWord i = (s.gaugeWrite e).readWord i := by
  have mem : (s.gaugeEnded e).mem = (s.gaugeWrite e).mem := by
    unfold State.gaugeEnded
    split <;> simp
  have words : ∀ i, (s.gaugeEnded e).readWord i = (s.gaugeWrite e).readWord i := fun i => by rw [State.readWord, mem]; rfl
  exact ⟨fun c => by simp only [State.q, words], fun c => by simp only [State.f, words], words⟩

/-- Settles O49: the named cell takes its count, and the other cell's stand within their ranges. -/
theorem gaugeCalibrates : Obligations.GaugeCalibrates := by
  unfold Obligations.GaugeCalibrates
  have ended : ∀ (s : State) (c : CellId) (e : GaugeEntry) (q : Nat), s.memoryCanonical → e.isIntegrate = false →
      q ≤ 800000 → s.gaugeWrite e = (s.setQF c q 0).clampQF (otherCell c) →
      let left := if s.arbiter.awaited then s.gauge.tail else s.gauge
      let t := s.gaugeEnded e
      t.q c = q ∧ t.f c = 0 ∧ t.q (otherCell c) = min (s.q (otherCell c)) (s.cap (otherCell c) * 100) ∧
        t.f (otherCell c) = min (s.f (otherCell c)) 35999 ∧
        (∀ i, isChargeWord i = false → i < 0x1000 → t.readWord i = s.readWord i) ∧
        t = { s with mem := t.mem, gauge := left,
                     arbiter := { s.arbiter with underWay := none, awaited := false, gauge := !left.isEmpty } } := by
    intro s c e q w calibrates bound write
    obtain ⟨hq, hf, words⟩ := s.gaugeEnded_words e
    obtain ⟨qc, fc, qd, fd, same⟩ := State.counts_calibrated w c bound
    have whole := s.gaugeEnded_of_calibration calibrates
    rw [← write] at qc fc qd fd same
    refine ⟨(hq c).trans qc, (hf c).trans fc, (hq _).trans qd, (hf _).trans fd,
      fun i other _ => (words i).trans (same i other), ?_⟩
    generalize (s.gaugeWrite e).mem = m at whole
    rw [whole]
  refine ⟨fun s c w entry => ⟨s.gaugeEnded (.full c), ?_, ended s c _ _ w rfl (s.capQ_le c) rfl⟩,
    fun s c w entry => ⟨s.gaugeEnded (.preset c), ?_, ended s c _ _ w rfl
      ((Nat.min_le_right (s.preset c) (s.capQ c)).trans (s.capQ_le c)) rfl⟩⟩
  · simp only [exec, execGaugeFull, entry, State.gaugeCompleted_eq]
  · simp only [exec, execGaugePreset, entry, State.gaugeCompleted_eq]

end Sys2Proof.Machine
end

section
/-! PROOFS. O47: an INTEGRATE integrates both cells, and is the counter point of the allocation whose own it is (R38, R63,
R64, R80, R87). -/

namespace Sys2Proof.Machine

-- One proof at a time: proofs elaborated side by side each hold a thread's stack.
set_option Elab.async false

/-! ### The sum, the floor and the remainder (R38) -/

theorem quantaOf_eq (f : Nat) (current : Int) (t : Nat) : quantaOf f current t = ((f : Int) + current * t) / 36000 :=
  Int.fdiv_eq_ediv_of_nonneg _ (by decide)

theorem quanta_remainder (f : Nat) (current : Int) (t : Nat) :
    (f : Int) + current * t = 36000 * quantaOf f current t + (remainderOf f current t : Int) ∧
      remainderOf f current t < 36000 := by
  unfold remainderOf
  rw [quantaOf_eq]
  omega

theorem integratedQ_le (s : State) (c : CellId) (current : Int) (t : Nat) (empty : Bool) :
    integratedQ s c current t empty ≤ 800000 := by
  have bound := s.capQ_le c
  unfold State.capQ at bound
  unfold integratedQ
  split
  · omega
  · omega

theorem integratedF_lt (s : State) (c : CellId) (current : Int) (t : Nat) (empty : Bool) :
    integratedF s c current t empty < 36000 := by
  unfold integratedF
  split
  · omega
  · exact (quanta_remainder (s.f c) current t).2

/-- One cell's part of an INTEGRATE is the write of its count after it. -/
theorem State.integrateCell_eq (s : State) (c : CellId) (current : Int) (t : Nat) (empty : Bool) :
    s.integrateCell c current t empty = s.setQF c (integratedQ s c current t empty) (integratedF s c current t empty) := by
  cases empty with
  | true => rfl
  | false => rfl

/-- The counts that an INTEGRATE leaves. -/
theorem State.counts_integrated {s : State} (w : s.memoryCanonical) (iA iB : Int) (t : Nat) (eA eB : Bool) :
    let u := s.gaugeWrite (.integrate iA iB t eA eB)
    u.q .a = integratedQ s .a iA t eA ∧ u.f .a = integratedF s .a iA t eA ∧
      u.q .b = integratedQ s .b iB t eB ∧ u.f .b = integratedF s .b iB t eB ∧ s.sameSettings u := by
  intro u
  have first := fun d => State.counts_setQF w .a d ((integratedQ_le s .a iA t eA).trans_lt (by decide))
    ((integratedF_lt s .a iA t eA).trans (by decide))
  have same := State.sameSettings_setQF w .a (integratedQ s .a iA t eA) (integratedF s .a iA t eA)
  have wv := State.setQF_wf w .a (integratedQ s .a iA t eA) (integratedF s .a iA t eA)
  have hu : u = (s.integrateCell .a iA t eA).integrateCell .b iB t eB := rfl
  rw [State.integrateCell_eq s] at hu
  generalize s.setQF .a (integratedQ s .a iA t eA) (integratedF s .a iA t eA) = v at first same wv hu
  have qB : integratedQ v .b iB t eB = integratedQ s .b iB t eB := by
    unfold integratedQ
    rw [(first .b).1, (first .b).2, same.cap]
    rfl
  have fB : integratedF v .b iB t eB = integratedF s .b iB t eB := by
    unfold integratedF
    rw [(first .b).2]
    rfl
  rw [State.integrateCell_eq, qB, fB] at hu
  have second := fun d => State.counts_setQF wv .b d ((integratedQ_le s .b iB t eB).trans_lt (by decide))
    ((integratedF_lt s .b iB t eB).trans (by decide))
  rw [hu]
  exact ⟨(second .a).1.trans (first .a).1, (second .a).2.trans (first .a).2, (second .b).1, (second .b).2,
    same.trans (State.sameSettings_setQF wv _ _ _)⟩

/-! ### The counter point (R63, R64, R80, R87) -/

theorem ChannelState.givesWorking_iff {x : ChannelState} :
    x.givesWorking = true ↔ x = .running ∨ x = .holding ∨ x = .starved := by
  cases x <;> simp [ChannelState.givesWorking]

/-- What an allocation takes is read of the words and the channels alone. -/
theorem State.counterPointNow_congr {s t : State} (mem : t.mem = s.mem) (channels : t.channels = s.channels) :
    t.counterPointNow = s.counterPointNow := by
  cases s
  cases t
  cases mem
  cases channels
  rfl

theorem State.output_of_working {s : State} {c : CellId} (works : (s.channel c).state.givesWorking = true) :
    s.output c = { ceiling := (s.channel c).ceiling, vcap := (s.channel c).vcap } := if_pos works

theorem State.output_of_resting {s : State} {c : CellId} (rests : (s.channel c).state = .stopped ∨
    (s.channel c).state = .starting) : s.output c = s.flatOutput c := by
  unfold State.output
  dsimp only
  rcases rests with h | h <;> rw [h] <;> rfl

theorem State.output_of_following {s : State} {c : CellId} (follows : (s.channel c).state = .following) :
    s.output c = if (s.channel .a).state.givesWorking then
      { ceiling := min 8000 ((s.channel .a).ceiling * s.followRatio / 256), vcap := (s.channel .a).vcap }
      else s.flatOutput c := by
  unfold State.output
  dsimp only
  rw [follows]
  rfl

theorem counterPointTaken_now (s : State) : CounterPointTaken s s.counterPointNow := by
  intro c x a out
  have hq : s.counterPointNow.q.get c = s.q c := by cases c <;> rfl
  have hout : out = s.output c := by cases c <;> rfl
  rw [hout]
  refine ⟨hq, fun works => State.output_of_working (ChannelState.givesWorking_iff.mpr works), State.output_of_resting,
    fun follows leads => ?_, fun follows idle => ?_⟩
  · rw [State.output_of_following follows, if_pos (ChannelState.givesWorking_iff.mpr leads)]
  · rw [State.output_of_following follows, if_neg (mt ChannelState.givesWorking_iff.mp idle)]
    rfl

/-! ### The end of an INTEGRATE -/

/-- The channels and the sequencer have taken the batches of an INTEGRATE that is awaited, its entry gone from the list. -/
def State.batchesHanded (s : State) (iA iB : Int) (t : Nat) (eA eB : Bool) : State :=
  (((s.gaugeWrite (.integrate iA iB t eA eB)).setGauge s.gauge.tail).takeBatch .a (s.batchOf .a iA t eA)).takeBatch .b
    (s.batchOf .b iB t eB)

theorem State.countIntegrate_eq (s : State) : s.countIntegrate = { s with allocator := s.countIntegrate.allocator } :=
  State.eq_of_fields (by simp) (by simp) (by simp) (by simp) (by simp) (by simp) (by simp) rfl (by simp) (by simp) (by simp)
    (by simp) (by simp) (by simp) (by simp) (by simp) (by simp) (by simp) (by simp)

theorem State.countIntegrate_allocator (s : State) :
    (s.allocator.inFlight = none → s.countIntegrate.allocator = s.allocator) ∧
    ∀ al, s.allocator.inFlight = some al →
      (al.counter.isSome = true → s.countIntegrate.allocator = s.allocator) ∧
      (al.counter = none → 1 < al.integratesAhead → s.countIntegrate.allocator = { s.allocator with
        inFlight := some { al with integratesAhead := al.integratesAhead - 1 } }) ∧
      (al.counter = none → al.integratesAhead ≤ 1 → s.countIntegrate.allocator = { s.allocator with
        inFlight := some { al with integratesAhead := 0, counter := some s.counterPointNow } }) := by
  refine ⟨fun none_ => by simp [State.countIntegrate, none_], fun al flight => ⟨fun past => ?_, fun ahead more => ?_,
    fun ahead own => ?_⟩⟩
  · simp [State.countIntegrate, flight, past]
  · simp [State.countIntegrate, flight, ahead, Nat.not_le.mpr more, State.modAllocation]
  · simp [State.countIntegrate, flight, ahead, own, State.modAllocation]

theorem State.gaugeEnded_of_awaited {s : State} (awaited : s.arbiter.awaited = true) (iA iB : Int) (t : Nat)
    (eA eB : Bool) :
    s.gaugeEnded (.integrate iA iB t eA eB) =
      (s.batchesHanded iA iB t eA eB).countIntegrate.endTransaction.requestGauge := by
  unfold State.gaugeEnded
  rw [if_pos awaited]
  simp only [State.gaugeAwaited, State.gaugeWrite_frame]
  rfl

theorem State.gaugeEnded_of_not_awaited {s : State} (left : s.arbiter.awaited = false) (e : GaugeEntry) :
    s.gaugeEnded e = (s.gaugeWrite e).endTransaction.requestGauge := by
  unfold State.gaugeEnded
  rw [left]
  rfl

theorem exec_gaugeIntegrate {s : State} {iA iB : Int} {t : Nat} {eA eB : Bool}
    (entry : s.arbiter.underWay = some (.gauge (.integrate iA iB t eA eB))) :
    exec .gaugeIntegrate s = .next (s.gaugeEnded (.integrate iA iB t eA eB)).settle := by
  simp only [exec, execGaugeIntegrate, entry, State.gaugeCompleted_eq]

/-- The counters' part in the allocator: an INTEGRATE awaited is counted, and one's own is the counter point. -/
theorem State.gaugeEnded_allocator (s : State) (iA iB : Int) (t : Nat) (eA eB : Bool) :
    let e := s.gaugeEnded (.integrate iA iB t eA eB)
    (s.arbiter.awaited = false ∨ s.allocator.inFlight = none → e.allocator = s.allocator) ∧
    (s.arbiter.awaited = true → ∀ al, s.allocator.inFlight = some al →
      (al.counter.isSome = true → e.allocator = s.allocator) ∧
      (al.counter = none → 1 < al.integratesAhead → e.allocator = { s.allocator with
        inFlight := some { al with integratesAhead := al.integratesAhead - 1 } }) ∧
      (al.counter = none → al.integratesAhead ≤ 1 → ∃ cp, CounterPointTaken e cp ∧ e.allocator = { s.allocator with
        inFlight := some { al with integratesAhead := 0, counter := some cp } })) := by
  intro e
  have kept : (s.batchesHanded iA iB t eA eB).allocator = s.allocator := by simp [State.batchesHanded]
  obtain ⟨idle, counts⟩ := (s.batchesHanded iA iB t eA eB).countIntegrate_allocator
  rw [kept] at idle counts
  have counted : s.arbiter.awaited = true → e.allocator = (s.batchesHanded iA iB t eA eB).countIntegrate.allocator :=
    fun awaited => by simp [e, State.gaugeEnded_of_awaited awaited]
  refine ⟨fun none_ => ?_, fun awaited al flight => ?_⟩
  · cases awaited : s.arbiter.awaited with
    | false => simp [e, State.gaugeEnded_of_not_awaited awaited]
    | true => exact (counted awaited).trans (idle (none_.resolve_left (by simp [awaited])))
  · obtain ⟨past, more, own⟩ := counts al flight
    refine ⟨fun h => (counted awaited).trans (past h), fun h g => (counted awaited).trans (more h g), fun h g => ?_⟩
    have mem : e.mem = (s.batchesHanded iA iB t eA eB).mem := by simp [e, State.gaugeEnded_of_awaited awaited]
    have channels : e.channels = (s.batchesHanded iA iB t eA eB).channels := by
      simp [e, State.gaugeEnded_of_awaited awaited]
    exact ⟨e.counterPointNow, counterPointTaken_now e,
      by rw [State.counterPointNow_congr mem channels]; exact (counted awaited).trans (own h g)⟩

/-- Settles O47: both counts by the sum, the floor and the remainder, and the counter point on the counts and channels as
the transaction leaves them. -/
theorem gaugeIntegrates : Obligations.GaugeIntegrates := by
  unfold Obligations.GaugeIntegrates
  refine ⟨fun s iA iB t eA eB w entry => ?_, quanta_remainder, fun f current low above below => ?_⟩
  · obtain ⟨hq, hf, words⟩ := s.gaugeEnded_words (.integrate iA iB t eA eB)
    obtain ⟨qa, fa, qb, fb, same⟩ := State.counts_integrated w iA iB t eA eB
    obtain ⟨idle, counts⟩ := s.gaugeEnded_allocator iA iB t eA eB
    have list : (s.gaugeEnded (.integrate iA iB t eA eB)).gauge = if s.arbiter.awaited then s.gauge.tail else s.gauge := by
      cases awaited : s.arbiter.awaited with
      | true => simp [State.gaugeEnded_of_awaited awaited, State.batchesHanded]
      | false => simp [State.gaugeEnded_of_not_awaited awaited]
    have free : (s.gaugeEnded (.integrate iA iB t eA eB)).arbiter.underWay = none := by
      unfold State.gaugeEnded
      rw [State.requestGauge_endTransaction]
    refine ⟨_, exec_gaugeIntegrate entry, (hq .a).trans qa, (hf .a).trans fa, (hq .b).trans qb, (hf .b).trans fb,
      fun i other _ => (words i).trans (same i other), list, free, ?_, ?_, ?_, ?_, ?_, ?_, ?_, ?_, ?_, idle, counts⟩
    all_goals
      unfold State.gaugeEnded
      split <;> simp
  · rw [quantaOf_eq, quantaOf_eq]
    omega

end Sys2Proof.Machine
end

section
/-! PROOFS. O48: a batch goes to its channel quantum by quantum, and an awaited INTEGRATE hands each channel its own (R39,
R65, R69 to R75, R147). -/

namespace Sys2Proof.Machine

-- One proof at a time: proofs elaborated side by side each hold a thread's stack.
set_option Elab.async false

/-! ### One quantum -/

theorem PerCell.set_set {α : Type} (p : PerCell α) (c : CellId) (x y : α) : (p.set c x).set c y = p.set c y := by
  cases c <;> rfl

theorem PerCell.set_get {α : Type} (p : PerCell α) (c : CellId) : p.set c (p.get c) = p := by cases c <;> rfl

theorem State.channel_setChannel (s : State) (c : CellId) (x : Channel) : (s.setChannel c x).channel c = x :=
  PerCell.get_set_same _ _ _

theorem State.setChannel_setChannel (s : State) (c : CellId) (x y : Channel) :
    (s.setChannel c x).setChannel c y = s.setChannel c y :=
  congrArg (fun p => ({ s with channels := p } : State)) (PerCell.set_set _ _ _ _)

/-- The channel at the end of a step, before the segment is found to end (R69). -/
def Channel.stepped (x : Channel) : Channel :=
  { x with ceiling := stepCeiling x.ceiling x.slope, stepsLeft := x.stepsLeft - 1, quantaLeft := x.stepQ }

theorem State.takeQuantum_running {s : State} {c : CellId} (runs : (s.channel c).state = .running) :
    s.takeQuantum c = s.stepQuantum c := by
  unfold State.takeQuantum
  dsimp only
  rw [runs]

theorem State.takeQuantum_starved {s : State} {c : CellId} (starves : (s.channel c).state = .starved) :
    s.takeQuantum c = s.setChannel c { s.channel c with
      starvedCount := saturatingSucc 65535 (s.channel c).starvedCount } := by
  unfold State.takeQuantum
  dsimp only
  rw [starves]

theorem State.takeQuantum_aside {s : State} {c : CellId} (idle : (s.channel c).state ≠ .running)
    (fed : (s.channel c).state ≠ .starved) : s.takeQuantum c = s := by
  unfold State.takeQuantum
  dsimp only
  split
  next runs => exact absurd runs idle
  next starves => exact absurd starves fed
  all_goals rfl

theorem State.stepQuantum_within {s : State} {c : CellId} (within : 1 < (s.channel c).quantaLeft) :
    s.stepQuantum c = s.setChannel c { s.channel c with quantaLeft := (s.channel c).quantaLeft - 1 } := if_pos within

theorem State.stepQuantum_step {s : State} {c : CellId} (last : (s.channel c).quantaLeft ≤ 1)
    (more : 1 < (s.channel c).stepsLeft) : s.stepQuantum c = s.setChannel c (s.channel c).stepped := by
  unfold State.stepQuantum
  dsimp only
  rw [if_neg (by omega), if_neg (by omega)]
  rfl

theorem State.stepQuantum_segment {s : State} {c : CellId} (last : (s.channel c).quantaLeft ≤ 1)
    (ends : (s.channel c).stepsLeft ≤ 1) :
    s.stepQuantum c = (s.setChannel c (s.channel c).stepped).segmentEnd c := by
  unfold State.stepQuantum
  dsimp only
  rw [if_neg (by omega), if_pos (by omega)]
  rfl

/-! ### The end of a segment (R65, R72) -/

theorem Segment.endsTable_iff {g : Segment} : g.endsTable = true ↔ g.last = true ∨ g.steps = 0 := by
  simp [Segment.endsTable]

theorem nextFetch_fetchAfter (s : State) (c : CellId) (g : Segment) : NextFetch s c g (s.fetchAfter c g) := by
  refine ⟨fun ends => if_pos (Segment.endsTable_iff.mpr ends), fun last steps room => ?_, fun last steps full => ?_⟩
  all_goals
    have goes : ¬ g.endsTable = true := mt Segment.endsTable_iff.mp (by simp [last, steps])
    rw [State.fetchAfter, if_neg goes]
  · exact if_neg (Nat.not_lt.mpr room)
  · exact if_pos full

theorem swappedIn_swap (s : State) (c : CellId) (g : Segment) : SwappedIn s c g (s.swap c g) := by
  refine ⟨(s.setChannel c { takesRecord (s.channel c) g (s.channel c).ceiling with stagedValid := false }).takeTrigger
    (swapTrigger c), ?_, nextFetch_fetchAfter _ c g⟩
  cases c with
  | a => exact triggerTaken_takeTrigger .swapA _
  | b => exact triggerTaken_takeTrigger .swapB _

theorem State.segmentEnd_holding {s : State} {c : CellId} {x : Channel} (marked : x.endMark = true) :
    (s.setChannel c x).segmentEnd c = s.setChannel c { x with state := .holding } := by
  unfold State.segmentEnd
  dsimp only
  rw [State.channel_setChannel, if_pos marked, State.setChannel_setChannel]

theorem State.segmentEnd_starved {s : State} {c : CellId} {x : Channel} (marked : x.endMark = false)
    (staged : x.stagedValid = false) :
    (s.setChannel c x).segmentEnd c = (s.setChannel c { x with state := .starved }).raise (starveCauseOf c) := by
  unfold State.segmentEnd
  dsimp only
  rw [State.channel_setChannel, if_neg (ne_true_of_eq_false marked), if_neg (ne_true_of_eq_false staged),
    State.setChannel_setChannel]

theorem State.segmentEnd_swap {s : State} {c : CellId} {x : Channel} (marked : x.endMark = false)
    (staged : x.stagedValid = true) :
    (s.setChannel c x).segmentEnd c = (s.setChannel c x).swap c x.staged := by
  unfold State.segmentEnd
  dsimp only
  rw [State.channel_setChannel, if_neg (ne_true_of_eq_false marked), if_pos staged]

/-! ### A batch, on the channel alone -/

/-- A channel after the request that follows a record (R65, R73). -/
def Channel.fetches (x : Channel) (g : Segment) : Channel :=
  if g.endsTable then x
  else if 0xFFA < x.nextIndex then { x with overrun := true, endMark := true }
  else { x with fetch := some x.nextIndex, nextIndex := x.nextIndex + 6 }

/-- A channel at the end of a segment (R72). -/
def Channel.segmentEnded (x : Channel) : Channel :=
  if x.endMark then { x with state := .holding }
  else if x.stagedValid then ({ x.work x.staged x.ceiling with stagedValid := false } : Channel).fetches x.staged
  else { x with state := .starved }

/-- A channel after a quantum, which is told by the channel alone (R69, R71, R75). -/
def Channel.afterQuantum (x : Channel) : Channel :=
  match x.state with
  | .running =>
    if 1 < x.quantaLeft then { x with quantaLeft := x.quantaLeft - 1 }
    else if x.stepsLeft - 1 = 0 then x.stepped.segmentEnded
    else x.stepped
  | .starved => { x with starvedCount := saturatingSucc 65535 x.starvedCount }
  | _ => x

theorem State.fetchAfter_channels (s : State) (c : CellId) (g : Segment) :
    (s.fetchAfter c g).channels = s.channels.set c ((s.channel c).fetches g) := by
  unfold State.fetchAfter Channel.fetches State.requestFetch
  dsimp only
  split
  · exact (PerCell.set_get _ _).symm
  · split <;> rfl

theorem State.segmentEnd_channels (s : State) (c : CellId) :
    (s.segmentEnd c).channels = s.channels.set c (s.channel c).segmentEnded := by
  unfold State.segmentEnd Channel.segmentEnded
  dsimp only
  split
  · rfl
  · split
    · simp only [State.swap, State.fetchAfter_channels, State.channel, State.takeTrigger_frame, State.setChannel_channels,
        PerCell.get_set_same, PerCell.set_set]
    · rfl

theorem Channel.afterQuantum_running {x : Channel} (runs : x.state = .running) :
    x.afterQuantum = if 1 < x.quantaLeft then { x with quantaLeft := x.quantaLeft - 1 }
      else if x.stepsLeft - 1 = 0 then x.stepped.segmentEnded else x.stepped := by
  unfold Channel.afterQuantum
  split
  next => rfl
  next starves => cases runs.symm.trans starves
  next other _ => exact absurd runs other

theorem Channel.afterQuantum_starved {x : Channel} (starves : x.state = .starved) :
    x.afterQuantum = { x with starvedCount := saturatingSucc 65535 x.starvedCount } := by
  unfold Channel.afterQuantum
  split
  next runs => cases starves.symm.trans runs
  next => rfl
  next other => exact absurd starves other

theorem Channel.afterQuantum_aside {x : Channel} (idle : x.state ≠ .running) (fed : x.state ≠ .starved) :
    x.afterQuantum = x := by
  unfold Channel.afterQuantum
  split
  next runs => exact absurd runs idle
  next starves => exact absurd starves fed
  next => rfl

theorem State.takeQuantum_channels (s : State) (c : CellId) :
    (s.takeQuantum c).channels = s.channels.set c (s.channel c).afterQuantum := by
  by_cases runs : (s.channel c).state = .running
  · rw [State.takeQuantum_running runs, Channel.afterQuantum_running runs]
    unfold State.stepQuantum
    dsimp only
    split
    · rfl
    · split
      · rw [State.segmentEnd_channels, State.channel_setChannel, State.setChannel_channels, PerCell.set_set]
        rfl
      · rfl
  · by_cases starves : (s.channel c).state = .starved
    · rw [State.takeQuantum_starved starves, Channel.afterQuantum_starved starves]
      rfl
    · rw [State.takeQuantum_aside runs starves, Channel.afterQuantum_aside runs starves]
      exact (PerCell.set_get _ _).symm

/-- A batch changes its channel's record as so many quanta do, and of the two channels no other. -/
theorem State.takeBatch_channels (s : State) (c : CellId) (k : Nat) :
    (s.takeBatch c k).channels = s.channels.set c (Channel.afterQuantum^[k] (s.channel c)) := by
  induction k generalizing s with
  | zero => exact (PerCell.set_get _ _).symm
  | succ k ih =>
    rw [State.takeBatch, ih, State.channel, State.takeQuantum_channels, PerCell.get_set_same, PerCell.set_set]
    rfl

/-- Both batches, channel A's first. -/
theorem State.takeBatches_channels (s : State) (i j : Nat) :
    ((s.takeBatch .a i).takeBatch .b j).channels =
      { a := Channel.afterQuantum^[i] s.channels.a, b := Channel.afterQuantum^[j] s.channels.b } := by
  rw [State.takeBatch_channels, State.channel, State.takeBatch_channels]
  rfl

/-- Quanta within a step only count down (R69). -/
theorem Channel.afterQuantum_within {x : Channel} (runs : x.state = .running) {k : Nat} (within : k < x.quantaLeft) :
    Channel.afterQuantum^[k] x = { x with quantaLeft := x.quantaLeft - k } := by
  induction k with
  | zero => rfl
  | succ k ih =>
    rw [Function.iterate_succ_apply', ih (by omega)]
    refine (Channel.afterQuantum_running (x := { x with quantaLeft := x.quantaLeft - k }) runs).trans ?_
    rw [if_pos (by dsimp only; omega), Nat.sub_sub]

/-! ### The end of an INTEGRATE -/

theorem State.gaugeEnded_batches {s : State} (awaited : s.arbiter.awaited = true) (iA iB : Int) (t : Nat) (eA eB : Bool) :
    let v := s.batchesHanded iA iB t eA eB
    s.gaugeEnded (.integrate iA iB t eA eB) = { v with
      allocator := (s.gaugeEnded (.integrate iA iB t eA eB)).allocator
      arbiter := { v.arbiter with underWay := none, awaited := false, gauge := !s.gauge.tail.isEmpty } } := by
  have counted : ∀ v : State, v.countIntegrate.endTransaction.requestGauge = { v with
      allocator := v.countIntegrate.endTransaction.requestGauge.allocator
      arbiter := { v.arbiter with underWay := none, awaited := false, gauge := !v.gauge.isEmpty } } := fun v => by
    have eq := v.countIntegrate_eq
    generalize v.countIntegrate.allocator = x at eq
    rw [State.requestGauge_endTransaction, eq]
  have list : (s.batchesHanded iA iB t eA eB).gauge = s.gauge.tail := by simp [State.batchesHanded]
  rw [State.gaugeEnded_of_awaited awaited, ← list]
  exact counted _

/-- Settles O48: the quanta by the channel's state, and what an INTEGRATE hands the channels. -/
theorem batchesStepTheChannel : Obligations.BatchesStepTheChannel := by
  unfold Obligations.BatchesStepTheChannel
  refine ⟨fun s c => ⟨rfl, fun k => rfl⟩, fun s c => ?_, fun s iA iB t eA eB entry => ?_⟩
  · intro x stepped
    refine ⟨fun runs within => ?_, fun runs last more => ?_, fun runs last ends marked => ?_,
      fun runs last ends marked staged => ?_, fun runs last ends marked staged => ?_, fun starves bound => ?_,
      State.takeQuantum_aside⟩
    · exact (State.takeQuantum_running runs).trans (State.stepQuantum_within within)
    · exact (State.takeQuantum_running runs).trans (State.stepQuantum_step last more)
    · rw [State.takeQuantum_running runs, State.stepQuantum_segment last ends]
      exact State.segmentEnd_holding marked
    · rw [State.takeQuantum_running runs, State.stepQuantum_segment last ends]
      exact State.segmentEnd_starved marked staged
    · rw [State.takeQuantum_running runs, State.stepQuantum_segment last ends,
        State.segmentEnd_swap (x := (s.channel c).stepped) marked staged]
      exact swappedIn_swap _ c _
    · rw [State.takeQuantum_starved starves, saturatingSucc_eq_min bound]
      rfl
  · intro kA kB
    refine ⟨_, exec_gaugeIntegrate entry, fun awaited => ?_, fun left => ?_⟩
    · have batches := State.gaugeEnded_batches awaited iA iB t eA eB
      have mem : (s.gaugeEnded (.integrate iA iB t eA eB)).mem = (s.gaugeWrite (.integrate iA iB t eA eB)).mem := by
        simp [State.gaugeEnded_of_awaited awaited, State.batchesHanded]
      have channels : (s.gaugeEnded (.integrate iA iB t eA eB)).channels =
          { a := Channel.afterQuantum^[kA] s.channels.a, b := Channel.afterQuantum^[kB] s.channels.b } := by
        rw [batches]
        refine (State.takeBatches_channels _ kA kB).trans ?_
        simp
      refine ⟨channels.trans (s.takeBatches_channels kA kB).symm, ?_, fun aside => ?_, fun runs _ within => ?_,
        fun runs _ within => ?_⟩
      · intro taken
        have base : ({ s with mem := (s.gaugeEnded (.integrate iA iB t eA eB)).mem, gauge := s.gauge.tail } : State) =
            (s.gaugeWrite (.integrate iA iB t eA eB)).setGauge s.gauge.tail := by
          have written := s.gaugeWrite_eq (.integrate iA iB t eA eB)
          rw [mem]
          generalize (s.gaugeWrite (.integrate iA iB t eA eB)).mem = m at written ⊢
          rw [written]
          rfl
        have handed : taken = s.batchesHanded iA iB t eA eB :=
          congrArg (fun u : State => (u.takeBatch .a kA).takeBatch .b kB) base
        rw [handed]
        exact batches
      · have fixed : ∀ c k, Channel.afterQuantum^[k] (s.channel c) = s.channel c := fun c k =>
          Function.iterate_fixed (Channel.afterQuantum_aside (aside c).1 (aside c).2) k
        rw [channels]
        exact congrArg₂ PerCell.mk (fixed .a kA) (fixed .b kB)
      · rw [State.channel, channels]
        exact Channel.afterQuantum_within runs within
      · rw [State.channel, channels]
        exact Channel.afterQuantum_within runs within
    · rw [State.gaugeEnded_of_not_awaited left, State.requestGauge_endTransaction]
      have written := s.gaugeWrite_eq (.integrate iA iB t eA eB)
      generalize (s.gaugeWrite (.integrate iA iB t eA eB)).mem = m at written
      rw [written]

end Sys2Proof.Machine
end

section
/-! PROOFS. O52: the share computation by its formulas, and its bounds (R40, R46, R86, R90, R91, R97 to R108, R135). -/

namespace Sys2Proof.Machine

-- One proof at a time: proofs elaborated side by side each hold a thread's stack.
set_option Elab.async false

/-! ### A power shared by a weight (R100, R106) -/

theorem splitPower_shared (power weight : Nat) (mostA mostB : Option Nat) :
    PowerShared power weight mostA mostB (splitPower power weight mostA mostB).1
      (splitPower power weight mostA mostB).2 := by
  refine ⟨?_, ?_, ?_, ?_⟩
  · rintro rfl rfl
    exact ⟨rfl, rfl⟩
  · rintro x rfl rfl
    exact ⟨rfl, rfl⟩
  · rintro y rfl rfl
    exact ⟨rfl, rfl⟩
  · rintro x y rfl rfl
    exact ⟨rfl, rfl⟩

theorem splitPower_sum_le (power weight : Nat) (mostA mostB : Option Nat) :
    (splitPower power weight mostA mostB).1 + (splitPower power weight mostA mostB).2 ≤ power := by
  match mostA, mostB with
  | none, none => exact Nat.zero_le _
  | some x, none => exact Nat.min_le_right _ _
  | none, some y => exact (Nat.zero_add _).trans_le (Nat.min_le_right _ _)
  | some x, some y =>
    simp only [splitPower]
    omega

theorem splitPower_le_most (power weight : Nat) (mostA mostB : Option Nat) :
    (splitPower power weight mostA mostB).1 ≤ mostA.getD 0 ∧
      (splitPower power weight mostA mostB).2 ≤ mostB.getD 0 := by
  match mostA, mostB with
  | none, none => exact ⟨Nat.le_refl _, Nat.le_refl _⟩
  | some x, none => exact ⟨Nat.min_le_left _ _, Nat.le_refl _⟩
  | none, some y => exact ⟨Nat.le_refl _, Nat.min_le_left _ _⟩
  | some x, some y => exact ⟨Nat.min_le_left _ _, Nat.min_le_left _ _⟩

/-! ### The charge split (R97 to R103) -/

theorem chargeRemainder_eq (pAvail pPre : Nat) : chargeRemainder pAvail pPre = pAvail - pPre := by
  unfold chargeRemainder
  split
  · rfl
  · omega

/-- The PRECHARGE cells are granted, together, no more than P_avail less the remainder (R98). -/
theorem prechargeGrants_le (pAvail x y : Nat) :
    prechargeGrant pAvail (x + y) x + prechargeGrant pAvail (x + y) y + chargeRemainder pAvail (x + y) ≤ pAvail := by
  rw [chargeRemainder_eq]
  unfold prechargeGrant
  split
  · omega
  next short =>
    have shares : pAvail * x / (x + y) + pAvail * y / (x + y) ≤ pAvail := by
      calc pAvail * x / (x + y) + pAvail * y / (x + y)
          ≤ (pAvail * x + pAvail * y) / (x + y) := Nat.div_add_div_le_add_div
        _ = pAvail := by rw [← Nat.mul_add]; exact Nat.mul_div_cancel _ (by omega)
    omega

/-- A cell's precharge demand: 0 for one that is not in PRECHARGE. -/
def prechargeDemand (st : CeilingStage) (pd : Nat) : Nat := if st.found = .precharge then pd else 0

theorem chargeGrant_le (st : CeilingStage) (pAvail pPre pd shared : Nat) :
    chargeGrant st.found pAvail pPre pd shared ≤ prechargeGrant pAvail pPre (prechargeDemand st pd) + shared := by
  unfold chargeGrant prechargeDemand
  split
  · exact Nat.le_add_right _ _
  · split
    · exact Nat.le_add_left _ _
    · exact Nat.zero_le _

/-- The powers granted to charge sum to at most P_avail. -/
theorem chargeSplit_sum_le (sa sb : CeilingStage) (vA vB pAvail wA hinge : Nat) :
    (chargeSplit sa sb vA vB pAvail wA hinge).a.granted +
      (chargeSplit sa sb vA vB pAvail wA hinge).b.granted ≤ pAvail := by
  have precharges := prechargeGrants_le pAvail (prechargeDemand sa (demandPower sa vA))
    (prechargeDemand sb (demandPower sb vB))
  have shared := splitPower_sum_le
    (chargeRemainder pAvail (prechargePower sa sb (demandPower sa vA) (demandPower sb vB))) wA
    (if sa.found.sharesRemainder then some (demandPower sa vA) else none)
    (if sb.found.sharesRemainder then some (demandPower sb vB) else none)
  have grantA := fun x => chargeGrant_le sa pAvail (prechargePower sa sb (demandPower sa vA) (demandPower sb vB))
    (demandPower sa vA) x
  have grantB := fun x => chargeGrant_le sb pAvail (prechargePower sa sb (demandPower sa vA) (demandPower sb vB))
    (demandPower sb vB) x
  have total : prechargeDemand sa (demandPower sa vA) + prechargeDemand sb (demandPower sb vB) =
    prechargePower sa sb (demandPower sa vA) (demandPower sb vB) := rfl
  rw [total] at precharges
  exact (Nat.add_le_add (grantA _) (grantB _)).trans (by omega)

theorem ChargeState.sharesRemainder_iff {st : ChargeState} : st.sharesRemainder = true ↔ st = .bulk ∨ st = .taper := by
  cases st <;> decide

theorem chargeGrant_of_precharge {st : ChargeState} (h : st = .precharge) (pAvail pPre pd shared : Nat) :
    chargeGrant st pAvail pPre pd shared = prechargeGrant pAvail pPre pd := if_pos h

theorem chargeGrant_of_shares {st : ChargeState} (h : st = .bulk ∨ st = .taper) (pAvail pPre pd shared : Nat) :
    chargeGrant st pAvail pPre pd shared = shared := by
  rcases h with rfl | rfl <;> rfl

theorem chargeGrant_of_neither {st : ChargeState} (h : st ≠ .precharge) (k : ¬ (st = .bulk ∨ st = .taper))
    (pAvail pPre pd shared : Nat) : chargeGrant st pAvail pPre pd shared = 0 := by
  unfold chargeGrant
  rw [if_neg h, if_neg (mt ChargeState.sharesRemainder_iff.mp k)]

/-! ### The supply split (R104 to R107) -/

theorem supplyEligible_iff {found : ChargeState} {x : CellSnapshot} {vpre : Nat} :
    supplyEligible found x vpre = true ↔
      found ≠ .absent ∧ found ≠ .tripped ∧ x.band.allow.s = true ∧ vpre < x.vcell := by
  simp [supplyEligible, and_assoc]

/-- The current of a power at or below Ps_max is at or below Lim. -/
theorem supplyCurrent_le {granted vcell lim : Nat} (h : granted ≤ vcell * lim / 1000) :
    granted * 1000 / vcell ≤ lim := by
  refine Nat.div_le_of_le_mul ?_
  calc granted * 1000 ≤ vcell * lim / 1000 * 1000 := Nat.mul_le_mul_right _ h
    _ ≤ vcell * lim := Nat.div_mul_le_self _ _

theorem supplyMost_getD_le (x : CellSnapshot) (st : CeilingStage) (vpre lim : Nat) :
    (supplyMost x st vpre lim).getD 0 ≤ x.vcell * lim / 1000 := by
  unfold supplyMost
  split
  · exact Nat.le_refl _
  · exact Nat.zero_le _

/-- A supply set-point is no deeper than Lim, for a power at or below Ps_max. -/
theorem supplySetPoint_bounds {granted : Nat} {x : CellSnapshot} {st : CeilingStage} {vpre lim : Nat}
    (h : granted ≤ (supplyMost x st vpre lim).getD 0) :
    -(lim : Int) ≤ supplySetPoint granted x.vcell ∧ supplySetPoint granted x.vcell ≤ 0 := by
  have current := supplyCurrent_le (h.trans (supplyMost_getD_le x st vpre lim))
  exact ⟨by unfold supplySetPoint; omega, supplySetPoint_nonpos _ _⟩

/-! ### The parts of a share computation -/

theorem weightA_eq (x : Int) : (weightA x : Int) = min 960 (max 64 (512 + x)) := by
  unfold weightA clampInt
  omega

theorem stateOfCharge_full {q capQ : Nat} (above : capQ < q) (positive : 0 < capQ) : stateOfCharge q capQ = 1024 := by
  refine Nat.min_eq_left ((Nat.le_div_iff_mul_le positive).mpr ?_)
  rw [Nat.mul_comm]
  exact Nat.mul_le_mul_right 1024 above.le

/-- The power granted and the set-point of a cell. -/
def CellShare.grant (x : CellShare) : Grant := { granted := x.granted, setPoint := x.setPoint }

section Share

variable (snap : Snapshot) (cp : CounterPoint) (capQ : PerCell Nat) (b : BudgetRead) (ce : CeilingRead)
  (sp : ChargeSplitRead) (su : SupplySplitRead)

/-- Ps_max of a cell, as the supply split of a share computation takes it. -/
def shareMost (c : CellId) : Option Nat :=
  supplyMost (snap.cells.get c) ((share snap cp capQ b ce sp su).cells.get c).stage ce.vpre (supplyLimit su sp.iHingeMax c)

theorem share_grant_of_surplus (h : 0 < (share snap cp capQ b ce sp su).pAvail) (c : CellId) :
    let res := share snap cp capQ b ce sp su
    (res.cells.get c).grant = (chargeSplit res.cells.a.stage res.cells.b.stage snap.cells.a.vcell snap.cells.b.vcell
      res.pAvail.toNat res.w.a sp.iHingeMax).get c := by
  have positive : 0 < availablePower snap b := h
  cases c with
  | a => simp only [share, positive, if_true]; rfl
  | b => simp only [share, positive, if_true]; rfl

theorem share_grant_of_need (h : (share snap cp capQ b ce sp su).pAvail < 0) (c : CellId) :
    let res := share snap cp capQ b ce sp su
    (res.cells.get c).grant = (supplySplit (shareMost snap cp capQ b ce sp su .a) (shareMost snap cp capQ b ce sp su .b)
      snap.cells.a.vcell snap.cells.b.vcell (-res.pAvail).toNat res.v.a).1.get c := by
  have negative : availablePower snap b < 0 := h
  have notPositive : ¬ 0 < availablePower snap b := Int.not_lt.mpr negative.le
  cases c with
  | a => simp only [share, negative, notPositive, if_true, if_false]; rfl
  | b => simp only [share, negative, notPositive, if_true, if_false]; rfl

theorem share_grant_of_balance (h : (share snap cp capQ b ce sp su).pAvail = 0) (c : CellId) :
    ((share snap cp capQ b ce sp su).cells.get c).grant = { granted := 0, setPoint := 0 } := by
  have zero : availablePower snap b = 0 := h
  cases c with
  | a => simp only [share, zero, lt_irrefl, if_false]; rfl
  | b => simp only [share, zero, lt_irrefl, if_false]; rfl

end Share

end Sys2Proof.Machine
end

section
/-! PROOFS. O52, continued: the formulas and the bounds of a share computation, and the settings words it reads. -/

namespace Sys2Proof.Machine

-- One proof at a time: proofs elaborated side by side each hold a thread's stack.
set_option Elab.async false

/-! ### What a split grants, cell by cell (R97 to R107) -/

/-- A charge cell's power by its state: a precharge share of P_avail, a share of the remainder, or none. -/
def ChargeGranted (found : ChargeState) (pAvail pPre pd shared granted : Nat) : Prop :=
  (found = .precharge → granted = if pPre ≤ pAvail then pd else pAvail * pd / pPre) ∧
  (found = .bulk ∨ found = .taper → granted = shared) ∧
  (¬ found = .precharge → ¬ (found = .bulk ∨ found = .taper) → granted = 0)

theorem chargeGrant_granted (found : ChargeState) (pAvail pPre pd shared : Nat) :
    ChargeGranted found pAvail pPre pd shared (chargeGrant found pAvail pPre pd shared) :=
  ⟨fun h => chargeGrant_of_precharge h _ _ _ _, fun h => chargeGrant_of_shares h _ _ _ _,
    fun h k => chargeGrant_of_neither h k _ _ _ _⟩

/-- The most a cell takes of the remainder: its demand in BULK and TAPER (R100). -/
def mostOfRemainder (st : CeilingStage) (pd : Nat) : Option Nat :=
  if st.found = .bulk ∨ st.found = .taper then some pd else none

theorem mostOfRemainder_eq (st : CeilingStage) (pd : Nat) :
    (if st.found.sharesRemainder then some pd else none) = mostOfRemainder st pd :=
  if_congr ChargeState.sharesRemainder_iff rfl rfl

/-- The charge split by its formulas: the remainder is shared by the weight, and each cell is granted by its state. -/
theorem chargeSplit_granted (sa sb : CeilingStage) (vA vB pAvail wA hinge : Nat) :
    let pPre := prechargePower sa sb (demandPower sa vA) (demandPower sb vB)
    let grants := chargeSplit sa sb vA vB pAvail wA hinge
    ∃ a b, PowerShared (pAvail - pPre) wA (mostOfRemainder sa (demandPower sa vA))
        (mostOfRemainder sb (demandPower sb vB)) a b ∧
      ChargeGranted sa.found pAvail pPre (demandPower sa vA) a grants.a.granted ∧
      ChargeGranted sb.found pAvail pPre (demandPower sb vB) b grants.b.granted := by
  have shared := splitPower_shared
    (chargeRemainder pAvail (prechargePower sa sb (demandPower sa vA) (demandPower sb vB))) wA
    (if sa.found.sharesRemainder then some (demandPower sa vA) else none)
    (if sb.found.sharesRemainder then some (demandPower sb vB) else none)
  refine ⟨_, _, ?_, chargeGrant_granted _ _ _ _ _, chargeGrant_granted _ _ _ _ _⟩
  rw [← chargeRemainder_eq, ← mostOfRemainder_eq, ← mostOfRemainder_eq]
  exact shared

/-- Ps_max of a supply-eligible cell, eligibility written out (R104, R105). -/
theorem supplyMost_eq (x : CellSnapshot) (st : CeilingStage) (vpre lim : Nat) :
    supplyMost x st vpre lim =
      if st.found ≠ .absent ∧ st.found ≠ .tripped ∧ x.band.allow.s = true ∧ vpre < x.vcell then
        some (x.vcell * lim / 1000)
      else none :=
  if_congr supplyEligible_iff rfl rfl

/-- No Ps_max but for a supply-eligible cell. -/
theorem supplyMost_isNone (x : CellSnapshot) (st : CeilingStage) (vpre lim : Nat) :
    (supplyMost x st vpre lim).isNone = true ↔
      ¬ (st.found ≠ .absent ∧ st.found ≠ .tripped ∧ x.band.allow.s = true ∧ vpre < x.vcell) := by
  rw [supplyMost_eq]
  split
  next eligible => exact ⟨fun h => absurd h Bool.false_ne_true, fun h => absurd eligible h⟩
  next not => exact ⟨fun _ => not, fun _ => rfl⟩

/-! ### The clauses of `SharedByFormula` -/

section Share

variable (snap : Snapshot) (cp : CounterPoint) (capQ : PerCell Nat) (b : BudgetRead) (ce : CeilingRead)
  (sp : ChargeSplitRead) (su : SupplySplitRead)

theorem share_states (c : CellId) :
    (share snap cp capQ b ce sp su).s.get c = min 1024 (cp.q.get c * 1024 / capQ.get c) := by
  cases c <;> rfl

theorem share_weights_eq :
    let res := share snap cp capQ b ce sp su
    let k := (res.d * sp.balGain).tdiv 16
    (res.w.a : Int) = min 960 (max 64 (512 - k)) ∧ res.w.b = 1024 - res.w.a ∧
      (res.v.a : Int) = min 960 (max 64 (512 + k)) ∧ res.v.b = 1024 - res.v.a :=
  ⟨weightA_eq _, rfl, weightA_eq _, rfl⟩

theorem share_stage (c : CellId) :
    let res := share snap cp capQ b ce sp su
    (res.cells.get c).stage =
      ceilingStage (snap.cells.get c) (cp.output.get c) c snap.chargeReduced res.pIn res.pAvail ce ∧
    (res.cells.get c).demand = (res.cells.get c).stage.g ∧ (res.cells.get c).lim = supplyLimit su sp.iHingeMax c := by
  cases c <;> exact ⟨rfl, rfl, rfl⟩

theorem share_precharge_of_surplus (h : 0 < (share snap cp capQ b ce sp su).pAvail) :
    let res := share snap cp capQ b ce sp su
    let sa := res.cells.a.stage
    let sb := res.cells.b.stage
    res.pPre = prechargePower sa sb (demandPower sa snap.cells.a.vcell) (demandPower sb snap.cells.b.vcell) ∧
      res.r = res.pAvail.toNat - res.pPre := by
  have positive : 0 < availablePower snap b := h
  exact ⟨if_pos positive, (if_pos positive).trans (chargeRemainder_eq _ _)⟩

theorem share_precharge_of_no_surplus (h : (share snap cp capQ b ce sp su).pAvail ≤ 0) :
    (share snap cp capQ b ce sp su).pPre = 0 ∧ (share snap cp capQ b ce sp su).r = 0 := by
  have notPositive : ¬ 0 < availablePower snap b := Int.not_lt.mpr h
  exact ⟨if_neg notPositive, if_neg notPositive⟩

/-- The charge clause: powers by the remainder's shares and set-points by R101 and R102. -/
theorem share_surplus (h : 0 < (share snap cp capQ b ce sp su).pAvail) :
    let res := share snap cp capQ b ce sp su
    let pd := fun c => demandPower (res.cells.get c).stage (snap.cells.get c).vcell
    let voltage := fun c => chargeVoltage (res.cells.get c).stage.found (snap.cells.get c).vcell
    (∃ x y, PowerShared res.r res.w.a (mostOfRemainder res.cells.a.stage (pd .a))
        (mostOfRemainder res.cells.b.stage (pd .b)) x y ∧
      ∀ c, ChargeGranted (res.cells.get c).stage.found res.pAvail.toNat res.pPre (pd c)
        (match c with
          | .a => x
          | .b => y)
        (res.cells.get c).granted) ∧
    res.cells.a.setPoint = (chargeSetPoint res.cells.a.granted (voltage .a) res.cells.a.demand : Nat) ∧
    res.cells.b.setPoint =
      (min (chargeSetPoint res.cells.b.granted (voltage .b) res.cells.b.demand) sp.iHingeMax : Nat) := by
  intro res pd voltage
  obtain ⟨pPre, remainder⟩ := share_precharge_of_surplus snap cp capQ b ce sp su h
  have grantA := share_grant_of_surplus snap cp capQ b ce sp su h .a
  have grantB := share_grant_of_surplus snap cp capQ b ce sp su h .b
  have powerA : res.cells.a.granted = _ := congrArg Grant.granted grantA
  have powerB : res.cells.b.granted = _ := congrArg Grant.granted grantB
  obtain ⟨x, y, shared, grantedA, grantedB⟩ := chargeSplit_granted res.cells.a.stage res.cells.b.stage
    snap.cells.a.vcell snap.cells.b.vcell res.pAvail.toNat res.w.a sp.iHingeMax
  rw [← pPre] at shared grantedA grantedB
  rw [← remainder] at shared
  refine ⟨⟨x, y, shared, fun c => ?_⟩, ?_, ?_⟩
  · cases c with
    | a => exact powerA.symm ▸ grantedA
    | b => exact powerB.symm ▸ grantedB
  · refine (congrArg Grant.setPoint grantA).trans ?_
    rw [show res.cells.a.granted = _ from powerA]
    rfl
  · refine (congrArg Grant.setPoint grantB).trans ?_
    rw [show res.cells.b.granted = _ from powerB]
    rfl

/-- The supply clause: the need shared by the second weight, and set-points by R106. -/
theorem share_need (h : (share snap cp capQ b ce sp su).pAvail < 0) :
    let res := share snap cp capQ b ce sp su
    let most := shareMost snap cp capQ b ce sp su
    let need := (-res.pAvail).toNat
    (res.cells.a.granted = (splitPower need res.v.a (most .a) (most .b)).1 ∧
      res.cells.b.granted = (splitPower need res.v.a (most .a) (most .b)).2) ∧
    (∀ c, (res.cells.get c).setPoint = supplySetPoint (res.cells.get c).granted (snap.cells.get c).vcell) ∧
    (res.shortfall = true ↔
      ((most .a).isNone = true ∧ (most .b).isNone = true) ∨ (most .a).getD 0 + (most .b).getD 0 < need) := by
  intro res most need
  have grantA := share_grant_of_need snap cp capQ b ce sp su h .a
  have grantB := share_grant_of_need snap cp capQ b ce sp su h .b
  have powerA := congrArg Grant.granted grantA
  have powerB := congrArg Grant.granted grantB
  have shortfall : res.shortfall = (decide (res.pAvail < 0) &&
    (decide ((most .a).getD 0 + (most .b).getD 0 < need) || ((most .a).isNone && (most .b).isNone))) := rfl
  refine ⟨⟨powerA, powerB⟩, fun c => ?_, ?_⟩
  · cases c with
    | a =>
      refine (congrArg Grant.setPoint grantA).trans ?_
      rw [show (res.cells.get .a).granted = _ from powerA]
      rfl
    | b =>
      refine (congrArg Grant.setPoint grantB).trans ?_
      rw [show (res.cells.get .b).granted = _ from powerB]
      rfl
  · rw [shortfall, decide_eq_true h, Bool.true_and, Bool.or_eq_true, Bool.and_eq_true, decide_eq_true_eq, or_comm]

theorem share_byFormula : SharedByFormula snap cp capQ b ce sp su (share snap cp capQ b ce sp su) := by
  refine ⟨rfl, rfl, rfl, share_states snap cp capQ b ce sp su, rfl, share_weights_eq snap cp capQ b ce sp su,
    fun c => ?_, fun surplus => ?_, share_precharge_of_no_surplus snap cp capQ b ce sp su, fun need => ?_⟩
  · cases c with
    | a => exact share_stage snap cp capQ b ce sp su .a
    | b => exact share_stage snap cp capQ b ce sp su .b
  · obtain ⟨pPre, remainder⟩ := share_precharge_of_surplus snap cp capQ b ce sp su surplus
    obtain ⟨⟨x, y, shared, granted⟩, setPointA, setPointB⟩ := share_surplus snap cp capQ b ce sp su surplus
    refine ⟨pPre, remainder, ⟨x, y, shared, fun c => ?_⟩, setPointA, setPointB⟩
    cases c with
    | a => exact granted .a
    | b => exact granted .b
  · obtain ⟨⟨powerA, powerB⟩, setPoints, shortfall⟩ := share_need snap cp capQ b ce sp su need
    have shared := splitPower_shared (-(share snap cp capQ b ce sp su).pAvail).toNat (share snap cp capQ b ce sp su).v.a
      (shareMost snap cp capQ b ce sp su .a) (shareMost snap cp capQ b ce sp su .b)
    rw [← powerA, ← powerB] at shared
    simp only [shareMost, supplyMost_isNone] at shortfall
    simp only [shareMost, supplyMost_eq] at shortfall shared
    exact ⟨shared, setPoints, shortfall⟩

/-! ### The bounds -/

theorem share_no_shortfall (h : 0 ≤ (share snap cp capQ b ce sp su).pAvail) :
    (share snap cp capQ b ce sp su).shortfall = false := by
  have notNegative : ¬ availablePower snap b < 0 := Int.not_lt.mpr h
  exact (congrArg (· && _) (decide_eq_false notNegative)).trans (Bool.false_and _)

theorem share_surplus_bounds (h : 0 < (share snap cp capQ b ce sp su).pAvail) :
    let res := share snap cp capQ b ce sp su
    (∀ c, 0 ≤ (res.cells.get c).setPoint ∧ (res.cells.get c).setPoint ≤ ((res.cells.get c).demand : Int)) ∧
      res.cells.b.setPoint ≤ (sp.iHingeMax : Int) ∧
      ((res.cells.a.granted + res.cells.b.granted : Nat) : Int) ≤ res.pAvail := by
  intro res
  obtain ⟨_, setPointA, setPointB⟩ := share_surplus snap cp capQ b ce sp su h
  have demand_bound : ∀ granted voltage demand, chargeSetPoint granted voltage demand ≤ demand :=
    fun _ _ _ => Nat.min_le_right _ _
  refine ⟨fun c => ?_, ?_, ?_⟩
  · cases c with
    | a =>
      exact ⟨setPointA ▸ Int.natCast_nonneg _, setPointA ▸ Int.ofNat_le.mpr (demand_bound _ _ _)⟩
    | b =>
      exact ⟨setPointB ▸ Int.natCast_nonneg _,
        setPointB ▸ Int.ofNat_le.mpr ((Nat.min_le_left _ _).trans (demand_bound _ _ _))⟩
  · exact setPointB ▸ Int.ofNat_le.mpr (Nat.min_le_right _ _)
  · have powerA := congrArg Grant.granted (share_grant_of_surplus snap cp capQ b ce sp su h .a)
    have powerB := congrArg Grant.granted (share_grant_of_surplus snap cp capQ b ce sp su h .b)
    have total : res.cells.a.granted + res.cells.b.granted ≤ res.pAvail.toNat :=
      (congrArg₂ (· + ·) powerA powerB).trans_le (chargeSplit_sum_le _ _ _ _ _ _ _)
    have positive : 0 < res.pAvail := h
    omega

theorem share_balance (h : (share snap cp capQ b ce sp su).pAvail = 0) (c : CellId) :
    let res := share snap cp capQ b ce sp su
    (res.cells.get c).setPoint = 0 ∧ (res.cells.get c).granted = 0 :=
  have grant := share_grant_of_balance snap cp capQ b ce sp su h c
  ⟨congrArg Grant.setPoint grant, congrArg Grant.granted grant⟩

theorem share_need_bounds (h : (share snap cp capQ b ce sp su).pAvail < 0) :
    let res := share snap cp capQ b ce sp su
    (∀ c, -(supplyLimit su sp.iHingeMax c : Int) ≤ (res.cells.get c).setPoint ∧ (res.cells.get c).setPoint ≤ 0) ∧
      ((res.cells.a.granted + res.cells.b.granted : Nat) : Int) ≤ -res.pAvail := by
  intro res
  obtain ⟨⟨powerA, powerB⟩, setPoints, _⟩ := share_need snap cp capQ b ce sp su h
  have most := splitPower_le_most (-res.pAvail).toNat res.v.a
    (shareMost snap cp capQ b ce sp su .a) (shareMost snap cp capQ b ce sp su .b)
  refine ⟨fun c => ?_, ?_⟩
  · rw [setPoints c]
    cases c with
    | a => exact supplySetPoint_bounds (powerA.trans_le most.1)
    | b => exact supplySetPoint_bounds (powerB.trans_le most.2)
  · have total : res.cells.a.granted + res.cells.b.granted ≤ (-res.pAvail).toNat :=
      (congrArg₂ (· + ·) powerA powerB).trans_le (splitPower_sum_le _ _ _ _)
    have negative : res.pAvail < 0 := h
    omega

end Share

/-! ### The settings words the stages read (R90, R135, R169) -/

theorem State.setting_zero (s : State) (i hi : Nat) : s.setting i 0 hi = min hi (s.readWord i).toNat :=
  congrArg (min hi) (Nat.zero_max _)

theorem State.budgetRead_eq (s : State) (snap : Snapshot) :
    s.budgetRead snap =
      { convGain := s.setting 0x088 128 256
        vC := match snap.source, snap.pair with
          | .none, _ => 0
          | .wired, .w0 => s.setting 0x080 4500 12000
          | .wired, .w1 => s.setting 0x082 4500 12000
          | .coil, _ => s.setting 0x085 4500 12000
        iC := match snap.source, snap.pair with
          | .none, _ => 0
          | .wired, .w0 => s.setting 0x081 0 5000
          | .wired, .w1 => s.setting 0x083 0 5000
          | .coil, _ => s.setting 0x086 0 1500 } := by
  unfold State.budgetRead
  cases snap.source with
  | none => rfl
  | coil => rfl
  | wired => cases snap.pair <;> rfl

/-- Settles O52: the formulas are the computation's own definitions, clause by clause; the bounds follow from the split,
which grants no more than it shares and to no cell more than its most. -/
theorem shareStaysWithinLimits : Obligations.ShareStaysWithinLimits := by
  refine ⟨fun snap cp capQ b ce sp su => ?_, fun s snap => ?_⟩
  · obtain ⟨wLow, wHigh, -, vLow, vHigh, -⟩ := share_weights snap cp capQ b ce sp su
    refine ⟨share_byFormula snap cp capQ b ce sp su, fun c above positive => ?_, ⟨wLow, wHigh, vLow, vHigh⟩,
      fun surplus => ?_, fun balance => ?_, fun need => ?_⟩
    · exact (share_states snap cp capQ b ce sp su c).trans (stateOfCharge_full above positive)
    · obtain ⟨setPoints, hinge, total⟩ := share_surplus_bounds snap cp capQ b ce sp su surplus
      exact ⟨setPoints, hinge, total, share_no_shortfall snap cp capQ b ce sp su surplus.le⟩
    · exact ⟨share_balance snap cp capQ b ce sp su balance, share_no_shortfall snap cp capQ b ce sp su balance.ge⟩
    · obtain ⟨setPoints, total⟩ := share_need_bounds snap cp capQ b ce sp su need
      exact ⟨(setPoints .a).1, (setPoints .a).2, (setPoints .b).1, (setPoints .b).2, total⟩
  · refine ⟨?_, rfl, ?_, ?_, ?_⟩
    · rw [State.budgetRead_eq]
      simp only [State.setting_zero]
      rfl
    · simp only [State.ceilingRead, State.imaxChg, State.ipre, State.setting_zero]
      rfl
    · simp only [State.chargeSplitRead, State.balGain, State.iHingeMax, State.setting_zero]
    · simp only [State.supplySplitRead, State.imaxDis, State.setting_zero]

end Sys2Proof.Machine
end

section
/-! PROOFS. O59 and O60: the plain lookup in the band table, and the window of the band held (R52, R53). -/

namespace Sys2Proof.Machine

-- One proof at a time: proofs elaborated side by side each hold a thread's stack.
set_option Elab.async false

/-! ### The plain lookup (R52) -/

/-- The two ways the search through the table ends: at the lowest band whose UPPER is at or above T_eff, or past the last
entry. -/
theorem plainLookup_cases (uppers : List Int) (teff : Int) :
    (plainLookup uppers teff < 8 ∧ teff ≤ uppers.getD (plainLookup uppers teff) 0 ∧
      ∀ j, j < plainLookup uppers teff → uppers.getD j 0 < teff) ∨
    (plainLookup uppers teff = 7 ∧ ∀ j, j < 8 → uppers.getD j 0 < teff) := by
  unfold plainLookup
  cases search : (List.range 8).find? fun i => decide (teff ≤ uppers.getD i 0) with
  | some i =>
    obtain ⟨above, inTable, below⟩ := List.find?_range_eq_some.mp search
    exact .inl ⟨List.mem_range.mp inTable, of_decide_eq_true above, fun j lower => by simpa using below j lower⟩
  | none => exact .inr ⟨rfl, fun j inTable => by simpa using List.find?_range_eq_none.mp search j inTable⟩

theorem plainLookup_le (uppers : List Int) (teff : Int) : plainLookup uppers teff ≤ 7 := by
  rcases plainLookup_cases uppers teff with ⟨inTable, -, -⟩ | ⟨last, -⟩
  · exact Nat.le_of_lt_succ inTable
  · exact last.le

theorem upper_lt_of_lt_plainLookup {uppers : List Int} {teff : Int} {j : Nat} (lower : j < plainLookup uppers teff) :
    uppers.getD j 0 < teff := by
  rcases plainLookup_cases uppers teff with ⟨-, -, below⟩ | ⟨last, below⟩
  · exact below j lower
  · exact below j (by omega)

theorem le_upper_plainLookup {uppers : List Int} {teff : Int} {j : Nat} (inTable : j < 8)
    (above : teff ≤ uppers.getD j 0) : teff ≤ uppers.getD (plainLookup uppers teff) 0 := by
  rcases plainLookup_cases uppers teff with ⟨-, found, -⟩ | ⟨-, below⟩
  · exact found
  · exact absurd (below j inTable) above.not_gt

theorem plainLookup_eq_seven {uppers : List Int} {teff : Int} (below : ∀ j, j < 8 → uppers.getD j 0 < teff) :
    plainLookup uppers teff = 7 := by
  rcases plainLookup_cases uppers teff with ⟨inTable, found, -⟩ | ⟨last, -⟩
  · exact absurd (below _ inTable) found.not_gt
  · exact last

/-- The UPPER values of the default table (10.9.3). -/
theorem State.reset_uppers : State.reset.uppers = [0, 10, 20, 38, 45, 50, 58, 125] := by decide

/-- Settles O59: by the two ways the search through the table ends, and on the default table by its values. -/
theorem plainLookup_isLowestBand : Obligations.PlainLookup := by
  unfold Obligations.PlainLookup
  refine ⟨fun uppers teff => ⟨⟨plainLookup_le uppers teff, fun _ => upper_lt_of_lt_plainLookup⟩, ?_,
    plainLookup_eq_seven⟩, ?_⟩
  · rintro ⟨j, inTable, above⟩
    exact le_upper_plainLookup inTable above
  · rw [State.reset_uppers]
    decide

/-! ### The window of the band held (R53) -/

theorem inBandWindow_iff {uppers : List Int} {i : Nat} {teff : Int} :
    inBandWindow uppers i teff = true ↔
      (i = 0 ∨ uppers.getD (i - 1) 0 - 2 < teff) ∧ (i = 7 ∨ teff ≤ uppers.getD i 0 + 2) := by
  simp only [inBandWindow, Bool.and_eq_true, Bool.or_eq_true, beq_iff_eq, decide_eq_true_eq]

theorem nextBand_none (uppers : List Int) (teff : Int) : nextBand uppers none teff = plainLookup uppers teff := rfl

theorem nextBand_of_inBandWindow {uppers : List Int} {i : Nat} {teff : Int} (within : inBandWindow uppers i teff = true) :
    nextBand uppers (some i) teff = i := if_pos within

theorem nextBand_of_not_inBandWindow {uppers : List Int} {i : Nat} {teff : Int}
    (outside : ¬ inBandWindow uppers i teff = true) :
    nextBand uppers (some i) teff = plainLookup uppers teff := if_neg outside

/-- Settles O60: with no band held and on the two sides of the window of the band held. -/
theorem bandWindow : Obligations.BandWindow := by
  unfold Obligations.BandWindow
  refine fun uppers teff => ⟨nextBand_none uppers teff, fun i _ => ⟨fun within => ?_, fun outside => ?_⟩⟩
  · exact nextBand_of_inBandWindow (inBandWindow_iff.mpr within)
  · exact nextBand_of_not_inBandWindow (mt inBandWindow_iff.mp outside)

end Sys2Proof.Machine
end

section
/-! PROOFS. O34, O35 and O54: the profile channels start, stop and take in what is fetched for them (R62, R65 to R68, R70,
R73, R76, R78, R79). -/

namespace Sys2Proof.Machine

-- One proof at a time: proofs elaborated side by side each hold a thread's stack.
set_option Elab.async false

/-! ### The settings words of the channels (R169) -/

theorem State.setting_mem (s : State) {lo hi : Nat} (range : lo ≤ hi) (i : Nat) :
    lo ≤ s.setting i lo hi ∧ s.setting i lo hi ≤ hi :=
  ⟨le_min range (le_max_left _ _), min_le_left _ _⟩

theorem State.ptBase_mem (s : State) (c : CellId) : 0x100 ≤ s.ptBase c ∧ s.ptBase c ≤ 0xFFA := by
  cases c with
  | a => exact s.setting_mem (by decide) 0x0A3
  | b => exact s.setting_mem (by decide) 0x0A4

theorem State.ptBase_of_mem {s u : State} (mem : u.mem = s.mem) (c : CellId) : u.ptBase c = s.ptBase c := by
  cases c with
  | a => exact State.setting_of_mem mem 0x0A3 0x100 0xFFA
  | b => exact State.setting_of_mem mem 0x0A4 0x100 0xFFA

theorem State.bMode_cases (s : State) : s.bMode = 0 ∨ s.bMode = 1 := by
  have bound : s.bMode ≤ 1 := (s.setting_mem (by decide) 0x0A5).2
  omega

/-! ### Fetches (R65, R66) -/

/-- A channel whose table is given up, with what waits for it at the arbiter (R66, R67, R78). -/
def Channel.withoutTable (x : Channel) (waiting : Option Nat) : Channel :=
  { x with
    fetch := none
    stagedValid := false
    endMark := false
    ignore := x.ignore || (x.fetch.isSome && waiting.isNone) }

theorem State.discardFetch_of_none {s : State} {c : CellId} (idle : (s.channel c).fetch = none) :
    s.discardFetch c = s := by
  unfold State.discardFetch
  dsimp only
  rw [idle]

theorem State.discardFetch_of_some {s : State} {c : CellId} {i : Nat} (flight : (s.channel c).fetch = some i) :
    s.discardFetch c = { s with
      channels := s.channels.set c { s.channel c with
        fetch := none, ignore := (s.channel c).ignore || (s.arbiter.fetch.get c).isNone }
      arbiter := { s.arbiter with fetch := s.arbiter.fetch.set c none } } := by
  unfold State.discardFetch
  dsimp only
  rw [flight, Option.not_isSome]
  rfl

/-- A fetch in flight is withdrawn where it waits, and its completion ignored where it is under way (R66). -/
theorem State.dropTable_eq (s : State) (c : CellId) : s.dropTable c = { s with
    channels := s.channels.set c ((s.channel c).withoutTable (s.arbiter.fetch.get c))
    arbiter := { s.arbiter with
      fetch := s.arbiter.fetch.set c (if (s.channel c).fetch.isSome then none else s.arbiter.fetch.get c) } } := by
  unfold State.dropTable Channel.withoutTable
  dsimp only
  cases flight : (s.channel c).fetch with
  | none =>
    rw [State.discardFetch_of_none flight, Option.isSome_none, if_neg Bool.false_ne_true, PerCell.set_get, Bool.false_and,
      Bool.or_false, ← flight]
    rfl
  | some i =>
    rw [State.discardFetch_of_some flight]
    cases c <;> rfl

theorem State.requestFetch_of_room {s : State} {c : CellId} (room : (s.channel c).nextIndex ≤ 0xFFA) :
    s.requestFetch c = { s with
      channels := s.channels.set c { s.channel c with
        fetch := some (s.channel c).nextIndex, nextIndex := (s.channel c).nextIndex + 6 }
      arbiter := { s.arbiter with fetch := s.arbiter.fetch.set c (some (s.channel c).nextIndex) } } :=
  if_neg (Nat.not_lt.mpr room)

/-! ### Starts and stops (R67, R78, R79) -/

theorem State.startOwn_eq (s : State) (c : CellId) : s.startOwn c = { s with
    channels := s.channels.set c { (s.channel c).withoutTable (s.arbiter.fetch.get c) with
      state := .starting
      fetch := some (s.ptBase c)
      nextIndex := s.ptBase c + 6
      starvedCount := 0
      overrun := false }
    arbiter := { s.arbiter with fetch := s.arbiter.fetch.set c (some (s.ptBase c)) } } := by
  have base : (s.dropTable c).ptBase c = s.ptBase c := State.ptBase_of_mem (by simp) c
  unfold State.startOwn
  dsimp only
  rw [base, State.requestFetch_of_room, State.dropTable_eq]
  · cases c <;> rfl
  · rw [State.channel_setChannel]
    exact (s.ptBase_mem c).2

theorem State.startFollowing_eq (s : State) : s.startFollowing = { s with
    channels := { s.channels with b := { s.channels.b.withoutTable s.arbiter.fetch.b with
      state := .following, starvedCount := 0, overrun := false } }
    arbiter := { s.arbiter with
      fetch := { s.arbiter.fetch with b := if s.channels.b.fetch.isSome then none else s.arbiter.fetch.b } } } := by
  unfold State.startFollowing
  rw [State.dropTable_eq]
  rfl

theorem exec_profileStartOf {s : State} {c : CellId} (serving : s.port.serving = true) (own : c = .a ∨ s.bMode = 0) :
    exec (profileStartOf c) s = .next (s.startOwn c).settle := by
  cases c with
  | a => exact congrArg Host.Outcome.next (if_pos serving)
  | b =>
    have mode : s.bMode = 0 := own.resolve_left nofun
    have start : s.profileStart .b = s.startOwn .b := if_pos mode
    refine congrArg Host.Outcome.next ((if_pos serving).trans ?_)
    rw [start, mode]
    rfl

theorem exec_profileStartB_following {s : State} (serving : s.port.serving = true) (mode : s.bMode = 1) :
    exec .profileStartB s = .next s.startFollowing := by
  have start : s.profileStart .b = s.startFollowing := if_neg (by omega)
  refine congrArg Host.Outcome.next ((if_pos serving).trans ?_)
  rw [start, mode]
  rfl

/-- Settles O34: a start gives up the old table, and then asks for segment 0 or follows. -/
theorem profileStart : Obligations.ProfileStart := by
  unfold Obligations.ProfileStart
  refine ⟨fun s c serving own => ?_, fun s serving mode => ?_, State.ptBase_mem, State.bMode_cases⟩
  · rw [exec_profileStartOf serving own, State.startOwn_eq]
    rfl
  · rw [exec_profileStartB_following serving mode, State.startFollowing_eq]
    rfl

theorem exec_profileStopOf (s : State) (c : CellId) :
    exec (profileStopOf c) s = .next (s.whenServing (s.profileStop c)) := by cases c <;> rfl

/-- Settles O35: a stop gives up the table of a channel that is not STOPPED. -/
theorem profileStop : Obligations.ProfileStop := by
  unfold Obligations.ProfileStop
  refine ⟨fun s c serving goes => ?_, fun s c stands => ?_⟩
  · rw [exec_profileStopOf, State.whenServing, if_pos serving, State.profileStop, if_neg goes, State.dropTable_eq]
    cases c <;> rfl
  · rw [exec_profileStopOf, State.whenServing, State.profileStop, if_pos stands, ite_self]

/-! ### The completion of a fetch (R66, R68, R70, R76) -/

theorem exec_profileFetchCompletion {s : State} {c : CellId} {i : Nat} {ws : List Word}
    (way : s.arbiter.underWay = some (.fetch c i ws)) :
    exec .profileFetchCompletion s = .next (s.profileFetchCompleted c i ws).settle := by
  simp only [exec, execProfileFetchCompletion, way]

theorem State.profileFetchCompleted_of_ignore {s : State} {c : CellId} (marked : (s.channel c).ignore = true) (i : Nat)
    (ws : List Word) :
    s.profileFetchCompleted c i ws = s.endTransaction.setChannel c { s.channel c with ignore := false } := by
  unfold State.profileFetchCompleted
  rw [if_pos (by rw [marked, Bool.true_or])]
  exact if_pos marked

/-- A fetch under way at a POR is awaited by no one (R84, R171; log entry 49). -/
theorem State.profileFetchCompleted_of_left {s : State} {c : CellId} (clear : (s.channel c).ignore = false)
    (left : s.arbiter.awaited = false) (i : Nat) (ws : List Word) : s.profileFetchCompleted c i ws = s.endTransaction :=
  if_neg (by rw [clear, left]; exact Bool.false_ne_true)

/-- A channel takes the record that a fetch has read, by its state (R68, R70, R76). -/
def State.recordTaken (s : State) (c : CellId) (g : Segment) : ChannelState → State
  | .starting => s.install c g
  | .running => s.setChannel c { s.channel c with staged := g, stagedValid := true }
  | .starved => s.swap c g
  | _ => s

theorem State.profileFetchCompleted_of_awaited {s : State} {c : CellId} {x : ChannelState}
    (clear : (s.channel c).ignore = false) (awaited : s.arbiter.awaited = true) (state : (s.channel c).state = x) (i : Nat)
    (ws : List Word) :
    s.profileFetchCompleted c i ws =
      (s.endTransaction.setChannel c { s.channel c with fetch := none }).recordTaken c (segmentOf i ws) x := by
  subst state
  have same : s.endTransaction.channel c = s.channel c := rfl
  unfold State.profileFetchCompleted
  rw [if_pos (by rw [awaited, Bool.or_true])]
  refine (if_neg (ne_true_of_eq_false clear)).trans ?_
  dsimp only
  rw [same]
  cases (s.channel c).state <;> rfl

/-- Settles O54: the record clamped, and the completion by the marks and the state of the channel. -/
theorem profileFetchCompletes : Obligations.ProfileFetchCompletes := by
  unfold Obligations.ProfileFetchCompletes
  refine ⟨fun _ _ => rfl, fun s c i ws way => ?_⟩
  rw [exec_profileFetchCompletion way]
  intro x ended taken g
  refine ⟨fun marked => ?_, fun clear left => ?_, fun clear awaited runs => ?_, fun clear awaited starts => ?_,
    fun clear awaited starves => ?_, fun clear awaited aside => ?_⟩
  · rw [State.profileFetchCompleted_of_ignore marked]
    rfl
  · rw [State.profileFetchCompleted_of_left clear left]
    rfl
  · rw [State.profileFetchCompleted_of_awaited clear awaited runs]
    cases c <;> rfl
  · have installed : taken.recordTaken c g .starting =
        State.fetchAfter { ended with channels := s.channels.set c (takesRecord { x with fetch := none } g 0) } c g := by
      cases c <;> rfl
    rw [State.profileFetchCompleted_of_awaited clear awaited starts]
    exact ⟨_, nextFetch_fetchAfter _ c g, congrArg (fun t : State => Host.Outcome.next t.settle) installed⟩
  · rw [State.profileFetchCompleted_of_awaited clear awaited starves]
    exact ⟨_, swappedIn_swap taken c g, rfl⟩
  · rcases aside with stopped | holding | following
    · rw [State.profileFetchCompleted_of_awaited clear awaited stopped]
      rfl
    · rw [State.profileFetchCompleted_of_awaited clear awaited holding]
      rfl
    · rw [State.profileFetchCompleted_of_awaited clear awaited following]
      rfl

end Sys2Proof.Machine
end

section
/-! PROOFS. O57: the arbiter's grants, in the order of R170 (R66, R86, R87, R144, R168 to R170, R172). -/

namespace Sys2Proof.Machine

-- One proof at a time: proofs elaborated side by side each hold a thread's stack.
set_option Elab.async false

/-! ### The stages worked before a write (R86, R87) -/

theorem readOnce_spec {α : Type} (worked : Bool) (held : Option α) (now : α) :
    ReadOnce held (readOnce worked held now) now := by
  cases worked with
  | false => exact .inl rfl
  | true =>
    cases held with
    | none => exact .inr ⟨rfl, rfl⟩
    | some x => exact .inl rfl

theorem readOnce_false {α : Type} (held : Option α) (now : α) : readOnce false held now = held := rfl

theorem readOnce_isSome {α : Type} {worked : Bool} (does : worked = true) (held : Option α) (now : α) :
    (readOnce worked held now).isSome = true := by
  subst does
  rfl

/-- A reading that differs from what was held is of a stage that has been worked. -/
theorem worked_of_readOnce_ne {α : Type} {worked : Bool} {held : Option α} {now : α}
    (differs : readOnce worked held now ≠ held) : worked = true := by
  cases worked with
  | false => exact absurd rfl differs
  | true => rfl

/-- The stages worked in an allocation read in the order of chapter 6, and all but the budget after the counter point. -/
theorem stagesWorked_workStages {s : State} {al : Allocation} (flight : s.allocator.inFlight = some al) (n : Nat)
    (early : Bool) : StagesWorked s (s.workStages n early).tick := by
  refine ⟨fun idle => absurd (idle.symm.trans flight) nofun, fun al' same => ?_⟩
  obtain rfl : al = al' := Option.some.inj (flight.symm.trans same)
  refine ⟨al.work s n early, ?_, rfl, readOnce_spec _ _ _, readOnce_spec _ _ _, readOnce_spec _ _ _, readOnce_spec _ _ _,
    readOnce_spec _ _ _, fun ahead => ?_, fun reads => ?_, fun reads => ?_, fun reads => ?_⟩
  · unfold State.workStages
    rw [flight]
    dsimp only
    cases (al.work s n early).budget <;> rfl
  · unfold Allocation.work
    simp only [ahead, Option.isSome_none, Bool.false_and, readOnce_false, and_self]
  · have worked := worked_of_readOnce_ne reads
    simp only [Bool.and_eq_true, decide_eq_true_eq] at worked
    exact readOnce_isSome (decide_eq_true (by omega)) _ _
  · have worked := worked_of_readOnce_ne reads
    simp only [Bool.and_eq_true, decide_eq_true_eq] at worked
    obtain ⟨counted, third⟩ := worked
    exact ⟨readOnce_isSome (by simp [counted]; omega) _ _, readOnce_isSome (by simp [counted, third]) _ _⟩
  · have worked := worked_of_readOnce_ne reads
    simp only [Bool.and_eq_true, decide_eq_true_eq] at worked
    obtain ⟨counted, fourth⟩ := worked
    exact readOnce_isSome (by simp [counted]; omega) _ _

theorem stagesWorked_workFreely (s : State) : StagesWorked s s.workFreely := by
  unfold State.workFreely
  split
  next idle => exact ⟨fun _ => rfl, fun al flight => absurd (idle.symm.trans flight) nofun⟩
  next al flight => exact stagesWorked_workStages flight _ _

/-! ### The run granted (R168) -/

/-- A run at its grant: a read takes its words from memory as it stands. -/
def Run.granted (r : Run) (m : Memory) : Run :=
  { r with
    phase := .granted
    words := match r.dir with
      | .read => Memory.readWords m r.start r.length
      | .write => r.words }

/-- The run granted is the first that has not completed. -/
theorem takeWaiting_of_completed {m : Memory} {earlier later : List PortOp} {r : Run}
    (completed : ∀ op ∈ earlier, Completed op) (waits : r.phase = .waiting) :
    takeWaiting m (earlier ++ .run r :: later) = some (earlier ++ .run (r.granted m) :: later, r.granted m) := by
  induction earlier with
  | nil => exact if_pos waits
  | cons op earlier ih =>
    obtain ⟨first, rest⟩ := List.forall_mem_cons.mp completed
    cases op with
    | write reg value => exact first.elim
    | run q =>
      have done : q.phase ≠ .waiting := by
        rw [show q.phase = .done from first]
        decide
      exact (if_neg done).trans (congrArg (Option.map _) (ih rest))

/-! ### The grants -/

/-- While a conversion is in flight, settling is the arbiter's grant alone (R30). -/
theorem State.settle_of_converting {s : State} (converts : s.converter.inFlight ≠ .none) : s.settle = s.arbitrate := by
  have stands : s.convert = s := if_pos converts
  rw [State.settle, stands]

theorem State.arbitrate_of_free {s : State} (free : s.arbiter.underWay = none) : s.arbitrate = s.grantFirst :=
  if_neg (by rw [free]; exact Bool.false_ne_true)

section Order

variable {s : State} (noGauge : s.arbiter.gauge = false) (noFetchA : s.arbiter.fetch.a = none)
  (noFetchB : s.arbiter.fetch.b = none) (noLink : s.arbiter.link = false) (noSeqFetch : s.arbiter.seqFetch = none)
  (noSeqWrite : s.arbiter.seqWrite = none)

theorem State.grantFirst_gauge (waits : s.arbiter.gauge = true) : s.grantFirst = s.grantGauge := if_pos waits

include noGauge

theorem State.grantFirst_fetchA {i : Nat} (waits : s.arbiter.fetch.a = some i) : s.grantFirst = s.grantFetch .a i := by
  simp only [State.grantFirst, noGauge, waits, Bool.false_eq_true, if_false]

include noFetchA

theorem State.grantFirst_fetchB {i : Nat} (waits : s.arbiter.fetch.b = some i) : s.grantFirst = s.grantFetch .b i := by
  simp only [State.grantFirst, noGauge, noFetchA, waits, Bool.false_eq_true, if_false]

include noFetchB

theorem State.grantFirst_link (waits : s.arbiter.link = true) : s.grantFirst = s.grantLink := by
  simp only [State.grantFirst, noGauge, noFetchA, noFetchB, waits, Bool.false_eq_true, if_false, if_true]

include noLink

theorem State.grantFirst_seqFetch {i : Nat} (waits : s.arbiter.seqFetch = some i) :
    s.grantFirst = s.grantSeqFetch i := by
  simp only [State.grantFirst, noGauge, noFetchA, noFetchB, noLink, waits, Bool.false_eq_true, if_false]

include noSeqFetch

theorem State.grantFirst_seqWrite {i : Nat} {v : Word} (waits : s.arbiter.seqWrite = some (i, v)) :
    s.grantFirst = s.grantSeqWrite i v := by
  simp only [State.grantFirst, noGauge, noFetchA, noFetchB, noLink, noSeqFetch, waits, Bool.false_eq_true, if_false]

include noSeqWrite

theorem State.grantFirst_refresh (waits : s.arbiter.refresh = true) : s.grantFirst = s.grantRefresh := by
  simp only [State.grantFirst, noGauge, noFetchA, noFetchB, noLink, noSeqFetch, noSeqWrite, waits, Bool.false_eq_true,
    if_false, if_true]

theorem State.grantFirst_none (noRefresh : s.arbiter.refresh = false) : s.grantFirst = s := by
  simp only [State.grantFirst, noGauge, noFetchA, noFetchB, noLink, noSeqFetch, noSeqWrite, noRefresh, Bool.false_eq_true,
    if_false]

end Order

theorem State.grantGauge_eq {s : State} {e : GaugeEntry} {rest : List GaugeEntry} (list : s.gauge = e :: rest) :
    s.grantGauge = { s with
      arbiter := { s.arbiter with gauge := false, underWay := some (.gauge e), awaited := true } } := by
  unfold State.grantGauge
  split
  next empty => exact absurd (empty.symm.trans list) nofun
  next first _ found =>
    obtain ⟨rfl, -⟩ := List.cons.inj (found.symm.trans list)
    rfl

theorem State.grantLink_read {s : State} {r : Run} {earlier later : List PortOp}
    (ops : s.port.ops = earlier ++ .run r :: later) (completed : ∀ op ∈ earlier, Completed op)
    (waits : r.phase = .waiting) (reads : r.dir = .read) :
    s.grantLink = { s with
      arbiter := { s.arbiter with link := false, underWay := some (.link .read), awaited := true }
      port := { s.port with ops := earlier ++ .run { r with
        phase := .granted
        words := (List.range r.length).map fun k => s.readWord (r.start + k) } :: later } } := by
  have granted : r.granted s.mem = { r with
      phase := .granted, words := (List.range r.length).map fun k => s.readWord (r.start + k) } := by
    unfold Run.granted
    rw [reads]
    rfl
  unfold State.grantLink
  rw [ops, takeWaiting_of_completed completed waits, granted]
  dsimp only
  rw [reads]
  rfl

/-- A word of the sequencer's is written after the stages worked by then have read theirs, where it may write (R169). -/
theorem State.grantSeqWrite_eq (s : State) (i : Nat) (v : Word) :
    let t := (s.beginTransaction { s.arbiter with seqWrite := none } (.seqWrite i v)).workFreely
    s.grantSeqWrite i v = { t with
      mem := if 0x080 ≤ i ∧ i < 0x1000 then Memory.writeWord s.mem i v else s.mem } := by
  intro t
  have mem : t.mem = s.mem := by simp [t]
  have may : seqMayWrite i = true ↔ 0x080 ≤ i ∧ i < 0x1000 := by
    simp only [seqMayWrite, Bool.and_eq_true, decide_eq_true_eq]
    exact Iff.rfl
  show (if seqMayWrite i then t.writeWord i v else t) = _
  rw [← mem]
  by_cases within : 0x080 ≤ i ∧ i < 0x1000
  · rw [if_pos (may.mpr within), if_pos within]
    rfl
  · rw [if_neg (mt may.mp within), if_neg within]

theorem State.grantRefresh_eq {s : State} {b : Nat} (marked : lowestMark s.refresh.marks = some b) :
    s.grantRefresh = { s with
      arbiter := { s.arbiter with refresh := false, underWay := some (.refresh b), awaited := true }
      refresh := { s.refresh with marks := s.refresh.marks.set b false }
      mem := writeBlock s.refresh.image b s.mem } := by
  unfold State.grantRefresh
  rw [marked]
  rfl

/-- Settles O57: the first waiting request in the order of R170, and what its grant does. -/
theorem arbiterGrantsInOrder : Obligations.ArbiterGrantsInOrder := by
  unfold Obligations.ArbiterGrantsInOrder
  intro s converts ar
  rw [State.settle_of_converting converts]
  refine ⟨fun busy => if_pos busy, fun free => ?_, fun free => ?_, fun free => ?_, fun free => ?_, fun free => ?_,
    fun free => ?_, fun free => ?_, fun free => ?_⟩
  all_goals rw [State.arbitrate_of_free free]
  · intro waits e rest list
    rw [State.grantFirst_gauge waits]
    exact State.grantGauge_eq list
  · intro noGauge i waits
    exact State.grantFirst_fetchA noGauge waits
  · intro noGauge noFetchA i waits
    exact State.grantFirst_fetchB noGauge noFetchA waits
  · intro noGauge noFetchA noFetchB waits earlier r later ops completed waiting reads
    rw [State.grantFirst_link noGauge noFetchA noFetchB waits]
    exact State.grantLink_read ops completed waiting reads
  · intro noGauge noFetchA noFetchB noLink i waits
    exact State.grantFirst_seqFetch noGauge noFetchA noFetchB noLink waits
  · intro noGauge noFetchA noFetchB noLink noSeqFetch i v waits
    rw [State.grantFirst_seqWrite noGauge noFetchA noFetchB noLink noSeqFetch waits]
    exact ⟨_, stagesWorked_workFreely _, s.grantSeqWrite_eq i v⟩
  · intro noGauge noFetchA noFetchB noLink noSeqFetch noSeqWrite waits b marked
    rw [State.grantFirst_refresh noGauge noFetchA noFetchB noLink noSeqFetch noSeqWrite waits]
    exact State.grantRefresh_eq marked
  · exact State.grantFirst_none

end Sys2Proof.Machine
end

section
/-! PROOFS. O53: the status refresh, word by word (R83, R110, R124, R139, R163, R169, R172; 10.9.2). -/

namespace Sys2Proof.Machine

-- One proof at a time: proofs elaborated side by side each hold a thread's stack.
set_option Elab.async false

/-! ### Codes and flags (10.9.2) -/

theorem PartState.code_eq_placeIn (x : PartState) : x.code = placeIn [.run, .quiet, .shipEntry, .ship, .heat] x := by
  cases x <;> rfl

theorem ShipResult.code_eq_placeIn (x : ShipResult) : x.code = placeIn [.none, .accepted, .refused] x := by
  cases x <;> rfl

theorem Source.code_eq_placeIn (x : Source) : x.code = placeIn [.none, .wired, .coil] x := by cases x <;> rfl

theorem DetectionState.code_eq_placeIn (x : DetectionState) : x.code = placeIn [.detached, .settling, .attached] x := by
  cases x <;> rfl

theorem ChangeoverPhase.code_eq_placeIn (x : ChangeoverPhase) : x.code = placeIn [.none, .wait, .held, .done] x := by
  cases x <;> rfl

theorem ChargeState.code_eq_placeIn (x : ChargeState) :
    x.code = placeIn [.absent, .idle, .precharge, .bulk, .taper, .full, .held, .tripped] x := by cases x <;> rfl

/-- The causes of a trip are numbered from 1: 0 is no trip. -/
theorem TripCause.code_eq_placeIn (x : TripCause) : x.code = 1 + placeIn [.ov, .occ, .ocd, .ot, .hinge] x := by
  cases x <;> rfl

theorem ReleaseResult.code_eq_placeIn (x : ReleaseResult) :
    x.code = placeIn [.none, .released, .refused, .notTripped] x := by cases x <;> rfl

theorem ChannelState.code_eq_placeIn (x : ChannelState) :
    x.code = placeIn [.stopped, .starting, .running, .holding, .starved, .following] x := by cases x <;> rfl

theorem TransferState.code_eq_placeIn (x : TransferState) : x.code = placeIn [.off, .runAB, .runBA, .rest] x := by
  cases x <;> rfl

theorem StopCause.code_eq_placeIn (x : StopCause) :
    x.code = placeIn [.none, .ineligible, .balanced, .reversed, .lowCurrent, .receiverLimit, .cell, .source, .window,
      .heat, .ship] x := by cases x <;> rfl

theorem SeqState.code_eq_placeIn (x : SeqState) :
    x.code = placeIn [.idle, .fetch, .triggerWait, .convert, .pause, .write, .frozen] x := by cases x <;> rfl

theorem bit_eq_flagBit (b : Bool) (place : Nat) : bit b place = flagBit place b := rfl

/-! ### The image (R172) -/

/-- The offsets of a block. -/
theorem blockOffsets : List.range 32 = [0, 1, 2, 3, 4, 5, 6, 7, 8, 9, 10, 11, 12, 13, 14, 15, 16, 17, 18, 19, 20, 21, 22,
    23, 24, 25, 26, 27, 28, 29, 30, 31] := rfl

/-- The four blocks of the status page, each by its offsets. -/
theorem State.statusImage_blocks (s : State) :
    s.statusImage = (List.range 32).map s.generalWord ++ (List.range 32).map (s.cellWord .a) ++
      (List.range 32).map (s.cellWord .b) ++ (List.range 32).map s.lastBlockWord := by
  have block : ∀ (b : Nat) (f : Nat → Word), (∀ k, k < 32 → s.statusWord (32 * b + k) = f k) →
      ((List.range 32).map (32 * b + ·)).map s.statusWord = (List.range 32).map f := fun b f word => by
    rw [List.map_map]
    exact List.map_congr_left fun k within => word k (List.mem_range.mp within)
  have page : List.range 0x80 = (List.range 32).map (32 * 0 + ·) ++ (List.range 32).map (32 * 1 + ·) ++
      (List.range 32).map (32 * 2 + ·) ++ (List.range 32).map (32 * 3 + ·) := rfl
  have place : ∀ b k, k < 32 → (32 * b + k) / 32 = b ∧ (32 * b + k) % 32 = k := fun b k within => by omega
  unfold State.statusImage
  rw [page]
  simp only [List.map_append]
  rw [block 0 s.generalWord, block 1 (s.cellWord .a), block 2 (s.cellWord .b), block 3 s.lastBlockWord]
  all_goals
    intro k within
    unfold State.statusWord
    rw [(place _ k within).1, (place _ k within).2]
    rfl

/-- Word 0x00F: the phase of the changeover and its target. -/
theorem State.generalWord_changeover (s : State) :
    s.generalWord 0x0F = BitVec.ofNat 16 (placeIn [.none, .wait, .held, .done] s.selector.phase +
      256 * placeIn [none, some Input.wired, some .coil] s.selector.target) := by
  dsimp only [State.generalWord]
  rw [ChangeoverPhase.code_eq_placeIn]
  rcases s.selector.target with _ | _ | _ <;> rfl

theorem State.generalBlock_words (s : State) : (List.range 32).map s.generalWord = generalBlock s := by
  have floor : ∀ x : Int, x.fdiv 65536 = x / 0x10000 := fun x => Int.fdiv_eq_ediv_of_nonneg x (by decide)
  rw [blockOffsets]
  simp only [List.map_cons, List.map_nil]
  rw [s.generalWord_changeover]
  simp only [State.generalWord, generalBlock, natWord, wordOf, PartState.code_eq_placeIn, ShipResult.code_eq_placeIn,
    Source.code_eq_placeIn, DetectionState.code_eq_placeIn, bit_eq_flagBit, beq_eq_decide, floor, Nat.mul_comm _ 256]

theorem State.transferBlock_words (s : State) : (List.range 32).map s.lastBlockWord = transferBlock s := by
  rw [blockOffsets]
  simp only [List.map_cons, List.map_nil, State.lastBlockWord, transferBlock, natWord, wordOf,
    TransferState.code_eq_placeIn, StopCause.code_eq_placeIn, SeqState.code_eq_placeIn, bit_eq_flagBit, Nat.mul_comm _ 256,
    Nat.mul_comm _ 16]

/-- The trip word: cause and detection of the first fault, the result of the latest RELEASE, and the trip count. -/
theorem CellPath.tripWord_eq (x : CellPath) :
    x.tripWord = (x.trip.map fun t => 1 + placeIn [TripCause.ov, .occ, .ocd, .ot, .hinge] t.cause).getD 0 +
      (x.trip.map fun t => flagBit 3 (t.detection = .scan)).getD 0 +
      16 * placeIn [ReleaseResult.none, .released, .refused, .notTripped] x.releaseResult + 256 * x.tripCount := by
  unfold CellPath.tripWord
  rw [ReleaseResult.code_eq_placeIn, Nat.mul_comm _ 16, Nat.mul_comm _ 256]
  cases x.trip with
  | none => rfl
  | some t =>
    simp only [TripCause.code_eq_placeIn]
    rfl

theorem CellPath.tripField_eq (x : CellPath) (f : TripRecord → Int) :
    x.tripField f = BitVec.ofInt 16 ((x.trip.map f).getD 0) := by
  unfold CellPath.tripField
  cases x.trip <;> rfl

theorem CellPath.tripField_natCast (x : CellPath) (f : TripRecord → Nat) :
    x.tripField (fun t => (f t : Int)) = BitVec.ofNat 16 ((x.trip.map f).getD 0) := by
  unfold CellPath.tripField
  cases x.trip with
  | none => rfl
  | some t => exact BitVec.ofInt_natCast 16 (f t)

/-- The output shown is the one the allocation took (R83; log entry 43), or the channel's own (log entry 23). -/
theorem State.shownOutput_eq (s : State) (c : CellId) :
    s.shownOutput c = (s.allocator.published.cells.get c).output.getD
      { ceiling := (s.channel c).ceiling, vcap := (s.channel c).vcap } := by
  unfold State.shownOutput
  split
  next taken => rw [taken, Option.getD_some]
  next none_ => rw [none_, Option.getD_none]

/-! ### The write of a block (R169, R172) -/

theorem isChargeWord_iff (i : Nat) :
    isChargeWord i = true ↔ i ∈ [0x020, 0x021, 0x022, 0x040, 0x041, 0x042] := by
  simp only [isChargeWord, Bool.or_eq_true, Bool.and_eq_true, decide_eq_true_eq, List.mem_cons, List.not_mem_nil, or_false]
  omega

theorem writeImageWord_wf {m : Memory} (w : Memory.wf m = true) (image : List Word) (j : Nat) :
    Memory.wf (writeImageWord image m j) = true := by
  unfold writeImageWord
  split
  · exact w
  · exact Memory.writeWord_wf w _ _

theorem readWord_writeImageWord {m : Memory} (w : Memory.wf m = true) (image : List Word) {j : Nat} (area : j < areaWords)
    (i : Nat) :
    Memory.readWord (writeImageWord image m j) i =
      if i = j ∧ isChargeWord i = false then wordAt image i else Memory.readWord m i := by
  unfold writeImageWord
  by_cases charge : isChargeWord j = true
  · rw [if_pos charge, if_neg]
    rintro ⟨rfl, other⟩
    exact ne_true_of_eq_false other charge
  · rw [if_neg charge, Memory.readWord_writeWord w area]
    by_cases same : i = j
    · subst same
      rw [if_pos rfl, if_pos ⟨rfl, Bool.eq_false_iff.mpr charge⟩]
    · rw [if_neg same, if_neg fun h => same h.1]

/-- Words written one after the other from the image: each but those of Q and F holds the image's. -/
theorem readWord_foldl_writeImageWord (image : List Word) {l : List Nat} {m : Memory} (w : Memory.wf m = true)
    (area : ∀ j ∈ l, j < areaWords) (i : Nat) :
    Memory.readWord (l.foldl (writeImageWord image) m) i =
      if i ∈ l ∧ isChargeWord i = false then wordAt image i else Memory.readWord m i := by
  induction l generalizing m with
  | nil => exact (if_neg fun h => List.not_mem_nil h.1).symm
  | cons j l ih =>
    obtain ⟨first, rest⟩ := List.forall_mem_cons.mp area
    rw [List.foldl_cons, ih (writeImageWord_wf w image j) rest, readWord_writeImageWord w image first, ← ite_or]
    refine if_congr ?_ rfl rfl
    rw [List.mem_cons, or_and_right, or_comm]

theorem readWord_writeBlock {m : Memory} (w : Memory.wf m = true) (image : List Word) {block : Nat} (page : block < 4)
    (i : Nat) :
    Memory.readWord (writeBlock image block m) i =
      if i / 32 = block ∧ isChargeWord i = false then image.getD i 0 else Memory.readWord m i := by
  have inBlock : ∀ j, j ∈ (List.range 32).map (32 * block + ·) ↔ j / 32 = block := fun j => by
    rw [List.mem_map]
    constructor
    · rintro ⟨k, within, rfl⟩
      have small := List.mem_range.mp within
      omega
    · intro quotient
      exact ⟨j % 32, List.mem_range.mpr (Nat.mod_lt j (by decide)), by omega⟩
  have area : ∀ j ∈ (List.range 32).map (32 * block + ·), j < areaWords := fun j within => by
    have quotient := (inBlock j).mp within
    unfold areaWords
    omega
  unfold writeBlock
  rw [readWord_foldl_writeImageWord image w area]
  exact if_congr (and_congr_left' (inBlock i)) rfl rfl

theorem exec_refreshBlockWrite {s : State} {b : Nat} (way : s.arbiter.underWay = some (.refresh b)) :
    exec .refreshBlockWrite s = .next s.endTransaction.waitRefresh.settle := by
  simp only [exec, execRefreshBlockWrite, way]

end Sys2Proof.Machine

namespace Sys2Proof.StatusPage

-- The statement's block of a cell and the model's first word of it have one name.
open Sys2Proof.Machine hiding cellBlock

theorem cellBlock_words (s : State) (c : CellId) : (List.range 32).map (s.cellWord c) = cellBlock s c := by
  rw [blockOffsets]
  simp only [List.map_cons, List.map_nil, State.cellWord, CellPath.tripField_natCast]
  simp only [cellBlock, natWord, wordOf, Holds.code, bandCode, ChargeState.code_eq_placeIn, ChannelState.code_eq_placeIn,
    CellPath.tripWord_eq, CellPath.tripField_eq, State.shownOutput_eq, bit_eq_flagBit, Nat.mul_comm _ 256]

/-- Settles O53: the image block by block, a block's write word by word, and its completion. -/
theorem refreshWritesItsBlock : Obligations.RefreshWritesItsBlock := by
  unfold Obligations.RefreshWritesItsBlock
  refine ⟨fun s => ?_, isChargeWord_iff, fun image block m i w page _ => readWord_writeBlock w image page i,
    fun s b way => exec_refreshBlockWrite way⟩
  rw [s.statusImage_blocks, s.generalBlock_words, cellBlock_words, cellBlock_words, s.transferBlock_words]

end Sys2Proof.StatusPage
end

section
/-! PROOFS. O26: a write run of the link writes at its grant, and runs complete and let a held write act (R86, R87, R167
to R169, R174). -/

namespace Sys2Proof.Machine

/-! ### The words of a write run (R168, R169) -/

theorem linkMayWrite_iff (i : Nat) : linkMayWrite i = true ↔ 0x080 ≤ i ∧ i < 0x1000 := by
  simp only [linkMayWrite, Bool.and_eq_true, decide_eq_true_eq]
  exact Iff.rfl

theorem readWord_writeRun_of_area {m : Memory} (w : Memory.wf m = true) (start : Nat) (ws : List Word) {i : Nat}
    (area : i < 0x1000) :
    Memory.readWord (writeRun m start ws) i =
      if start ≤ i ∧ i < start + ws.length ∧ 0x080 ≤ i then ws.getD (i - start) 0 else Memory.readWord m i := by
  rw [readWord_writeRun w ws start i]
  refine if_congr (and_congr_right fun _ => and_congr_right fun _ => ?_) rfl rfl
  rw [linkMayWrite_iff, and_iff_left area]

/-! ### The grant of a write run (R86, R168, R170) -/

/-- The converter's grant changes the converter alone. -/
theorem State.convert_eq (s : State) : s.convert = { s with converter := s.convert.converter } := by
  unfold State.convert
  dsimp only
  split
  next taken => rfl
  next free =>
    split
    next scan => rfl
    next noScan => split <;> rfl

/-- LINK is granted behind GAUGE and the fetches (R170). -/
theorem State.settle_of_link {s : State} (free : s.arbiter.underWay = none) (noGauge : s.arbiter.gauge = false)
    (noFetch : s.arbiter.fetch = { a := none, b := none }) (waits : s.arbiter.link = true) :
    s.settle = s.convert.grantLink := by
  have arbiter : s.convert.arbiter = s.arbiter := by simp
  rw [← arbiter] at free noGauge noFetch waits
  rw [State.settle, State.arbitrate_of_free free,
    State.grantFirst_link noGauge (congrArg PerCell.a noFetch) (congrArg PerCell.b noFetch) waits]

/-- The words of a write run are written after the stages worked by then have read theirs (R86). -/
theorem State.grantLink_write {s : State} {r : Run} {earlier later : List PortOp}
    (ops : s.port.ops = earlier ++ .run r :: later) (completed : ∀ op ∈ earlier, Completed op)
    (waits : r.phase = .waiting) (writes : r.dir = .write) :
    s.grantLink = { ({ s with
      port := { s.port with ops := earlier ++ .run { r with phase := .granted } :: later }
      arbiter := { s.arbiter with link := false, underWay := some (.link .write), awaited := true } } :
        State).workFreely with mem := writeRun s.mem r.start r.words } := by
  have granted : r.granted s.mem = { r with phase := .granted } := by
    unfold Run.granted
    rw [writes]
  unfold State.grantLink
  rw [ops, takeWaiting_of_completed completed waits, granted]
  dsimp only
  rw [writes]
  simp [State.beginTransaction, State.setArbiter, State.setPort]

/-! ### The request of LINK (R167) -/

/-- The first operation that has not completed decides whether LINK waits. -/
theorem nextWaits_eq (ops : List PortOp) : nextWaits ops = (firstOutstanding ops).any PortOp.waits := by
  induction ops with
  | nil => rfl
  | cons op ops ih =>
    cases op with
    | write reg value => rfl
    | run r =>
      by_cases done : r.phase = .done
      · have passed : PortOp.outstanding (.run r) = false := bne_eq_false_iff_eq.mpr done
        rw [nextWaits, if_pos done, ih]
        exact congrArg _ (List.find?_cons_of_neg (Bool.eq_false_iff.mp passed)).symm
      · have found : PortOp.outstanding (.run r) = true := bne_iff_ne.mpr done
        rw [nextWaits, if_neg done, firstOutstanding, List.find?_cons_of_pos found]
        exact (beq_eq_decide _ _).symm

theorem State.requestLink_eq (s : State) : s.requestLink = linkRequested s := by
  unfold State.requestLink linkRequested
  rw [nextWaits_eq]
  rcases firstOutstanding s.port.ops with _ | (r | _) <;> rfl

/-! ### The completion of a run (R168, R174) -/

theorem Run.completed_eq (r : Run) :
    r.completed = if r.dir = .read ∧ r.stale = false then [.run { r with phase := .done }] else [] := by
  unfold Run.completed
  cases r.dir <;> cases r.stale <;> rfl

theorem Run.forall_mem_completed (r : Run) : ∀ op ∈ r.completed, Completed op := by
  rw [r.completed_eq]
  split
  · exact List.forall_mem_singleton.mpr rfl
  · exact fun _ none_ => absurd none_ List.not_mem_nil

/-- The run that completes is the first that has not. -/
theorem completeGranted_of_completed {earlier later : List PortOp} {r : Run} (completed : ∀ op ∈ earlier, Completed op)
    (granted : r.phase = .granted) :
    completeGranted (earlier ++ .run r :: later) = earlier ++ r.completed ++ later := by
  induction earlier with
  | nil => exact if_pos granted
  | cons op earlier ih =>
    obtain ⟨first, rest⟩ := List.forall_mem_cons.mp completed
    cases op with
    | write reg value => exact first.elim
    | run q =>
      have done : q.phase ≠ .granted := by
        rw [show q.phase = .done from first]
        decide
      exact (if_neg done).trans (congrArg _ (ih rest))

/-- Completed operations hold no write back (R174). -/
theorem releaseHeld_of_completed {earlier : List PortOp} (completed : ∀ op ∈ earlier, Completed op)
    (later : List PortOp) :
    releaseHeld (earlier ++ later) = (releaseHeld later).map fun p => (p.1, p.2.1, earlier ++ p.2.2) := by
  induction earlier with
  | nil => exact (congrFun Option.map_id _).symm
  | cons op earlier ih =>
    obtain ⟨first, rest⟩ := List.forall_mem_cons.mp completed
    cases op with
    | write reg value => exact first.elim
    | run q =>
      refine (if_pos first).trans ((congrArg _ (ih rest)).trans ?_)
      rw [Option.map_map]
      rfl

section Held

variable {s : State} {earlier later : List PortOp} (completed : ∀ op ∈ earlier, Completed op)
  (ops : s.port.ops = earlier ++ later)

include completed ops

/-- With no operation behind the completed ones, or a run that has not completed, no register write acts. -/
theorem State.actHeld_of_none (behind : later = [] ∨ ∃ q rest, later = .run q :: rest ∧ q.phase ≠ .done) :
    s.actHeld = s := by
  have held : releaseHeld s.port.ops = none := by
    rw [ops, releaseHeld_of_completed completed]
    rcases behind with rfl | ⟨q, rest, rfl, runs⟩
    · rfl
    · exact congrArg _ (if_neg runs)
  unfold State.actHeld
  rw [held]

/-- A register write behind completed operations alone acts. -/
theorem State.actHeld_of_write {q : LinkRegister} {v : Word} {rest : List PortOp} (behind : later = .write q v :: rest) :
    s.actHeld = (s.setOps (earlier ++ rest)).writeRegister q v := by
  have held : releaseHeld s.port.ops = some (q, v, earlier ++ rest) := by
    rw [ops, releaseHeld_of_completed completed, behind]
    rfl
  unfold State.actHeld
  rw [held]

end Held

/-- The completion of the run under way, behind completed runs, before what waits for it follows. -/
theorem State.linkCompleted_eq {s : State} {r : Run} {earlier later : List PortOp}
    (ops : s.port.ops = earlier ++ .run r :: later) (completed : ∀ op ∈ earlier, Completed op)
    (granted : r.phase = .granted) :
    s.linkCompleted = (linkRequested ({ s with
      arbiter := { s.arbiter with underWay := none, awaited := false }
      port := { s.port with ops := earlier ++ r.completed ++ later } } : State).actHeld).settle := by
  unfold State.linkCompleted
  rw [ops, completeGranted_of_completed completed granted]
  exact congrArg State.settle (State.requestLink_eq _)

theorem exec_linkReadRunCompletion {s : State} (way : s.arbiter.underWay = some (.link .read)) :
    exec .linkReadRunCompletion s = .next s.linkCompleted :=
  congrArg Host.Outcome.next (if_pos (by simp [Arbiter.runUnderWay, way]))

theorem exec_linkWriteRunCompletion {s : State} (way : s.arbiter.underWay = some (.link .write)) :
    exec .linkWriteRunCompletion s = .next s.linkCompleted :=
  congrArg Host.Outcome.next (if_pos (by simp [Arbiter.runUnderWay, way]))

/-- Settles O26: the words of a write run, its grant, and the completion of a run by what stands behind it. -/
theorem linkRunsWriteAndComplete : Obligations.LinkRunsWriteAndComplete := by
  unfold Obligations.LinkRunsWriteAndComplete
  refine ⟨fun m start ws i w area => readWord_writeRun_of_area w start ws area, ?_, ?_⟩
  · intro s r earlier later free noGauge noFetch waits ops completed waiting writes
    rw [State.settle_of_link free noGauge noFetch waits, s.convert_eq]
    exact ⟨_, stagesWorked_workFreely _, State.grantLink_write ops completed waiting writes⟩
  · intro s r earlier later way ops completed granted completion kept ended
    have runs : exec completion s = .next s.linkCompleted := by
      dsimp only [completion]
      cases dir : r.dir with
      | read => exact exec_linkReadRunCompletion (dir ▸ way)
      | write => exact exec_linkWriteRunCompletion (dir ▸ way)
    have before : ∀ op ∈ earlier ++ r.completed, Completed op :=
      List.forall_mem_append.mpr ⟨completed, r.forall_mem_completed⟩
    have keeps : kept = r.completed := r.completed_eq.symm
    rw [runs, State.linkCompleted_eq ops completed granted, keeps]
    refine ⟨fun behind => ?_, fun q v rest behind => ?_⟩
    · rw [State.actHeld_of_none before rfl behind]
    · rw [State.actHeld_of_write before rfl behind]
      rfl

end Sys2Proof.Machine
end

section
/-! PROOFS. What keeps the transfer converter safe: the selected source, the charge states and the drive are all that its
law sees (R112, R119), and an event of R119 leaves it in OFF or REST at a current of 0. -/

namespace Sys2Proof.Machine

/-! ### The selected source over the grants, the changeover and the contract -/

@[simp] theorem State.recordContract_selected (s : State) (b : Option BudgetRead) :
    (s.recordContract b).selector.selected = s.selector.selected := by
  unfold State.recordContract
  split <;> rfl

@[simp] theorem State.workStages_selected (s : State) (n : Nat) (early : Bool) :
    (s.workStages n early).selector.selected = s.selector.selected := by
  unfold State.workStages
  split
  · rfl
  · exact s.recordContract_selected _

@[simp] theorem State.workFreely_selected (s : State) : s.workFreely.selector.selected = s.selector.selected := by
  unfold State.workFreely
  split
  · rfl
  · exact s.workStages_selected _ _

@[simp] theorem State.grantLink_selected (s : State) : s.grantLink.selector.selected = s.selector.selected := by
  unfold State.grantLink
  split
  · rfl
  · dsimp only
    split
    · rfl
    · exact State.workFreely_selected _

@[simp] theorem State.grantSeqWrite_selected (s : State) (i : Nat) (v : Word) :
    (s.grantSeqWrite i v).selector.selected = s.selector.selected := by
  unfold State.grantSeqWrite
  dsimp only
  split <;> exact State.workFreely_selected _

@[simp] theorem State.grantFirst_selected (s : State) : s.grantFirst.selector.selected = s.selector.selected := by
  unfold State.grantFirst
  dsimp only
  (repeat' split) <;> simp

@[simp] theorem State.settle_selected (s : State) : s.settle.selector.selected = s.selector.selected := by
  unfold State.settle State.arbitrate
  split <;> simp

@[simp] theorem State.changeoverAbandoned_selected (s : State) :
    s.changeoverAbandoned.selector.selected = s.selector.selected := by
  unfold State.changeoverAbandoned
  split <;> rfl

@[simp] theorem State.changeoverCompleted_selected (s : State) :
    s.changeoverCompleted.selector.selected = s.selector.selected := by
  unfold State.changeoverCompleted
  split <;> rfl

@[simp] theorem State.abandonAllocation_selected (s : State) :
    s.abandonAllocation.selector.selected = s.selector.selected := by
  unfold State.abandonAllocation
  split
  · rfl
  · exact State.changeoverAbandoned_selected _

@[simp] theorem State.allocationAtScan_selected (s : State) :
    s.allocationAtScan.selector.selected = s.selector.selected := by
  obtain ⟨-, -, selected, -⟩ := s.allocationAtScan_selector
  exact selected

/-! ### The converter at rest -/

/-- Out of RUN, and driving 0 (R112). -/
def Transfer.idle (x : Transfer) : Prop := x.state.running = false ∧ x.current = 0

/-- What the law of the transfer converter sees of it. -/
def Transfer.drive (x : Transfer) : TransferState × Nat := (x.state, x.current)

/-- A cell in this state may give and take (R115, R119). -/
def ChargeState.takesPart (x : ChargeState) : Prop := x ≠ .tripped ∧ x ≠ .absent

theorem Reset.transfer_idle : Reset.transfer.idle := ⟨rfl, rfl⟩

/-- A converter that drives 0 out of RUN is at rest after an event of R119. -/
theorem Transfer.rested_idle {x : Transfer} (drives : x.state.running = false → x.current = 0) (length : Nat)
    (cause : StopCause) : (x.rested length cause).idle := by
  refine ⟨x.rested_not_running length cause, ?_⟩
  unfold Transfer.rested
  split
  next off => exact drives (by rw [off]; rfl)
  next rest => exact drives (by rw [rest]; rfl)
  next => rfl

theorem State.forceOff_idle (s : State) (cause : StopCause) : (s.forceOff cause).transfer.idle := ⟨rfl, rfl⟩

theorem State.exitHeat_idle (s : State) : s.exitHeat.transfer.idle := by
  rw [State.exitHeat_transfer]
  exact ⟨rfl, rfl⟩

theorem State.enterHeat_idle (s : State) : s.enterHeat.transfer.idle := by
  simpa [State.enterHeat] using State.forceOff_idle _ .heat

theorem State.softResetBlocks_idle (s : State) : s.softResetBlocks.transfer.idle := by
  unfold State.softResetBlocks
  dsimp only
  split <;> simpa using Reset.transfer_idle

theorem State.shipWake_idle (s : State) : s.shipWake.transfer.idle := by
  simpa [State.shipWake, State.wakePower] using Reset.transfer_idle

theorem State.transferSafe_of_idle {t : State} (idle : t.transfer.idle) : t.transferSafe := by
  obtain ⟨still, zero⟩ := idle
  exact ⟨fun runs => absurd (still.symm.trans runs) (by decide), fun _ => zero⟩

section Safe

variable {s : State} (h : s.transferSafe)
include h

/-- An operation that keeps the drive, selects no source, and makes no cell TRIPPED or ABSENT keeps the law. -/
theorem State.transferSafe.of_takesPart {t : State} (drive : t.transfer.drive = s.transfer.drive)
    (selected : s.selector.selected = .none → t.selector.selected = .none)
    (charge : ∀ c, (s.cells.get c).charge.takesPart → (t.cells.get c).charge.takesPart) : t.transferSafe := by
  obtain ⟨runs, drives⟩ := h
  obtain ⟨state, current⟩ := Prod.mk.inj drive
  unfold State.transferSafe
  rw [state, current]
  refine ⟨fun running => ?_, drives⟩
  obtain ⟨unselected, sound⟩ := runs running
  exact ⟨selected unselected, fun c => charge c (sound c)⟩

/-- An operation that keeps the converter, the selected source and the charge states keeps the law. -/
theorem State.transferSafe.of_charge {t : State} (charge : ∀ c, (t.cells.get c).charge = (s.cells.get c).charge)
    (transfer : t.transfer = s.transfer := by simp)
    (selected : t.selector.selected = s.selector.selected := by simp) : t.transferSafe :=
  h.of_takesPart (by rw [transfer]) (fun unselected => selected.trans unselected) fun c able => by rwa [charge c]

/-- An operation that keeps the converter, the selected source and the views of the cell paths keeps the law. -/
theorem State.transferSafe.of_view {t : State} (view : ∀ c, (t.cells.get c).view = (s.cells.get c).view := by simp)
    (transfer : t.transfer = s.transfer := by simp)
    (selected : t.selector.selected = s.selector.selected := by simp) : t.transferSafe :=
  h.of_charge (fun c => congrArg CellPath.View.charge (view c)) transfer selected

theorem State.transferSafe.rested (length : Nat) (cause : StopCause) : (s.transfer.rested length cause).idle :=
  Transfer.rested_idle h.2 length cause

theorem State.transferSafe.settle : s.settle.transferSafe := h.of_view

/-! ### The cell paths -/

theorem State.transferSafe.openPath (c : CellId) : (s.openPath c).transferSafe := by
  refine h.of_charge fun d => ?_
  rw [State.get_openPath]
  split
  next same => rw [same]; rfl
  next => rfl

theorem State.transferSafe.closePath (c : CellId) : (s.closePath c).transferSafe := by
  refine h.of_charge fun d => ?_
  rw [State.get_closePath]
  split
  next closes => rw [closes.1]; rfl
  next => rfl

theorem State.transferSafe.tripCell (c : CellId) (r : TripRecord) : (s.tripCell c r).transferSafe := by
  rw [State.tripCell_eq]
  exact State.transferSafe_of_idle (h.rested _ _)

theorem State.transferSafe.fastEvent (c : CellId) (x : TripCause) : (s.fastEvent c x).transferSafe := by
  unfold State.fastEvent
  dsimp only
  split
  · exact h.of_view (State.view_setCell rfl)
  · exact h.tripCell _ _

/-- A cell that a scan trips or finds ABSENT puts the converter to rest (R119). -/
theorem State.transferSafe.testCellAtScan (r : ScanRecord) (c : CellId) : (s.testCellAtScan r c).transferSafe := by
  by_cases stops : s.stopsAtScan r c
  · refine State.transferSafe_of_idle ?_
    rw [State.testCellAtScan_transfer, if_pos stops]
    exact h.rested _ _
  · obtain ⟨-, stands⟩ | ⟨trips, -⟩ | ⟨vanishes, -⟩ := s.testCellAtScan_cases r c
    · rwa [stands]
    · exact absurd (.inl trips) stops
    · exact absurd (.inr vanishes) stops

/-- A release leaves TRIPPED for IDLE (R19). -/
theorem State.transferSafe.release (c : CellId) : (s.release c).transferSafe := by
  unfold State.release
  split
  · exact h.of_view
  · split
    · exact h.of_view
    · refine State.transferSafe.closePath (h.of_takesPart (by simp) (by simp) fun d able => ?_) c
      simp only [State.modAllocation_fields, State.get_setCell]
      split
      · exact ⟨nofun, nofun⟩
      · exact able

/-! ### The selector -/

theorem State.transferSafe.selectSource (w : Input) : (s.selectSource w).transferSafe := by
  rw [State.selectSource_eq]
  exact State.transferSafe_of_idle (h.rested _ _)

theorem State.transferSafe.loseSource : s.loseSource.transferSafe :=
  h.of_takesPart (by simp) (fun _ => rfl) fun c able => by rwa [State.loseSource_cell]

theorem State.transferSafe.setSelector {x : Selector} (selected : x.selected = s.selector.selected := by rfl) :
    (s.setSelector x).transferSafe := h.of_view (t := s.setSelector x) (selected := selected)

theorem State.transferSafe.selectPlain (b : Option Bool) : (s.selectPlain b).transferSafe := by
  unfold State.selectPlain
  split
  · exact h
  · exact h.selectSource _
  · exact h.loseSource.of_view
  · split
    · exact h
    · exact h.loseSource.of_view (fun _ => rfl) (selected := rfl)

theorem State.transferSafe.selectInChangeover (b : Option Bool) : (s.selectInChangeover b).transferSafe := by
  unfold State.selectInChangeover
  split
  · exact h.setSelector
  · dsimp only
    split
    · exact h.setSelector
    · exact State.transferSafe.selectSource (State.transferSafe.setSelector h.setSelector) _
    · exact h.setSelector

theorem State.transferSafe.makeSelection (b : Option Bool) : (s.makeSelection b).transferSafe := by
  unfold State.makeSelection
  split
  · exact h.selectPlain b
  · exact h.selectInChangeover b

theorem State.transferSafe.collapseEvent (i : Input) : (s.collapseEvent i).transferSafe :=
  State.transferSafe.makeSelection (h.of_view (selected := (s.collapse_selection i).1)) none

theorem State.transferSafe.selectorAtScan (r : Readings) (b : Bool) : (s.selectorAtScan r b).transferSafe :=
  State.transferSafe.makeSelection (s := s.detectedAtScan r) (h.of_view (by simp [State.detectedAtScan])
    (by simp [State.detectedAtScan]) (congrArg Prod.fst (s.detectedAtScan_choice r))) _

/-! ### The sequencer -/

/-- A firing COMPARE with STOP_XFER puts the converter to rest (R119, R120). -/
theorem State.transferSafe.carryOut (x : Item) : (s.carryOut x).transferSafe := by
  obtain same | stopped := s.carryOut_transfer x
  · exact h.of_view (transfer := same)
  · refine State.transferSafe_of_idle ?_
    rw [stopped]
    exact h.rested s.xrest .window

theorem State.transferSafe.setSeq (x : Sequencer) : (s.setSeq x).transferSafe := h.of_view

theorem State.transferSafe.itemFetched (x : Item) : (s.itemFetched x).transferSafe := by
  unfold State.itemFetched
  dsimp only
  split
  · exact h.of_view
  · exact State.transferSafe.carryOut (h.setSeq _) x

theorem State.transferSafe.thaw : s.thaw.transferSafe := by
  have thawed := h.setSeq { s.seq with state := s.seq.kept, held := none }
  unfold State.thaw
  split
  · dsimp only
    split
    · split
      · exact thawed.carryOut _
      · exact thawed
    · exact thawed.of_view
    · exact thawed.of_view
    · exact thawed.of_view
    · exact thawed
  · exact h

/-- The window stop is no part of the drive (R160). -/
theorem State.transferSafe.clearWindow : s.clearWindow.transferSafe := by
  refine h.of_takesPart rfl (by simp) fun c able => ?_
  have same : (s.clearWindow.cells.get c).charge = (s.cells.get c).charge :=
    congrArg CellPath.View.charge (s.view_clearWindow c)
  rwa [same]

/-! ### The state controller -/

theorem State.transferSafe.wake (b : Bool) : (s.wake b).transferSafe := by
  have thawed : ((s.setPartState .run).putHoldBoth .quiet false).thaw.transferSafe :=
    State.transferSafe.thaw h.of_view
  unfold State.wake
  dsimp only
  split
  · exact thawed.of_view
  · exact thawed

theorem State.transferSafe.testDie (t : Int) : (s.testDie t).transferSafe := h.of_view

theorem State.transferSafe.testHeat (t : Int) : (s.testHeat t).transferSafe := by
  unfold State.testHeat
  split
  · exact State.transferSafe_of_idle s.enterHeat_idle
  · split
    · exact State.transferSafe_of_idle s.exitHeat_idle
    · exact h

theorem State.transferSafe.takeTrigger (g : Trigger) : (s.takeTrigger g).transferSafe := h.of_view

theorem State.transferSafe.triggerAndHeat (changed : Bool) (t : Int) : (s.triggerAndHeat changed t).transferSafe := by
  unfold State.triggerAndHeat
  split
  · split
    · exact (h.testHeat t).takeTrigger _
    · exact (h.takeTrigger _).testHeat t
  · exact h.testHeat t

theorem State.transferSafe.closeCellA : s.closeCellA.transferSafe :=
  State.transferSafe.closePath (s := s.setControl { s.control with shipStep := 6 }) h.of_view .a

theorem State.transferSafe.endStartup : s.endStartup.transferSafe := by
  have closed := State.transferSafe.closePath (s := s.setControl { s.control with shipStep := 7 }) h.of_view .b
  unfold State.endStartup
  dsimp only
  split <;> exact closed.of_view

theorem State.transferSafe.beginStartup : s.beginStartup.transferSafe := by
  unfold State.beginStartup
  dsimp only
  split
  · exact State.transferSafe.endStartup (State.transferSafe.closeCellA h.of_view)
  · exact h.of_view

theorem State.transferSafe.startupSlot : s.startupSlot.transferSafe := by
  unfold State.startupSlot
  split
  · split
    · exact h.closeCellA
    · exact h.endStartup
    · exact h
  · exact h

theorem State.transferSafe.enterShip : s.enterShip.transferSafe := by
  unfold State.enterShip
  dsimp only
  split
  · exact State.transferSafe_of_idle (State.shipWake_idle _)
  · exact h.of_view

theorem State.transferSafe.openInput : s.openInput.transferSafe := State.transferSafe.enterShip h.of_view

theorem State.transferSafe.openCellB : s.openCellB.transferSafe := State.transferSafe.openPath h.of_view .b

theorem State.transferSafe.openCellA : s.openCellA.transferSafe := State.transferSafe.openPath h.of_view .a

theorem State.transferSafe.shipSlotExpires : s.shipSlotExpires.transferSafe := by
  unfold State.shipSlotExpires
  split
  · split
    · exact h.openCellB
    · exact h.openCellA
    · exact h.openInput
    · exact h
  · exact h

omit h in
/-- The acceptance of SHIP stops the converter before it opens a path (R121, R186). -/
theorem State.transferSafe_acceptShip (s : State) : s.acceptShip.transferSafe := by
  unfold State.acceptShip
  dsimp only
  split
  · exact (State.transferSafe_of_idle (State.forceOff_idle _ _)).openCellB.openCellA.openInput
  · exact State.transferSafe_of_idle (State.forceOff_idle _ _)

theorem State.transferSafe.ship : s.ship.transferSafe := by
  have refused : s.refuseShip.transferSafe := h.of_view
  unfold State.ship
  split
  · split
    · exact s.transferSafe_acceptShip
    · exact refused
  · split
    · exact s.transferSafe_acceptShip
    · exact refused
  · exact refused
  · exact h
  · exact h

theorem State.transferSafe.attachWake (i : Input) : (s.attachWake i).transferSafe := by
  unfold State.attachWake
  split
  · split
    · split
      · exact h
      · exact h.of_view
    · exact State.transferSafe_of_idle (State.shipWake_idle _)
    · exact h
    · exact h
    · exact h
  · exact h

theorem State.transferSafe.softReset : s.softReset.transferSafe := by
  unfold State.softReset
  split
  · exact State.transferSafe_of_idle s.softResetBlocks_idle
  · exact h

/-! ### The scan -/

theorem State.transferSafe.cellsAtScan (r : ScanRecord) (b : Bool) : (s.cellsAtScan r b).transferSafe := by
  unfold State.cellsAtScan
  exact State.transferSafe.testCellAtScan (State.transferSafe.testCellAtScan h.of_view r .a) r .b

/-- The choice of a stop cause leaves the drive (log entry 11). -/
theorem State.transferSafe.chooseStopCause (before : State) : (s.chooseStopCause before).transferSafe := by
  refine h.of_takesPart ?_ (by simp) (by simp)
  obtain same | ⟨-, x, -, chosen⟩ := s.chooseStopCause_cases before
  · rw [same]
  · rw [chosen]
    rfl

theorem State.transferSafe.blocksAtScan (r : ScanRecord) (b : Bool) : (s.blocksAtScan r b).transferSafe := by
  have counted : ((s.cellsAtScan r b).countersAtScan r).transferSafe := (h.cellsAtScan r b).of_view
  have selected := counted.selectorAtScan r.readings (s.cellsAtScan r b).allocator.inFlight.isNone
  have tested := selected.testDie r.readings.tDie
  have heated := tested.triggerAndHeat (foldSample s.fold b s.foldDeb).2 r.readings.tDie
  exact State.transferSafe.chooseStopCause heated.of_view s

theorem State.transferSafe.scanCompletes (r : ScanRecord) (b : Bool) : (s.scanCompletes r b).transferSafe := by
  have stored : (s.storeScan r).transferSafe := h.of_view
  exact (stored.blocksAtScan r b).of_view (by simp [State.scanCompletes]) (by simp [State.scanCompletes])
    (by simp [State.scanCompletes])

end Safe

end Sys2Proof.Machine
end

section
/-! PROOFS. O8: an allocation completion starts the transfer converter, or lets it run on, only where no source is selected
and both cells take part (R115 to R118), and so every step keeps it safe. -/

namespace Sys2Proof.Machine

/-! ### The update at an allocation completion -/

/-- The converter as an update leaves it: at rest, or in RUN for a direction that meets the eligibility test (R115). -/
def Transfer.updatedFor (x : Transfer) (s : State) (al : Allocation) (res : ShareResult) : Prop :=
  x.idle ∨ ∃ src, s.transferEligible al res src = true ∧ x.state = runState src

theorem State.transferStart_updatedFor {s : State} (off : s.transfer.state = .off) (al : Allocation) (res : ShareResult)
    (hinge : Nat) : (s.transferStart al res hinge).updatedFor s al res := by
  have stays : Transfer.idle { s.transfer with current := 0 } := ⟨by dsimp only; rw [off]; rfl, rfl⟩
  unfold State.transferStart
  split
  next => exact .inl stays
  next src _ =>
    dsimp only
    split
    next starts => exact .inr ⟨src, starts.1, rfl⟩
    next => exact .inl stays

/-- A run that does not meet the eligibility test has a cause to stop (R117). -/
theorem State.transferEligible_of_goesOn {s : State} {al : Allocation} {res : ShareResult} {hinge : Nat} {src : CellId}
    (goesOn : s.transferStop al res hinge src = none) : s.transferEligible al res src = true := by
  by_contra unfit
  unfold State.transferStop at goesOn
  rw [if_pos unfit] at goesOn
  split at goesOn <;> cases goesOn

theorem State.transferContinue_updatedFor {s : State} {src : CellId} (run : s.transfer.state = runState src)
    (al : Allocation) (res : ShareResult) (hinge : Nat) : (s.transferContinue al res hinge src).updatedFor s al res := by
  unfold State.transferContinue
  split
  · exact .inl ⟨rfl, rfl⟩
  next goesOn => exact .inr ⟨src, State.transferEligible_of_goesOn goesOn, run⟩

theorem restCountDown_idle (x : Transfer) : (restCountDown x).idle := by
  unfold restCountDown Transfer.idle
  dsimp only
  split <;> exact ⟨rfl, rfl⟩

theorem State.transferUpdate_updatedFor (s : State) (al : Allocation) (res : ShareResult) (hinge : Nat) :
    (s.transferUpdate al res hinge).updatedFor s al res := by
  unfold State.transferUpdate
  split
  next off => exact State.transferStart_updatedFor off al res hinge
  next => exact .inl (restCountDown_idle _)
  next run => exact State.transferContinue_updatedFor (src := .a) run al res hinge
  next run => exact State.transferContinue_updatedFor (src := .b) run al res hinge

/-! ### The completion -/

/-- A cell that passes the eligibility test is neither TRIPPED nor ABSENT once the results are applied to it (R6, R115). -/
theorem CellPath.applyShare_takesPart {s : State} {al : Allocation} {res : ShareResult} {c : CellId}
    (may : s.cellMayTransfer al res c = true) (kept : Bool) :
    ((s.cell c).applyShare al (res.cells.get c) c kept).charge.takesPart := by
  obtain ⟨foundPresent, foundSound, sound, present, -, -⟩ := State.cellMayTransfer_iff.mp may
  by_cases alone : leftAlone (s.cell c) al c
  · rw [CellPath.applyShare_of_leftAlone alone]
    obtain tripped | ⟨-, vanished⟩ | ⟨idle, -⟩ := alone
    · exact absurd tripped sound
    · rw [present] at vanished
      cases vanished
    · show (s.cell c).charge.takesPart
      rw [idle]
      exact ⟨by decide, by decide⟩
  · by_cases hold : heldAnew (s.cell c) al (res.cells.get c) c
    · rw [CellPath.applyShare_of_heldAnew alone hold]
      exact ⟨nofun, nofun⟩
    · rw [CellPath.applyShare_of_found alone hold]
      exact ⟨foundSound, foundPresent⟩

theorem State.get_applyToCell (s : State) (al : Allocation) (sh : CellShare) (kept : Bool) (c d : CellId) :
    (s.applyToCell al sh kept c).cells.get d =
      if d = c then (s.cell c).applyShare al sh c kept else s.cells.get d := by
  rw [← State.get_setCell]
  unfold State.applyToCell
  dsimp only
  split
  · simp
  · rfl

/-- What each cell path is after the completion (R6). -/
theorem State.get_handOn (s : State) (al : Allocation) (cp : CounterPoint) (res : ShareResult) (hinge : Nat) (c : CellId) :
    ∃ kept, (s.handOn al cp res hinge).cells.get c = (s.cell c).applyShare al (res.cells.get c) c kept := by
  have cells : (s.handOn al cp res hinge).cells =
      ((s.applyToCell al res.cells.a (Config.standingSupplyKept (2 * s.freeCounter)) .a).applyToCell al res.cells.b
        (Config.standingSupplyKept (2 * s.freeCounter + 1)) .b).cells := by simp [State.handOn]
  rw [cells, State.get_applyToCell]
  cases c with
  | a => exact ⟨_, by rw [if_neg nofun, State.get_applyToCell, if_pos rfl]; rfl⟩
  | b => exact ⟨_, by rw [if_pos rfl, State.cell, State.get_applyToCell, if_neg nofun]; rfl⟩

theorem State.transferSafe_handOn (s : State) (al : Allocation) (cp : CounterPoint) (res : ShareResult) (hinge : Nat) :
    (s.handOn al cp res hinge).transferSafe := by
  have transfer : (s.handOn al cp res hinge).transfer = s.transferUpdate al res hinge := by simp [State.handOn]
  have selected : (s.handOn al cp res hinge).selector.selected = s.selector.selected := by simp [State.handOn]
  obtain idle | ⟨src, eligible, run⟩ := s.transferUpdate_updatedFor al res hinge
  · exact State.transferSafe_of_idle (transfer ▸ idle)
  · have running : (s.handOn al cp res hinge).transfer.state.running = true := by
      rw [transfer, run]
      cases src <;> rfl
    obtain ⟨-, -, unselected, -, -, -, may, -⟩ := State.transferEligible_iff.mp eligible
    refine ⟨fun _ => ⟨selected.trans unselected, fun c => ?_⟩, fun still => absurd (running.symm.trans still) (by decide)⟩
    obtain ⟨kept, applied⟩ := s.get_handOn al cp res hinge c
    have takesPart := CellPath.applyShare_takesPart (State.cellMayTransfer_iff.mpr (may c)) kept
    rwa [← applied] at takesPart

theorem State.transferSafe.completeAllocation {s : State} (h : s.transferSafe) : s.completeAllocation.transferSafe := by
  unfold State.completeAllocation
  dsimp only
  split
  · exact h
  · split
    · exact State.transferSafe_handOn ..
    · exact h

/-! ### Every step -/

theorem transferSafe_stepKeeps : StepKeeps State.transferSafe where
  soft _ h := h.softReset
  skipItem _ h := h.of_view
  skipList _ h := h.of_view
  ship _ h := h.ship
  release _ c h := h.release c
  start _ _ h := h.of_view
  stop _ _ h := h.of_view
  clear _ h := h.clearWindow
  preset _ _ h := h.of_view
  next _ _ h := h.of_view
  note _ _ h := h.of_view
  mask _ _ h := h.of_view
  queue _ _ h := h.of_view
  settle _ h := h.of_view
  port _ _ _ h := h.of_view
  endTransaction _ h := h.of_view
  requestLink _ h := h.of_view
  readDone _ h := h.of_view
  por _ _ := State.transferSafe_of_idle Reset.transfer_idle
  begins _ _ h := h.beginStartup
  slot _ h := h.startupSlot
  rise _ h := by
    unfold State.qreqRises
    dsimp only
    split
    · exact h
    · split <;> exact h.of_view
  fall s h := by
    have lowered : (s.setQreq false).transferSafe := h.of_view
    unfold State.qreqFalls
    dsimp only
    split
    · split
      · exact (lowered.wake true).settle
      · exact lowered
    · exact h
  fast _ _ c x h := h.fastEvent c x
  collapse _ i h := h.collapseEvent i
  wake _ _ i h := h.attachWake i
  shipSlot _ _ h := h.shipSlotExpires
  period _ _ h := h.of_view (by simp [State.periodExpires]) (selected := by simp [State.periodExpires])
  scan s x b h := by
    have ended : s.endConversion.transferSafe := h.of_view
    unfold State.scanConverted
    split
    · split
      · unfold State.scanReading
        dsimp only
        split
        · exact (ended.scanCompletes _ _).settle
        · exact ended.of_view
      · exact h
    · exact h
  probe s x h := by
    unfold State.probeConverted
    split
    · split
      · split <;> exact h.of_view
      · exact h
    · exact h
  gauge s e h := by
    have written : (s.gaugeWrite e).transferSafe := h.of_view
    unfold State.gaugeCompleted
    dsimp only
    split <;> exact written.of_view
  alloc _ _ h := h.completeAllocation
  waitRefresh _ h := h.of_view
  fetch _ _ _ _ h := h.of_view
  item s ws h := by
    have ended : s.endTransaction.transferSafe := h.of_view
    unfold State.itemFetchCompleted
    split
    · exact ended.itemFetched _
    · exact ended
  written s h := by
    unfold State.seqWriteCompleted
    split <;> exact h.of_view

/-- Settles O8: every effect keeps the law, and a run starts or goes on only where the eligibility test holds. -/
theorem stepKeepsTransferSafe : Obligations.StepKeepsTransferSafe := by
  unfold Obligations.StepKeepsTransferSafe
  exact fun _ _ hs h => transferSafe_stepKeeps.step hs h

end Sys2Proof.Machine
end

section
/-! PROOFS. O27: an item that finishes goes on, or ends its list with a post (R142 to R145, R156). -/

namespace Sys2Proof.Machine

/-! ### Posts (R156) -/

theorem State.post_of_room {s : State} {j : Nat} (current : s.seq.current = some j) (room : s.seq.done.length < 4)
    (code : EndCode) :
    s.post code = s.setSeq { s.seq with done := s.seq.done ++ [{ index := j, code := code }] } := by
  unfold State.post
  rw [current]
  exact if_pos room

theorem State.post_of_full {s : State} {j : Nat} (current : s.seq.current = some j) (full : 4 ≤ s.seq.done.length)
    (bound : s.seq.doneOverrun ≤ 255) (code : EndCode) :
    s.post code = s.setSeq { s.seq with doneOverrun := min 255 (s.seq.doneOverrun + 1) } := by
  unfold State.post
  rw [current, ← saturatingSucc_eq_min bound]
  exact if_neg (Nat.not_lt.mpr full)

/-! ### The start and the end of a list (R142, R143) -/

/-- The slot's list started (R142). -/
def State.listStarted (s : State) (i : Nat) : State :=
  { s with
    seq := { s.seq with
      state := .fetch, current := some i, itemIndex := i, slot := none, budget := 0, inFlight := .fetch i }
    arbiter := { s.arbiter with seqFetch := some i } }

theorem State.startList_of_some {s : State} {i : Nat} (slot : s.seq.slot = some i) : s.startList = s.listStarted i := by
  unfold State.startList
  rw [slot]
  rfl

theorem State.endList_of_some {s : State} {i : Nat} (slot : s.seq.slot = some i) : s.endList = s.listStarted i :=
  State.startList_of_some (s := s.setSeq { s.seq with current := none }) slot

theorem State.endList_of_none {s : State} (slot : s.seq.slot = none) :
    s.endList = s.setSeq { s.seq with state := .idle, current := none } := by
  unfold State.endList State.startList
  simp only [State.setSeq_fields, slot]
  rfl

theorem State.setSticky_get (s : State) (c : StickyCause) : s.setSticky c (s.notices.sticky.get c) = s := by
  cases c <;> rfl

/-- BAD and BUDGET raise LIST_BAD, and the other end codes leave it as it is (R143). -/
theorem State.endListWith_eq (s : State) (code : EndCode) :
    s.endListWith code = ((s.post code).setSticky .listBad
      (s.notices.sticky.listBad || decide (code = .bad ∨ code = .budget))).endList := by
  have notices : (s.post code).notices = s.notices := by simp
  have stands : (s.post code).setSticky .listBad s.notices.sticky.listBad = s.post code := by
    rw [← notices]
    exact State.setSticky_get _ .listBad
  cases code with
  | bad | budget => exact congrArg (fun v => (State.setSticky _ .listBad v).endList) (Bool.or_true _).symm
  | ended | pass =>
    exact congrArg State.endList ((congrArg (State.setSticky _ .listBad) (Bool.or_false _)).trans stands).symm

/-! ### Going on (R144, R145) -/

theorem State.finishItem_of_budget {s : State} (budget : s.seq.budget < 64) (i : Nat) : s.finishItem i = s.goOn i :=
  if_neg (Nat.not_le.mpr budget)

/-- Settles O27: the index and the budget say whether the list goes on, and the queue and the slot what its end leaves. -/
theorem itemsGoOnOrEndTheList : Obligations.ItemsGoOnOrEndTheList := by
  unfold Obligations.ItemsGoOnOrEndTheList
  refine ⟨fun s i budget low high => ?_, fun s i budget outside => ?_, fun s i spent => if_pos spent,
    fun s code j current room slot => ?_, fun s code j i current room slot => ?_,
    fun s code j current full bound slot => ?_, fun s code j i current full bound slot => ?_⟩
  · rw [State.finishItem_of_budget budget]
    exact if_pos (isItemIndex_iff.mpr ⟨low, high⟩)
  · rw [State.finishItem_of_budget budget]
    refine if_neg fun inRange => ?_
    obtain ⟨low, high⟩ := isItemIndex_iff.mp inRange
    omega
  · rw [State.endListWith_eq, State.post_of_room current room]
    exact State.endList_of_none slot
  · rw [State.endListWith_eq, State.post_of_room current room]
    exact State.endList_of_some slot
  · rw [State.endListWith_eq, State.post_of_full current full bound]
    exact State.endList_of_none slot
  · rw [State.endListWith_eq, State.post_of_full current full bound]
    exact State.endList_of_some slot

end Sys2Proof.Machine
end

section
/-! PROOFS. O29: a result meets the write window, and a COMPARE fires (R149, R150, R119, R120). -/

namespace Sys2Proof.Machine

theorem State.winLo_mem (s : State) : 0x100 ≤ s.winLo ∧ s.winLo ≤ 0x1000 := s.setting_mem (by decide) 0x0B6

theorem State.winHi_mem (s : State) : 0x100 ≤ s.winHi ∧ s.winHi ≤ 0x1000 := s.setting_mem (by decide) 0x0B7

/-- The clamp of WIN_LO keeps the window off the status and settings pages (R149). -/
theorem State.inWindow_iff {s : State} {target : Nat} :
    s.inWindow target = true ↔ s.winLo ≤ target ∧ target < s.winHi := by
  obtain ⟨pages, -⟩ := s.winLo_mem
  simp only [State.inWindow, Bool.and_eq_true, decide_eq_true_iff]
  omega

theorem State.writeFault_of_bound {s : State} (bound : s.seq.writeFaults ≤ 255) :
    s.writeFault = { s with
      seq := { s.seq with writeFaults := min 255 (s.seq.writeFaults + 1) }
      notices := { s.notices with sticky := { s.notices.sticky with writeFault := true } } } := by
  unfold State.writeFault
  rw [saturatingSucc_eq_min bound]
  rfl

/-- Settles O29. -/
theorem resultsAndCompares : Obligations.ResultsAndCompares := by
  unfold Obligations.ResultsAndCompares
  refine ⟨fun s target v low high => if_pos (State.inWindow_iff.mpr ⟨low, high⟩), fun s target v outside => ?_,
    fun s bound => State.writeFault_of_bound bound,
    fun s => ⟨s.winLo_mem.1, s.winLo_mem.2, s.winHi_mem.1, s.winHi_mem.2⟩, fun s n => ?_⟩
  · refine if_neg fun inside => ?_
    obtain ⟨low, high⟩ := State.inWindow_iff.mp inside
    omega
  · intro fired
    refine ⟨rfl, rfl, rfl, ?_⟩
    show fired.stopTransferByWindow = _
    unfold State.stopTransferByWindow
    rw [State.forceRest_eq]
    show fired.setTransfer { s.transfer.rested s.xrest .window with windowStop := true } = _
    generalize s.transfer = t
    obtain ⟨state, _, _, _, _⟩ := t
    cases state <;> rfl

end Sys2Proof.Machine
end

section
/-! PROOFS. O21, O22, O32: a read of DONE, a write to NEXT, and CLEAR_WINDOW (R141, R157, R160). -/

namespace Sys2Proof.Machine

theorem State.whenServing_self (s : State) : s.whenServing s = s := ite_self s

/-! ### DONE (R157) -/

/-- A done entry holds its index in bits 11..0 and its end code in bits 15..14 (10.9.1). -/
theorem DoneEntry.word_fields {e : DoneEntry} (index : e.index ≤ 0xFFC) :
    e.word.extractLsb' 0 12 = BitVec.ofNat 12 e.index ∧ e.word.extractLsb' 14 2 = BitVec.ofNat 2 e.code.code := by
  unfold DoneEntry.word
  constructor
  all_goals
    apply BitVec.eq_of_toNat_eq
    simp only [BitVec.extractLsb'_toNat, BitVec.toNat_ofNat, Nat.shiftRight_eq_div_pow]
    omega

theorem exec_doneRead {s : State} (serving : s.port.serving = true) :
    exec .doneRead s = .next (s.readDone.2.shiftOut s.readDone.1) :=
  congrArg Host.Outcome.next (if_pos serving)

/-- Settles O21: by the queue found, and by the fields of an entry's word. -/
theorem doneRead : Obligations.DoneRead := by
  unfold Obligations.DoneRead
  refine ⟨fun s serving empty => ?_, fun s e rest serving queue => ?_, fun e index => ?_⟩
  · rw [exec_doneRead serving, State.readDone, empty]
    rfl
  · rw [exec_doneRead serving, State.readDone, queue]
    rfl
  · obtain ⟨low, high⟩ := DoneEntry.word_fields index
    refine ⟨low, high.trans ?_⟩
    cases e.code <;> rfl

/-! ### NEXT (R141, R142) -/

/-- A write to NEXT with the slot full, or with an index out of range, is not taken (R141). -/
theorem exec_nextWrite_of_refused {s : State} {v : Word} (kept : s.writeNext v = s) (idle : s.nextStarts v = false) :
    exec (.nextWrite v) s = .next s := by
  show Host.Outcome.next (s.whenServing ((s.writeNext v).settleIf (s.nextStarts v))) = _
  rw [kept, idle, State.settleIf_false, State.whenServing_self]

theorem State.writeNext_of_taken {s : State} {v : Word} (slot : s.seq.slot = none) (index : isItemIndex v.toNat = true) :
    s.writeNext v = if s.seq.state = .idle then (s.setSeq { s.seq with slot := some v.toNat }).startList
      else s.setSeq { s.seq with slot := some v.toNat } := by
  unfold State.writeNext
  rw [slot]
  exact if_pos index

theorem State.nextStarts_of_taken {s : State} {v : Word} (slot : s.seq.slot = none) (index : isItemIndex v.toNat = true) :
    s.nextStarts v = (s.seq.state == .idle) := by
  unfold State.nextStarts
  rw [slot, index]
  rfl

theorem exec_nextWrite {s : State} (serving : s.port.serving = true) (v : Word) :
    exec (.nextWrite v) s = .next ((s.writeNext v).settleIf (s.nextStarts v)) :=
  congrArg Host.Outcome.next (if_pos serving)

/-- Settles O22. -/
theorem nextWrite : Obligations.NextWrite := by
  unfold Obligations.NextWrite
  refine ⟨fun s v i slot => ?_, fun s v outside => ?_, fun s v serving slot low high busy => ?_,
    fun s v serving slot low high idle => ?_, fun s => rfl⟩
  · refine exec_nextWrite_of_refused ?_ ?_
    · unfold State.writeNext
      rw [slot]
    · unfold State.nextStarts
      rw [slot]
      rfl
  · have index : isItemIndex v.toNat = false := by
      rw [← Bool.not_eq_true, isItemIndex_iff]
      omega
    refine exec_nextWrite_of_refused ?_ ?_
    · unfold State.writeNext
      rw [index]
      split <;> rfl
    · unfold State.nextStarts
      rw [index, Bool.and_false, Bool.false_and]
  · have index := isItemIndex_iff.mpr ⟨low, high⟩
    rw [exec_nextWrite serving, State.writeNext_of_taken slot index, State.nextStarts_of_taken slot index, if_neg busy,
      beq_false_of_ne busy]
    rfl
  · have index := isItemIndex_iff.mpr ⟨low, high⟩
    rw [exec_nextWrite serving, State.writeNext_of_taken slot index, State.nextStarts_of_taken slot index, if_pos idle,
      State.startList_of_some rfl, idle]
    rfl

/-! ### CLEAR_WINDOW (R160) -/

/-- Settles O32: the next state of the command is the one described, field by field. -/
theorem clearWindow : Obligations.ClearWindow := by
  unfold Obligations.ClearWindow
  exact fun s serving => congrArg Host.Outcome.next (if_pos serving)

end Sys2Proof.Machine
end

section
/-! PROOFS. O30, O31: SKIP_ITEM and SKIP_LIST, at once or on the kept state (R158, R159, R31, R161). -/

namespace Sys2Proof.Machine

/-! ### SKIP_ITEM (R158) -/

theorem State.skipToNext_of_awake {s : State} (awake : s.seq.state ≠ .frozen) :
    s.skipToNext = s.finishItem (s.seq.itemIndex + 4) :=
  if_neg (mt State.seqFrozen_iff.mp awake)

theorem State.skipToNext_of_frozen {s : State} (frozen : s.seq.state = .frozen) :
    s.skipToNext = s.setSeq { s.seq with kept := .fetch, held := some (.goOn (s.seq.itemIndex + 4)) } :=
  if_pos (State.seqFrozen_iff.mpr frozen)

/-- A sample cut short: no conversion of it is asked for, its sum is dropped, and a reading on its way is discarded
(R31, R158; log entry 20). -/
def State.sampleDropped (s : State) : State :=
  { s with
    converter := { s.converter with probePending := 0 }
    seq := { s.seq with sum := 0, taken := 0, discard := s.seq.discard || s.converter.probeWillReport } }

theorem State.skipItem_of_waiting {s : State} (waits : s.seq.effective = .triggerWait ∨ s.seq.effective = .pause) :
    s.skipItem = s.skipToNext := by
  unfold State.skipItem
  rcases waits with trigger | pause
  · rw [trigger]
  · rw [pause]

theorem State.skipItem_of_convert {s : State} (convert : s.seq.effective = .convert) :
    s.skipItem = s.sampleDropped.skipToNext := by
  unfold State.skipItem
  rw [convert]
  rfl

theorem State.skipItem_of_still {s : State}
    (still : s.seq.effective = .idle ∨ s.seq.effective = .fetch ∨ s.seq.effective = .write) : s.skipItem = s := by
  unfold State.skipItem
  rcases still with idle | fetch | write
  · rw [idle]
  · rw [fetch]
  · rw [write]

theorem exec_skipItem {s : State} (serving : s.port.serving = true) :
    exec .skipItem s = .next (s.skipItem.settleIf s.skipItemGoesOn) :=
  congrArg Host.Outcome.next (if_pos serving)

theorem State.skipItemGoesOn_iff {s : State} :
    s.skipItemGoesOn = true ↔ s.seq.state = .triggerWait ∨ s.seq.state = .convert ∨ s.seq.state = .pause := by
  unfold State.skipItemGoesOn
  cases s.seq.state <;> decide

/-- An item in progress ends at once where the sequencer is not FROZEN. -/
theorem exec_skipItem_of_busy {s : State} (serving : s.port.serving = true)
    (busy : s.seq.state = .triggerWait ∨ s.seq.state = .convert ∨ s.seq.state = .pause) :
    exec .skipItem s = .next s.skipItem.settle := by
  rw [exec_skipItem serving, State.skipItemGoesOn_iff.mpr busy, State.settleIf_true]

/-- While FROZEN nothing is asked for before the thaw. -/
theorem exec_skipItem_of_frozen {s : State} (serving : s.port.serving = true) (frozen : s.seq.state = .frozen) :
    exec .skipItem s = .next s.skipItem := by
  have quiet : s.skipItemGoesOn = false := by
    rw [← Bool.not_eq_true, State.skipItemGoesOn_iff, frozen]
    decide
  rw [exec_skipItem serving, quiet, State.settleIf_false]

/-- The sequencer goes on at once only from a state in which SKIP_ITEM acts. -/
theorem State.skipItemGoesOn_of_still {s : State}
    (still : s.seq.effective = .idle ∨ s.seq.effective = .fetch ∨ s.seq.effective = .write) :
    s.skipItemGoesOn = false := by
  rw [← Bool.not_eq_true, State.skipItemGoesOn_iff]
  intro busy
  have awake : s.seq.state ≠ .frozen := by rcases busy with h | h | h <;> simp [h]
  rw [Sequencer.effective_of_awake awake] at still
  rcases busy with h | h | h <;> simp [h] at still

/-- Settles O30: by the state the sequencer has, or keeps while FROZEN. -/
theorem skipItem : Obligations.SkipItem := by
  unfold Obligations.SkipItem
  refine ⟨fun s serving waits => ?_, fun s serving convert => ?_, fun s serving frozen waits => ?_,
    fun s serving frozen convert => ?_, fun s still => ?_⟩
  · have awake : s.seq.state ≠ .frozen := by rcases waits with h | h <;> simp [h]
    have shown := Sequencer.effective_of_awake awake
    rw [exec_skipItem_of_busy serving (waits.imp_right .inr), State.skipItem_of_waiting (shown ▸ waits),
      State.skipToNext_of_awake awake]
  · have awake : s.seq.state ≠ .frozen := by simp [convert]
    rw [exec_skipItem_of_busy serving (.inr (.inl convert)),
      State.skipItem_of_convert ((Sequencer.effective_of_awake awake).trans convert),
      State.skipToNext_of_awake (s := s.sampleDropped) awake]
    rfl
  · have shown := Sequencer.effective_of_frozen frozen
    rw [exec_skipItem_of_frozen serving frozen, State.skipItem_of_waiting (shown ▸ waits),
      State.skipToNext_of_frozen frozen]
    rfl
  · rw [exec_skipItem_of_frozen serving frozen,
      State.skipItem_of_convert ((Sequencer.effective_of_frozen frozen).trans convert),
      State.skipToNext_of_frozen (s := s.sampleDropped) frozen]
    rfl
  · show Host.Outcome.next (s.whenServing (s.skipItem.settleIf s.skipItemGoesOn)) = _
    rw [State.skipItem_of_still still, State.skipItemGoesOn_of_still still, State.settleIf_false, State.whenServing_self]

/-! ### SKIP_LIST (R159) -/

/-- The running list abandoned: what waits for its grant is withdrawn, what is under way is no longer awaited, and a
reading on its way is discarded (R31, R159; log entry 20). -/
def State.listAbandoned (s : State) : State :=
  { s with
    converter := { s.converter with probePending := 0 }
    seq := { s.seq with inFlight := .none, discard := s.seq.discard || s.converter.probeWillReport }
    arbiter := { s.arbiter with
      seqFetch := none
      seqWrite := none
      awaited := s.arbiter.awaited && !s.arbiter.seqUnderWay } }

theorem State.skipList_of_idle {s : State} (idle : s.seq.effective = .idle) : s.skipList = s := by
  unfold State.skipList
  rw [idle]

theorem State.skipList_of_list {s : State} (busy : s.seq.effective ≠ .idle) :
    s.skipList = if s.seqFrozen then
        s.listAbandoned.setSeq { s.listAbandoned.seq with current := none, kept := .idle, held := none }
      else s.listAbandoned.endList := by
  unfold State.skipList
  split
  next idle => exact absurd idle busy
  next => rfl

theorem State.skipListGoesOn_iff {s : State} :
    s.skipListGoesOn = true ↔ s.seq.state ≠ .idle ∧ s.seq.state ≠ .frozen := by
  unfold State.skipListGoesOn
  rw [Bool.and_eq_true, bne_iff_ne, bne_iff_ne]

theorem exec_skipList {s : State} (serving : s.port.serving = true) :
    exec .skipList s = .next (s.skipList.settleIf s.skipListGoesOn) :=
  congrArg Host.Outcome.next (if_pos serving)

/-- Outside IDLE and FROZEN the list ends at once, and the slot's list starts or the sequencer is IDLE. -/
theorem exec_skipList_of_running {s : State} (serving : s.port.serving = true) (busy : s.seq.state ≠ .idle)
    (awake : s.seq.state ≠ .frozen) : exec .skipList s = .next s.listAbandoned.endList.settle := by
  rw [exec_skipList serving, State.skipListGoesOn_iff.mpr ⟨busy, awake⟩,
    State.skipList_of_list ((Sequencer.effective_of_awake awake).trans_ne busy),
    if_neg (mt State.seqFrozen_iff.mp awake), State.settleIf_true]

theorem exec_skipList_of_frozen {s : State} (serving : s.port.serving = true) (frozen : s.seq.state = .frozen)
    (busy : s.seq.kept ≠ .idle) :
    exec .skipList s = .next
      (s.listAbandoned.setSeq { s.listAbandoned.seq with current := none, kept := .idle, held := none }) := by
  have quiet : s.skipListGoesOn = false := by
    rw [← Bool.not_eq_true, State.skipListGoesOn_iff]
    exact fun ⟨_, awake⟩ => awake frozen
  rw [exec_skipList serving, quiet, State.skipList_of_list ((Sequencer.effective_of_frozen frozen).trans_ne busy),
    if_pos (State.seqFrozen_iff.mpr frozen), State.settleIf_false]

theorem State.skipListGoesOn_of_idle {s : State} (idle : s.seq.effective = .idle) : s.skipListGoesOn = false := by
  rw [← Bool.not_eq_true, State.skipListGoesOn_iff]
  rintro ⟨busy, awake⟩
  exact busy ((Sequencer.effective_of_awake awake).symm.trans idle)

/-- Settles O31: by the state the sequencer has, or keeps while FROZEN, and by the slot. -/
theorem skipList : Obligations.SkipList := by
  unfold Obligations.SkipList
  refine ⟨fun s serving busy awake slot => ?_, fun s i serving busy awake slot => ?_,
    fun s serving frozen busy _ => ?_, fun s idle => ?_⟩
  · rw [exec_skipList_of_running serving busy awake, State.endList_of_none (s := s.listAbandoned) slot]
    rfl
  · rw [exec_skipList_of_running serving busy awake, State.endList_of_some (s := s.listAbandoned) slot]
    rfl
  · exact exec_skipList_of_frozen serving frozen busy
  · show Host.Outcome.next (s.whenServing (s.skipList.settleIf s.skipListGoesOn)) = _
    rw [State.skipList_of_idle idle, State.skipListGoesOn_of_idle idle, State.settleIf_false, State.whenServing_self]

end Sys2Proof.Machine
end

section
/-! PROOFS. O55, O56: the completions of the sequencer's transactions (R144, R146, R149, R155, R159, R161, 10.9.5). -/

namespace Sys2Proof.Machine

/-! ### The item of four words (10.9.5) -/

theorem triggerOf_eq (n : Nat) : triggerOf n = [.now, .period, .fold, .swapA, .swapB].getD n .now :=
  match n with
  | 0 | 1 | 2 | 3 | 4 | _ + 5 => rfl

theorem actionOf_eq (n : Nat) : actionOf n = [.note, .holdA, .holdB, .stopXfer].getD n .note :=
  match n with
  | 0 | 1 | 2 | 3 | _ + 4 => rfl

theorem markOf_eq (n : Nat) :
    markOf n = [.periodCount, .foldState, .chargeA, .chargeB, .transfer, .last, .bands, .source].getD n .source :=
  match n with
  | 0 | 1 | 2 | 3 | 4 | 5 | 6 | 7 | _ + 8 => rfl

theorem conditionOf_eq (n : Nat) :
    conditionOf n = [.lastBelow, .lastAtOrAbove, .folded, .unfolded, .flagSet, .flagClear, .sourceNone,
      .sourceNotNone].getD n .sourceNotNone :=
  match n with
  | 0 | 1 | 2 | 3 | 4 | 5 | 6 | 7 | _ + 8 => rfl

/-- The lowest field of a word. -/
theorem field_zero (w : Word) (width : Nat) : field w 0 width = w.toNat % 2 ^ width := by
  rw [field, pow_zero, Nat.div_one]

/-- The highest field of a word needs no mask. -/
theorem field_highest (w : Word) : field w 13 3 = w.toNat / 8192 := by
  have bound := w.isLt
  unfold field
  omega

/-- The four words of an item are read field by field (9.1.2, 10.9.5). -/
theorem itemOf_eq_spelledItem (ws : List Word) : itemOf ws = spelledItem fun k => ws.getD k 0 := by
  unfold itemOf spelledItem
  simp only [field_zero, field_highest, triggerOf_eq, actionOf_eq, markOf_eq, conditionOf_eq]
  rfl

/-! ### The completions (R144, R149) -/

theorem exec_itemFetchCompletion {s : State} {i : Nat} {ws : List Word}
    (way : s.arbiter.underWay = some (.seqFetch i ws)) :
    exec .itemFetchCompletion s = .next (s.itemFetchCompleted ws).settle := by
  simp only [exec, execItemFetchCompletion, way]

theorem State.itemFetched_of_awake {s : State} (awake : s.seq.state ≠ .frozen) (item : Item) :
    s.itemFetched item = (s.setSeq { s.seq with item := some item, inFlight := .none }).carryOut item :=
  if_neg (mt State.seqFrozen_iff.mp awake)

theorem State.itemFetched_of_frozen {s : State} (frozen : s.seq.state = .frozen) (item : Item) :
    s.itemFetched item = s.setSeq { s.seq with item := some item, inFlight := .none, held := some .carryOut } :=
  if_pos (State.seqFrozen_iff.mpr frozen)

theorem State.itemFetchCompleted_of_awaited {s : State} (awaited : s.arbiter.awaited = true) (ws : List Word) :
    s.itemFetchCompleted ws = s.endTransaction.itemFetched (itemOf ws) :=
  if_pos awaited

theorem State.itemFetchCompleted_of_left {s : State} (left : s.arbiter.awaited = false) (ws : List Word) :
    s.itemFetchCompleted ws = s.endTransaction :=
  if_neg (ne_true_of_eq_false left)

/-- Settles O55: the item read, and the completion by whether it is awaited and the sequencer FROZEN. -/
theorem itemFetchCompletes : Obligations.ItemFetchCompletes := by
  unfold Obligations.ItemFetchCompletes
  refine ⟨itemOf_eq_spelledItem, fun s i ws way awaited awake => ?_, fun s i ws way awaited frozen => ?_,
    fun s i ws way left => ?_⟩
  · rw [exec_itemFetchCompletion way, State.itemFetchCompleted_of_awaited awaited,
      State.itemFetched_of_awake (s := s.endTransaction) awake]
    rfl
  · rw [exec_itemFetchCompletion way, State.itemFetchCompleted_of_awaited awaited,
      State.itemFetched_of_frozen (s := s.endTransaction) frozen]
    rfl
  · rw [exec_itemFetchCompletion way, State.itemFetchCompleted_of_left left]
    rfl

theorem exec_seqWriteCompletion {s : State} {i : Nat} {v : Word} (way : s.arbiter.underWay = some (.seqWrite i v)) :
    exec .seqWriteCompletion s = .next s.seqWriteCompleted.settle := by
  simp only [exec, execSeqWriteCompletion, way]

theorem State.itemWritten_of_awake {s : State} (awake : s.seq.state ≠ .frozen) :
    s.itemWritten = (s.setSeq { s.seq with inFlight := .none }).finishItem (s.seq.itemIndex + 4) :=
  if_neg (mt State.seqFrozen_iff.mp awake)

theorem State.itemWritten_of_frozen {s : State} (frozen : s.seq.state = .frozen) :
    s.itemWritten = s.setSeq { s.seq with inFlight := .none, held := some (.goOn (s.seq.itemIndex + 4)) } :=
  if_pos (State.seqFrozen_iff.mpr frozen)

theorem State.seqWriteCompleted_of_awaited {s : State} (awaited : s.arbiter.awaited = true) :
    s.seqWriteCompleted = s.endTransaction.itemWritten :=
  if_pos awaited

theorem State.seqWriteCompleted_of_left {s : State} (left : s.arbiter.awaited = false) :
    s.seqWriteCompleted = s.endTransaction :=
  if_neg (ne_true_of_eq_false left)

/-- Settles O56: by whether the completion is awaited and the sequencer FROZEN. -/
theorem seqWriteCompletes : Obligations.SeqWriteCompletes := by
  unfold Obligations.SeqWriteCompletes
  refine ⟨fun s i v way awaited awake => ?_, fun s i v way awaited frozen => ?_, fun s i v way left => ?_⟩
  · rw [exec_seqWriteCompletion way, State.seqWriteCompleted_of_awaited awaited,
      State.itemWritten_of_awake (s := s.endTransaction) awake]
    rfl
  · rw [exec_seqWriteCompletion way, State.seqWriteCompleted_of_awaited awaited,
      State.itemWritten_of_frozen (s := s.endTransaction) frozen]
    rfl
  · rw [exec_seqWriteCompletion way, State.seqWriteCompleted_of_left left]
    rfl

end Sys2Proof.Machine
end

section
/-! PROOFS. O7: every step keeps memory in its canonical form (R166, R169). -/

namespace Sys2Proof.Machine

-- One proof at a time: proofs elaborated side by side each hold a thread's stack.
set_option Elab.async false

/-- Where memory stands, so does its canonical form. -/
theorem State.memoryCanonical.of_mem {s t : State} (h : s.memoryCanonical) (mem : t.mem = s.mem := by simp) :
    t.memoryCanonical :=
  show Memory.wf t.mem = true from mem ▸ h

theorem State.memoryCanonical.settle {s : State} (h : s.memoryCanonical) : s.settle.memoryCanonical := State.settle_wf h

theorem State.memoryCanonical.gaugeWrite {s : State} (h : s.memoryCanonical) (e : GaugeEntry) :
    (s.gaugeWrite e).memoryCanonical := State.gaugeWrite_wf h e

/-- Memory changes at the grants, with the words the counters write, and at a POR, which leaves every word as
unlisted. -/
theorem memoryCanonical_stepKeeps : StepKeeps State.memoryCanonical where
  soft _ h := h.of_mem
  skipItem _ h := h.of_mem
  skipList _ h := h.of_mem
  ship _ h := h.of_mem
  release _ _ h := h.of_mem
  start _ _ h := h.of_mem
  stop _ _ h := h.of_mem
  clear _ h := h.of_mem
  preset _ _ h := h.of_mem
  next _ _ h := h.of_mem
  note _ _ h := h.of_mem
  mask _ _ h := h.of_mem
  queue _ _ h := h.of_mem
  settle _ h := h.settle
  port _ _ _ h := h.of_mem
  endTransaction _ h := h.of_mem
  requestLink _ h := h.of_mem
  readDone _ h := h.of_mem
  por _ _ := rfl
  begins _ _ h := h.of_mem
  slot _ h := h.of_mem
  rise _ h := h.of_mem
  fall s h := by
    unfold State.qreqFalls
    dsimp only
    split
    · split
      · exact State.memoryCanonical.settle (h.of_mem)
      · exact h.of_mem
    · exact h
  fast _ _ _ _ h := h.of_mem
  collapse _ _ h := h.of_mem
  wake _ _ _ h := h.of_mem
  shipSlot _ _ h := h.of_mem
  period _ _ h := State.memoryCanonical.settle (h.of_mem)
  scan s x b h := by
    unfold State.scanConverted
    split
    · split
      · exact State.memoryCanonical.settle (h.of_mem)
      · exact h
    · exact h
  probe s x h := by
    unfold State.probeConverted
    split
    · split
      · exact State.memoryCanonical.settle (by split <;> exact h.of_mem)
      · exact h
    · exact h
  gauge s e h := by
    unfold State.gaugeCompleted
    exact State.memoryCanonical.settle ((h.gaugeWrite e).of_mem (by split <;> simp))
  alloc _ _ h := h.of_mem
  waitRefresh _ h := h.of_mem
  fetch _ _ _ _ h := h.of_mem
  item s ws h := by
    unfold State.itemFetchCompleted
    split <;> exact h.of_mem
  written s h := by
    unfold State.seqWriteCompleted
    split <;> exact h.of_mem

/-- Settles O7: memory changes only by word writes and at a POR, and both leave it in its canonical form. -/
theorem stepKeepsMemoryCanonical : Obligations.StepKeepsMemoryCanonical := by
  unfold Obligations.StepKeepsMemoryCanonical
  exact fun _ _ hs h => memoryCanonical_stepKeeps.step hs h

end Sys2Proof.Machine
end

section
/-! PROOFS. O5 and O6: the common area right after a POR, the settings map, and the invariants at reset (R35, R44, R49,
R123, R169, R180, R189; 10.9.3). -/

namespace Sys2Proof.Machine

-- One proof at a time: proofs elaborated side by side each hold a thread's stack.
set_option Elab.async false

/-! ### The words after POR (R180) -/

/-- After POR memory lists no byte, and each word is the reset word of its index. -/
theorem State.reset_readWord (i : Nat) : State.reset.readWord i = Memory.resetWord i := by
  have even : byteOfWord (Memory.resetWord (2 * i / 2)) (2 * i) = byteOfWord (Memory.resetWord i) 0 := by
    rw [Nat.mul_div_cancel_left i Nat.two_pos]
    exact if_pos (Nat.mul_mod_right 2 i)
  have odd : byteOfWord (Memory.resetWord ((2 * i + 1) / 2)) (2 * i + 1) = byteOfWord (Memory.resetWord i) 1 := by
    rw [show (2 * i + 1) / 2 = i by omega]
    exact if_neg (by omega)
  exact (congrArg₂ (fun high low : Byte => (high ++ low : Word)) even odd).trans (byteOfWord_append _)

theorem State.reset_statusWord {i : Nat} (page : i < 0x80) : State.reset.readWord i = Reset.statusWord i :=
  (State.reset_readWord i).trans (if_pos page)

theorem State.reset_settingsWord {i : Nat} (beyond : 0x80 ≤ i) :
    State.reset.readWord i = BitVec.ofNat 16 (settingsDefault i) :=
  (State.reset_readWord i).trans (if_neg (Nat.not_lt.mpr beyond))

/-- Past the band table no word has a default but 0. -/
theorem settingsDefault_of_beyond {i : Nat} (beyond : 0x0E0 ≤ i) : settingsDefault i = 0 := by
  obtain ⟨m, rfl⟩ := Nat.exists_eq_add_of_le' beyond
  rfl

theorem State.reset_readWord_of_beyond {i : Nat} (beyond : 0x0E0 ≤ i) : State.reset.readWord i = 0 := by
  rw [State.reset_settingsWord (by omega), settingsDefault_of_beyond beyond]
  rfl

/-- The image that a refresh of the reset state would take is the one R180 gives. -/
theorem Reset.statusWord_eq_owner {i : Nat} (page : i < 0x80) : Reset.statusWord i = State.reset.statusWord i := by
  have image : (List.range 0x80).map Reset.statusWord = (List.range 0x80).map State.reset.statusWord := by
    decide +kernel
  exact List.map_inj_left.mp image i (List.mem_range.mpr page)

/-- Consecutive words of the settings page hold their defaults. -/
theorem State.reset_settings {first : Nat} (beyond : 0x80 ≤ first) (n : Nat) :
    (List.range n).map (fun k => (State.reset.readWord (first + k)).toNat) =
      (List.range n).map fun k => (BitVec.ofNat 16 (settingsDefault (first + k))).toNat :=
  List.map_congr_left fun k _ => by rw [State.reset_settingsWord (Nat.le_add_right_of_le beyond)]

/-! ### The settings map (10.9.3) -/

theorem State.quietPolicy_eq (s : State) (i : Nat) :
    quietPolicyOf (s.setting i 0 3) =
      if 2 ≤ (s.readWord i).toNat then .keep else if (s.readWord i).toNat = 1 then .stopEffective else .reduced := by
  split
  next keeps => exact State.quietPolicy_keep.mpr keeps
  next drops =>
    split
    next stops => exact State.quietPolicy_stop.mpr stops
    next zero => exact State.quietPolicy_reduced.mpr (BitVec.eq_of_toNat_eq (by
      show (s.readWord i).toNat = 0
      omega))

theorem State.wsel_eq (s : State) : s.wsel = if (s.readWord 0x084).toNat = 0 then .w0 else .w1 := by
  have clear : min 1 (s.readWord 0x084).toNat = 0 ↔ (s.readWord 0x084).toNat = 0 := by omega
  unfold State.wsel
  rw [State.setting_zero]
  exact if_congr clear rfl rfl

theorem State.shipSlot_eq (s : State) :
    s.shipSlot = [SlotLength.zero, .us250, .ms1, .ms4].getD (s.setting 0x0B5 0 3) .ms4 := by
  have range : s.setting 0x0B5 0 3 ≤ 3 := (s.setting_mem (by decide) 0x0B5).2
  have named : s.setting 0x0B5 0 3 = 0 ∨ s.setting 0x0B5 0 3 = 1 ∨ s.setting 0x0B5 0 3 = 2 ∨
      s.setting 0x0B5 0 3 = 3 := by
    omega
  unfold State.shipSlot
  rcases named with slot | slot | slot | slot
  all_goals
    rw [slot]
    rfl

theorem settingsFollowTheMap (s : State) : SettingsFollowTheMap s := by
  unfold SettingsFollowTheMap
  refine ⟨⟨rfl, rfl, rfl, rfl, s.wsel_eq, rfl, rfl, rfl⟩, ⟨rfl, rfl, rfl, rfl, rfl, rfl, rfl, rfl⟩,
    ⟨rfl, rfl, rfl, rfl, rfl, rfl, rfl, rfl⟩, ⟨rfl, rfl, rfl, rfl, rfl, rfl, rfl, rfl⟩,
    ⟨rfl, rfl, rfl, rfl, rfl, rfl, rfl, rfl⟩, ⟨rfl, rfl, rfl, rfl, rfl, rfl, rfl, rfl⟩,
    ⟨s.quietPolicy_eq _, s.quietPolicy_eq _, s.quietPolicy_eq _, s.quietPolicy_eq _, rfl, s.shipSlot_eq, rfl, rfl⟩,
    ⟨rfl, rfl⟩⟩

/-- Settles O5: block by block, and the settings map in every state. -/
theorem resetCommonArea : Obligations.ResetCommonArea := by
  unfold Obligations.ResetCommonArea
  refine ⟨fun i free _ => State.reset_readWord_of_beyond (by omega), fun i page charge => ?_,
    fun i page _ => (State.reset_statusWord page).trans (Reset.statusWord_eq_owner page), ?_, ?_,
    fun i spare _ => State.reset_readWord_of_beyond spare, settingsFollowTheMap⟩
  · rw [State.reset_statusWord page]
    have zero : ∀ j ∈ [0x020, 0x021, 0x022, 0x040, 0x041, 0x042], Reset.statusWord j = 0 := by decide
    exact zero i ((isChargeWord_iff i).mp charge)
  · rw [State.reset_settings (by decide)]
    decide
  · rw [State.reset_settings (by decide)]
    decide

/-! ### The invariants at reset (R20, R99, R112, R189) -/

theorem State.reset_pathSafe (c : CellId) : State.reset.pathSafe c := by
  have cell : (State.reset.cell c).charge = .absent ∧ (State.reset.cell c).setPoint = 0 := by
    cases c <;> exact ⟨rfl, rfl⟩
  have idle : State.reset.allocator.inFlight = none := rfl
  obtain ⟨absent, applied⟩ := cell
  refine ⟨fun tripped => ?_, fun _ => applied, fun _ => applied, fun full => ?_,
    fun al flight => absurd (idle.symm.trans flight) nofun⟩
  · exact absurd (absent.symm.trans tripped) nofun
  · exact absurd (absent.symm.trans full) nofun

/-- Settles O6: each invariant by the reset values of its own block. -/
theorem resetIsSafe : Obligations.ResetIsSafe := by
  unfold Obligations.ResetIsSafe
  have port : State.reset.portWithinBounds := State.portWithinBounds_of_none rfl
  have lists : State.reset.listsWithinBounds := ⟨Nat.zero_le _, nofun⟩
  have transfer : State.reset.transferSafe := ⟨nofun, fun _ => rfl⟩
  have weights : State.reset.allocator.weightsBalanced := by
    unfold Allocator.weightsBalanced
    decide
  have arbiter : State.reset.arbiterSettled := ⟨nofun, nofun, nofun, fun _ => ⟨rfl, rfl, rfl, rfl, rfl, rfl, rfl⟩⟩
  have ship : State.reset.shipSequenced := ⟨nofun, nofun⟩
  have counts : State.reset.countsWithinRange := by
    unfold State.countsWithinRange
    decide
  exact ⟨rfl, port, lists, transfer, State.reset_pathSafe, weights, arbiter, ship, counts⟩

end Sys2Proof.Machine
end

section
/-! PROOFS. O20: NOTE and MASK (R176 to R178). -/

namespace Sys2Proof.Machine

-- One proof at a time: proofs elaborated side by side each hold a thread's stack.
set_option Elab.async false

/-! ### The numbers of the causes (10.7) -/

theorem StickyCause.number_le (k : StickyCause) : k.number ≤ 15 := by cases k <;> decide

theorem StickyCause.ofNumber_number (k : StickyCause) : StickyCause.ofNumber k.number = some k := by cases k <;> rfl

theorem StickyCause.ofNumber_of_beyond {n : Nat} (beyond : 15 < n) : StickyCause.ofNumber n = none := by
  obtain ⟨m, rfl⟩ := Nat.exists_eq_add_of_le' beyond
  rfl

/-! ### NOTE (R176, R177) -/

theorem State.causePending_number (s : State) (k : StickyCause) :
    s.causePending k.number = s.notices.sticky.get k := by
  unfold State.causePending
  rw [k.ofNumber_number]

/-- NOTE is the lowest number that is pending and enabled, or 16 (R177). -/
theorem State.note_spec (s : State) :
    let enabled := fun n => s.causePending n = true ∧ s.notices.mask.getLsbD n = true
    (s.note < 16 ∧ enabled s.note ∧ ∀ n, n < s.note → ¬ enabled n) ∨ (s.note = 16 ∧ ∀ n, n < 16 → ¬ enabled n) := by
  intro enabled
  have test : ∀ n, (s.causePending n && s.notices.mask.getLsbD n) = true ↔ enabled n := fun n => Bool.and_eq_true_iff
  unfold State.note
  split
  next n found =>
    obtain ⟨first, inRange, before⟩ := List.find?_range_eq_some.mp found
    refine .inl ⟨List.mem_range.mp inRange, (test n).mp first, fun j below on => ?_⟩
    exact Bool.eq_false_iff.mp ((Bool.not_eq_true' _).mp (before j below)) ((test j).mpr on)
  next none_ =>
    exact .inr ⟨rfl, fun n below on => List.find?_eq_none.mp none_ n (List.mem_range.mpr below) ((test n).mpr on)⟩

theorem State.intnLow_of_awake {s : State} (awake : s.control.state ≠ .ship) : s.intnLow = decide (s.note < 16) := by
  unfold State.intnLow
  rw [bne_iff_ne.mpr awake, Bool.and_true]

/-! ### The writes of NOTE and MASK (R177) -/

theorem exec_noteWrite (s : State) (v : Word) :
    exec (.noteWrite v) s = .next (s.whenServing (s.clearCause v.toNat)) := rfl

theorem exec_maskWrite (s : State) (v : Word) : exec (.maskWrite v) s = .next (s.whenServing (s.writeMask v)) := rfl

theorem State.clearCause_number (s : State) (k : StickyCause) :
    s.clearCause (BitVec.ofNat 16 k.number).toNat = s.setSticky k false := by
  have small : k.number % 2 ^ 16 = k.number := Nat.mod_eq_of_lt (Nat.lt_of_le_of_lt k.number_le (by decide))
  rw [BitVec.toNat_ofNat, small, State.clearCause, k.ofNumber_number]

/-- A number of no sticky cause clears nothing. -/
theorem State.clearCause_of_none {s : State} {n : Nat} (other : StickyCause.ofNumber n = none) :
    s.clearCause n = s := by
  unfold State.clearCause
  rw [other]

/-- Settles O20: the numbering by the table, the reading as a search, and the writes by the cause of their number. -/
theorem noteAndMask : Obligations.NoteAndMask := by
  unfold Obligations.NoteAndMask
  refine ⟨rfl, fun _ => rfl, fun x k j b => x.get_set k j b, State.note_spec, State.causePending_number,
    fun s => ⟨Bool.or_false _, rfl⟩, fun _ => rfl, fun s k serving => ?_, fun s k clear => ?_, fun s v other => ?_,
    fun s v serving => ?_, fun s awake => State.intnLow_of_awake awake⟩
  · rw [exec_noteWrite, s.clearCause_number, State.whenServing, if_pos serving]
    rfl
  · rw [exec_noteWrite, s.clearCause_number, ← clear, s.setSticky_get, State.whenServing_self]
  · have none_ : StickyCause.ofNumber v.toNat = none := by
      rcases other with rfl | rfl | beyond
      · rfl
      · rfl
      · exact StickyCause.ofNumber_of_beyond beyond
    rw [exec_noteWrite, State.clearCause_of_none none_, State.whenServing_self]
  · rw [exec_maskWrite, State.whenServing, if_pos serving]
    rfl

end Sys2Proof.Machine
end

section
/-! PROOFS. O23: the map of byte addresses, the writes that are dropped, and a port that does not serve (R165, R166,
R174, R179). -/

namespace Sys2Proof.Machine

-- One proof at a time: proofs elaborated side by side each hold a thread's stack.
set_option Elab.async false

/-! ### The map of byte addresses (R165, R166) -/

/-- An odd address is of the place of the even address below it (R165). -/
theorem evenAddress_toNat (a : Word) : (evenAddress a).toNat = a.toNat - a.toNat % 2 := by
  have bound := a.isLt
  unfold evenAddress
  rw [BitVec.toNat_ofNat]
  omega

theorem placeOf_of_area {a : Word} (area : a.toNat < 0x2000) : placeOf a = .area (a.toNat / 2) := if_pos area

theorem placeOf_of_register {a : Word} {r : LinkRegister} (register : (a.toNat, r) ∈ linkRegisters) :
    placeOf a = .register r := by
  simp only [linkRegisters, List.mem_cons, Prod.mk.injEq, List.not_mem_nil, or_false] at register
  unfold placeOf
  rcases register with ⟨address, rfl⟩ | ⟨address, rfl⟩ | ⟨address, rfl⟩ | ⟨address, rfl⟩ | ⟨address, rfl⟩ |
      ⟨address, rfl⟩
  all_goals
    rw [address]
    rfl

theorem placeOf_of_unmapped {a : Word} (beyond : 0x2000 ≤ a.toNat) (other : a.toNat ∉ linkRegisters.map Prod.fst) :
    placeOf a = .unmapped := by
  simp only [linkRegisters, List.map_cons, List.map_nil, List.mem_cons, List.not_mem_nil, or_false, not_or] at other
  unfold placeOf
  refine (if_neg (Nat.not_lt.mpr beyond)).trans ?_
  split
  all_goals simp_all

/-! ### Writes that are dropped (R166, R174) -/

theorem State.receiveRegister_of_dropped {s : State} {r : LinkRegister} (drops : r.takesWrite = false) (w : Word) :
    s.receiveRegister r w = s :=
  if_pos drops

/-- At ID, at DONE and at every unmapped address no word acts (R166). -/
theorem State.writeAt_of_dropped {s : State} {a : Word} (dropped : writeIsDroppedAt a = true) (w : Word) :
    s.writeAt (evenAddress a) w = s := by
  have place : (evenAddress a).toNat = 0x2000 ∨ (evenAddress a).toNat = 0x2004 ∨ 0x200A < (evenAddress a).toNat := by
    have bytes : a.toNat / 2 * 2 = (evenAddress a).toNat := by
      rw [evenAddress_toNat]
      omega
    simpa [writeIsDroppedAt, bytes, or_assoc] using dropped
  have registerDrops : ∀ {r : LinkRegister}, r.takesWrite = false → ((evenAddress a).toNat, r) ∈ linkRegisters →
      s.writeAt (evenAddress a) w = s := fun drops register => by
    rw [State.writeAt, placeOf_of_register register]
    exact State.receiveRegister_of_dropped drops w
  rcases place with id | done | beyond
  · exact registerDrops (r := .id) rfl (by rw [id]; decide)
  · exact registerDrops (r := .done) rfl (by rw [done]; decide)
  · have other : (evenAddress a).toNat ∉ linkRegisters.map Prod.fst := by
      simp only [linkRegisters, List.map_cons, List.map_nil, List.mem_cons, List.not_mem_nil, or_false]
      omega
    rw [State.writeAt, placeOf_of_unmapped (by omega) other]

/-! ### A port that does not serve (R179) -/

theorem State.busEvents_of_silent {s : State} (silent : s.port.serving = false) (l : List FrameEvent) :
    s.busEvents l = s := by
  have ignored : ∀ e, s.busEvent e = s := fun e => if_neg (ne_true_of_eq_false silent)
  induction l with
  | nil => rfl
  | cons e l ih => rw [State.busEvents, ignored, ih]

/-- Settles O23: the dropped writes by their place, and each access by the port that does not serve. -/
theorem writesDroppedAndLinkInert : Obligations.WritesDroppedAndLinkInert := by
  unfold Obligations.WritesDroppedAndLinkInert
  refine ⟨fun _ _ _ => rfl, fun s a v dropped => State.writeAt_of_dropped dropped v, fun s silent c access => ?_⟩
  have inert : ∀ t, s.whenServing t = s := fun t => if_neg (ne_true_of_eq_false silent)
  rcases access with ⟨l, rfl⟩ | ⟨v, rfl⟩ | rfl | ⟨v, rfl⟩ | ⟨v, rfl⟩ | rfl | rfl | rfl | rfl | rfl | rfl | rfl | rfl |
    rfl | rfl | rfl | rfl | rfl
  case inl => exact congrArg Host.Outcome.next (State.busEvents_of_silent silent l)
  all_goals exact congrArg Host.Outcome.next (inert _)

end Sys2Proof.Machine
end

section
/-! PROOFS. The port while both grants are taken: what a bus event leaves is the port's own, and the request of LINK
that the port's operations make (R165, R167). -/

namespace Sys2Proof.Machine

-- One proof at a time: proofs elaborated side by side each hold a thread's stack.
set_option Elab.async false

/-- The state with another port, and LINK waiting or not. -/
def State.relinked (s : State) (p : Port) (link : Bool) : State :=
  { s with port := p, arbiter := { s.arbiter with link := link } }

/-- Both grants are taken. -/
def State.grantsTaken (s : State) : Prop := s.arbiter.underWay.isSome = true ∧ s.converter.inFlight ≠ .none

theorem State.setFrame_relinked (s : State) (p : Port) (l : Bool) (f : FramePhase) :
    (s.relinked p l).setFrame f = s.relinked { p with frame := f } l := rfl

/-- A bus event that leaves t but for the port leaves, with the request of LINK made by the port's operations, t but
for the port. -/
theorem State.busEvent_relinked {s t : State} {p q : Port} {l m : Bool} {e : FrameEvent} (serving : p.serving = true)
    (taken : t.grantsTaken) (acts : (s.relinked p l).frameEvent e = t.relinked q m) :
    (s.relinked p l).busEvent e = t.relinked q (nextWaits q.ops) := by
  obtain ⟨arbiter, converter⟩ := taken
  rw [State.busEvent_of_taken serving (by rw [acts]; exact arbiter) (by rw [acts]; exact converter), acts,
    State.requestLink_eq]
  rfl

theorem State.busEvents_relinked {s t : State} {p q : Port} {l m : Bool} {e : FrameEvent} {rest : List FrameEvent}
    (serving : p.serving = true) (taken : t.grantsTaken) (acts : (s.relinked p l).frameEvent e = t.relinked q m) :
    (s.relinked p l).busEvents (e :: rest) = (t.relinked q (nextWaits q.ops)).busEvents rest :=
  congrArg (State.busEvents · rest) (State.busEvent_relinked serving taken acts)

/-- One bus event alone that acts on the port alone. -/
theorem exec_busEvent {s : State} {q : Port} {e : FrameEvent} (taken : ServingWithGrantsTaken s)
    (acts : s.frameEvent e = s.setPort q) : exec (.linkFrame [e]) s = .next (linkRequested (s.setPort q)) := by
  obtain ⟨serving, grants⟩ := taken
  exact congrArg Host.Outcome.next (State.busEvent_relinked (p := s.port) (l := s.arbiter.link) serving grants acts)

/-- The runs held leave room for one more (R167). -/
theorem Port.hasRoom_iff (p : Port) : p.hasRoom = true ↔ runsHeld p.ops < 2 := decide_eq_true_iff

theorem State.requestReadRun_eq (s : State) (i : Nat) :
    s.requestReadRun i = s.setOps (s.port.ops ++ if runsHeld s.port.ops < 2 then [readRunFrom i] else []) := by
  unfold State.requestReadRun
  by_cases room : runsHeld s.port.ops < 2
  · rw [if_pos ((Port.hasRoom_iff _).mpr room), if_pos room]
    rfl
  · rw [if_neg (mt (Port.hasRoom_iff _).mp room), if_neg room, List.append_nil]
    rfl

/-! ### The bus events of a frame (R165) -/

section Frame

variable {s : State}

theorem State.frameEvent_csnFall (idle : s.port.frame = .idle) :
    s.frameEvent .csnFall = s.setPort { s.port with frame := .control, shifted := [] } := by
  unfold State.frameEvent
  rw [idle]

/-- A control byte gives a direction; with another one the rest of the frame is ignored. -/
theorem State.frameEvent_control (control : s.port.frame = .control) (b : Byte) :
    s.frameEvent (.control b) = s.setPort { s.port with
      frame := if b = 0x80 then .address .read else if b = 0x00 then .address .write else .ignored } := by
  unfold State.frameEvent
  rw [control]
  rfl

theorem State.frameEvent_writeAddress (address : s.port.frame = .address .write) (a : Word) :
    s.frameEvent (.address a) = s.setPort { s.port with frame := .data .write (evenAddress a) } := by
  unfold State.frameEvent
  rw [address]
  rfl

/-- The first run of a read frame begins at its first word of the common area, and at word 0 where the frame begins
outside the area (log entry 7). -/
theorem nextAreaWord_evenAddress (a : Word) :
    (placeOf (evenAddress a)).nextAreaWord = if a.toNat < 0x2000 then a.toNat / 2 else 0 := by
  have even := evenAddress_toNat a
  split
  next area =>
    rw [placeOf_of_area (by omega)]
    show (evenAddress a).toNat / 2 = a.toNat / 2
    omega
  next beyond =>
    have place : ∀ i, placeOf (evenAddress a) ≠ .area i := by
      intro i
      unfold placeOf
      rw [if_neg (by unfold areaBytes; omega)]
      split <;> exact nofun
    cases found : placeOf (evenAddress a) with
    | area i => exact absurd found (place i)
    | register r => rfl
    | unmapped => rfl

theorem State.frameEvent_readAddress (address : s.port.frame = .address .read) (a : Word) :
    s.frameEvent (.address a) = s.setPort { s.port with
      frame := .data .read (evenAddress a)
      ops := s.port.ops ++ if runsHeld s.port.ops < 2 then
        [readRunFrom (if a.toNat < 0x2000 then a.toNat / 2 else 0)] else [] } := by
  unfold State.frameEvent
  rw [address]
  show (s.setFrame _).requestReadRun _ = _
  rw [nextAreaWord_evenAddress, State.requestReadRun_eq]
  rfl

theorem State.frameEvent_writeWord {addr : Word} (data : s.port.frame = .data .write addr) (w : Word) :
    s.frameEvent (.writeWord w) = (s.setFrame (.data .write (addr + 2))).writeAt addr w := by
  unfold State.frameEvent
  rw [data]

theorem State.frameEvent_readDue {addr : Word} (data : s.port.frame = .data .read addr) :
    let read := (s.setFrame (.data .read (addr + 2))).readAt addr
    s.frameEvent .readDue = read.2.shiftOut read.1 := by
  unfold State.frameEvent
  rw [data]

theorem PortOp.atFrameEnd_eq (op : PortOp) : op.atFrameEnd = atEndOfFrame op := by
  cases op with
  | write q v => rfl
  | run r =>
    obtain ⟨dir, start, length, words, phase, stale⟩ := r
    cases dir with
    | read => rfl
    | write => cases phase <;> rfl

/-- The end of a frame is of any frame in progress. -/
theorem State.frameEvent_csnRise (progress : s.port.frame ≠ .idle) :
    s.frameEvent .csnRise = s.setPort { s.port with frame := .idle, ops := s.port.ops.flatMap atEndOfFrame } := by
  have ends : s.frameEvent .csnRise = s.endFrame := by
    cases frame : s.port.frame with
    | idle => exact absurd frame progress
    | control | address | ignored | data =>
      unfold State.frameEvent
      rw [frame]
  rw [ends, ← funext PortOp.atFrameEnd_eq]
  rfl

/-- The rest of a frame with another control byte changes nothing. -/
theorem State.frameEvent_of_ignored (ignored : s.port.frame = .ignored) {e : FrameEvent}
    (rest : (∃ a, e = .address a) ∨ (∃ w, e = .writeWord w) ∨ e = .readDue) : s.frameEvent e = s.setPort s.port := by
  unfold State.frameEvent
  rw [ignored]
  rcases rest with ⟨a, rfl⟩ | ⟨w, rfl⟩ | rfl <;> rfl

end Frame

/-! ### The beginning of a frame -/

section Header

variable {s : State} (taken : ServingWithGrantsTaken s) (idle : s.port.frame = .idle)

include taken idle

/-- The control byte of a frame leaves the port with what it gives. -/
theorem State.busEvents_control (b : Byte) (rest : List FrameEvent) :
    s.busEvents (.csnFall :: .control b :: rest) = (s.relinked { s.port with
      frame := if b = 0x80 then .address .read else if b = 0x00 then .address .write else .ignored
      shifted := [] } (nextWaits s.port.ops)).busEvents rest := by
  obtain ⟨serving, grants⟩ := taken
  refine Eq.trans (State.busEvents_relinked (p := s.port) (l := s.arbiter.link) serving grants
    (State.frameEvent_csnFall idle)) ?_
  exact State.busEvents_relinked (s := s) serving grants (State.frameEvent_control rfl b)

/-- The address of a write frame. -/
theorem State.busEvents_writeAddress (a : Word) (rest : List FrameEvent) :
    s.busEvents (.csnFall :: .control 0x00 :: .address a :: rest) = (s.relinked { s.port with
      frame := .data .write (evenAddress a)
      shifted := [] } (nextWaits s.port.ops)).busEvents rest := by
  obtain ⟨serving, grants⟩ := taken
  rw [State.busEvents_control ⟨serving, grants⟩ idle]
  exact State.busEvents_relinked (s := s) serving grants (State.frameEvent_writeAddress rfl a)

/-- The address of a read frame. -/
theorem State.busEvents_readAddress (a : Word) (rest : List FrameEvent) :
    let ops := s.port.ops ++ if runsHeld s.port.ops < 2 then
      [readRunFrom (if a.toNat < 0x2000 then a.toNat / 2 else 0)] else []
    s.busEvents (.csnFall :: .control 0x80 :: .address a :: rest) = (s.relinked { s.port with
      frame := .data .read (evenAddress a)
      ops := ops
      shifted := [] } (nextWaits ops)).busEvents rest := by
  intro ops
  obtain ⟨serving, grants⟩ := taken
  rw [State.busEvents_control ⟨serving, grants⟩ idle]
  exact State.busEvents_relinked (s := s) serving grants (State.frameEvent_readAddress rfl a)

end Header

/-- The end of a frame at a port without operations. -/
theorem State.busEvents_csnRise_of_none {s : State} {p : Port} {l : Bool} (serving : p.serving = true)
    (taken : s.grantsTaken) (progress : p.frame ≠ .idle) (none_ : p.ops = []) :
    (s.relinked p l).busEvents [.csnRise] = s.relinked { p with frame := .idle } false := by
  have ended : p.ops.flatMap atEndOfFrame = p.ops := by
    rw [none_]
    rfl
  have still : nextWaits p.ops = false := by
    rw [none_]
    rfl
  refine Eq.trans (State.busEvents_relinked serving taken (State.frameEvent_csnRise progress)) ?_
  show s.relinked { p with frame := .idle, ops := p.ops.flatMap atEndOfFrame }
    (nextWaits (p.ops.flatMap atEndOfFrame)) = _
  rw [ended, still]

end Sys2Proof.Machine
end

section
/-! PROOFS. O24: a word written to or read from a link register by a frame acts as the register access does (R165, R166,
R174, R175; 10.9.1). -/

namespace Sys2Proof.Machine

-- One proof at a time: proofs elaborated side by side each hold a thread's stack.
set_option Elab.async false

/-! ### What a register write does (R141, R174, R175, R177) -/

theorem State.nextStarts_iff {s : State} {v : Word} :
    s.nextStarts v = true ↔ s.seq.slot = none ∧ 0x100 ≤ v.toNat ∧ v.toNat ≤ 0xFFC ∧ s.seq.state = .idle := by
  unfold State.nextStarts
  rw [Bool.and_eq_true, Bool.and_eq_true, Option.isNone_iff_eq_none, isItemIndex_iff, beq_iff_eq, and_assoc, and_assoc]

theorem exec_nextWrite_eq {s : State} (serving : s.port.serving = true) (v : Word) :
    exec (.nextWrite v) s = .next
      (if s.seq.slot = none ∧ 0x100 ≤ v.toNat ∧ v.toNat ≤ 0xFFC ∧ s.seq.state = .idle then
        (s.writeRegister .next v).settle
      else s.writeRegister .next v) := by
  rw [exec_nextWrite serving]
  exact congrArg Host.Outcome.next (if_congr State.nextStarts_iff rfl rfl)

/-- A command whose effect is t answers t, or what the grants make of it. -/
theorem next_of_whenServing {s t : State} (serving : s.port.serving = true) (grants : Bool)
    {o : Host.Outcome State Fault Refusal} (acts : o = .next (s.whenServing (t.settleIf grants))) :
    o = .next t ∨ o = .next t.settle := by
  rw [acts, State.whenServing, if_pos serving]
  cases grants with
  | false => exact .inl rfl
  | true => exact .inr rfl

theorem commandOf_of_beyond {v : Word} (other : v.toNat = 0 ∨ 13 < v.toNat) : commandOf v = none := by
  unfold commandOf
  rcases other with zero | beyond
  · rw [zero]
    rfl
  · obtain ⟨m, past⟩ := Nat.exists_eq_add_of_le' beyond
    rw [past]
    rfl

theorem State.writeCommand_of_none {s : State} {v : Word} (other : commandOf v = none) :
    s.writeRegister .cmd v = s := by
  show s.writeCommand v = s
  unfold State.writeCommand
  rw [other]

theorem State.writeCommand_of_some {s : State} {v : Word} {c : Command} (code : commandOf v = some c) :
    s.writeRegister .cmd v = s.command c := by
  show s.writeCommand v = s.command c
  unfold State.writeCommand
  rw [code]

/-- Each code of CMD does what its command does, but for the grants (10.9.1). -/
theorem writeCommand_acts {s : State} {code : Nat} {c : Instr} (serving : s.port.serving = true)
    (listed : (code, c) ∈ commandCodes) :
    let t := s.writeRegister .cmd (BitVec.ofNat 16 code)
    exec c s = .next t ∨ exec c s = .next t.settle := by
  simp only [commandCodes, List.mem_cons, Prod.mk.injEq, List.not_mem_nil, or_false] at listed
  rcases listed with ⟨rfl, rfl⟩ | ⟨rfl, rfl⟩ | ⟨rfl, rfl⟩ | ⟨rfl, rfl⟩ | ⟨rfl, rfl⟩ | ⟨rfl, rfl⟩ | ⟨rfl, rfl⟩ |
    ⟨rfl, rfl⟩ | ⟨rfl, rfl⟩ | ⟨rfl, rfl⟩ | ⟨rfl, rfl⟩ | ⟨rfl, rfl⟩ | ⟨rfl, rfl⟩
  · exact next_of_whenServing serving s.softResetActs rfl
  · exact next_of_whenServing serving s.skipItemGoesOn rfl
  · exact next_of_whenServing serving s.skipListGoesOn rfl
  · exact next_of_whenServing serving s.shipAccepted rfl
  · exact next_of_whenServing serving false rfl
  · exact next_of_whenServing serving false rfl
  · exact next_of_whenServing serving true rfl
  · exact next_of_whenServing serving (s.bMode == 0) rfl
  · exact next_of_whenServing serving false rfl
  · exact next_of_whenServing serving false rfl
  · exact next_of_whenServing serving false rfl
  · exact next_of_whenServing serving (!mergesInto s.gauge .a (.preset .a)) rfl
  · exact next_of_whenServing serving (!mergesInto s.gauge .b (.preset .b)) rfl

theorem registerWritesAct : RegisterWritesAct := by
  unfold RegisterWritesAct
  refine ⟨fun s v serving => ⟨?_, ?_, exec_nextWrite_eq serving v⟩, fun s v => ⟨rfl, rfl⟩,
    fun s code c serving listed => writeCommand_acts serving listed,
    fun s v other => State.writeCommand_of_none (commandOf_of_beyond other)⟩
  · exact congrArg Host.Outcome.next (if_pos serving)
  · exact congrArg Host.Outcome.next (if_pos serving)

/-! ### Register accesses beside the port -/

/-- The port and the request of LINK play no part in what f does. -/
def BesidePort (f : State → State) : Prop := ∀ s p l, f (s.relinked p l) = (f s).relinked p l

theorem relinked_ite {cond : Prop} [Decidable cond] {x y x' y' : State} {p : Port} {l : Bool}
    (hx : x' = x.relinked p l) (hy : y' = y.relinked p l) :
    (if cond then x' else y') = (if cond then x else y).relinked p l := by
  split
  · exact hx
  · exact hy

theorem besidePort_release (c : CellId) : BesidePort fun s => s.release c :=
  fun _ _ _ => relinked_ite rfl (relinked_ite rfl (relinked_ite rfl rfl))

theorem besidePort_profileStop (c : CellId) : BesidePort fun s => s.profileStop c := by
  intro s p l
  dsimp only [State.profileStop]
  rw [State.dropTable_eq, State.dropTable_eq]
  exact relinked_ite rfl rfl

theorem State.writeNext_of_refused {s : State} {v : Word}
    (refused : ¬ (s.seq.slot = none ∧ isItemIndex v.toNat = true)) :
    s.writeNext v = s := by
  unfold State.writeNext
  split
  · rfl
  next free => exact if_neg fun index => refused ⟨free, index⟩

theorem besidePort_writeNext (v : Word) : BesidePort fun s => s.writeNext v := by
  intro s p l
  by_cases taken : s.seq.slot = none ∧ isItemIndex v.toNat = true
  · obtain ⟨slot, index⟩ := taken
    dsimp only
    rw [State.writeNext_of_taken slot index, State.writeNext_of_taken (s := s.relinked p l) slot index]
    exact relinked_ite rfl rfl
  · dsimp only
    rw [State.writeNext_of_refused taken, State.writeNext_of_refused (s := s.relinked p l) taken]

theorem besidePort_clearCause (n : Nat) : BesidePort fun s => s.clearCause n := by
  intro s p l
  unfold State.clearCause
  cases StickyCause.ofNumber n <;> rfl

/-- A value of CMD that names no command, or one that asks for no grant and resets nothing. -/
theorem commandOf_of_plain {w : Word} (plain : w.toNat ∈ [0, 5, 6, 9, 10, 11] ∨ 13 < w.toNat) :
    commandOf w = none ∨ (∃ c, commandOf w = some (.release c)) ∨ (∃ c, commandOf w = some (.profileStop c)) ∨
      commandOf w = some .clearWindow := by
  rcases plain with listed | beyond
  · simp only [List.mem_cons, List.not_mem_nil, or_false] at listed
    unfold commandOf
    rcases listed with code | code | code | code | code | code
    all_goals
      rw [code]
      simp
  · exact .inl (commandOf_of_beyond (.inr beyond))

/-- A register write of a frame, but for the codes of CMD that ask for a grant or reset: what it does beside the
port. -/
theorem besidePort_writeRegister {r : LinkRegister} {w : Word}
    (plain : r = .cmd → w.toNat ∈ [0, 5, 6, 9, 10, 11] ∨ 13 < w.toNat) : BesidePort fun s => s.writeRegister r w := by
  cases r with
  | id => exact fun _ _ _ => rfl
  | done => exact fun _ _ _ => rfl
  | mask => exact fun _ _ _ => rfl
  | next => exact besidePort_writeNext w
  | note => exact besidePort_clearCause w.toNat
  | cmd =>
    intro s p l
    dsimp only
    rcases commandOf_of_plain (plain rfl) with code | ⟨c, code⟩ | ⟨c, code⟩ | code
    · rw [State.writeCommand_of_none code, State.writeCommand_of_none code]
    · rw [State.writeCommand_of_some code, State.writeCommand_of_some code]
      exact besidePort_release c s p l
    · rw [State.writeCommand_of_some code, State.writeCommand_of_some code]
      exact besidePort_profileStop c s p l
    · rw [State.writeCommand_of_some code, State.writeCommand_of_some code]
      rfl

theorem State.profileStop_underWay (s : State) (c : CellId) :
    (s.profileStop c).arbiter.underWay = s.arbiter.underWay := by
  dsimp only [State.profileStop]
  rw [State.dropTable_eq]
  split <;> rfl

theorem State.writeNext_underWay (s : State) (v : Word) : (s.writeNext v).arbiter.underWay = s.arbiter.underWay := by
  unfold State.writeNext State.startList
  (repeat' split) <;> rfl

/-- Such a register write takes no grant and frees none. -/
theorem State.grantsTaken.writeRegister {s : State} (h : s.grantsTaken) {r : LinkRegister} {w : Word}
    (plain : r = .cmd → w.toNat ∈ [0, 5, 6, 9, 10, 11] ∨ 13 < w.toNat) : (s.writeRegister r w).grantsTaken := by
  have stands : ∀ {t : State}, t.arbiter.underWay = s.arbiter.underWay → t.converter = s.converter → t.grantsTaken := by
    intro t arbiter converter
    unfold State.grantsTaken
    rw [arbiter, converter]
    exact h
  cases r with
  | id => exact h
  | done => exact h
  | mask => exact h
  | next => exact stands (s.writeNext_underWay w) (by simp [State.writeRegister])
  | note => exact stands (by simp [State.writeRegister]) (by simp [State.writeRegister])
  | cmd =>
    rcases commandOf_of_plain (plain rfl) with code | ⟨c, code⟩ | ⟨c, code⟩ | code
    · rw [State.writeCommand_of_none code]
      exact h
    · rw [State.writeCommand_of_some code]
      exact stands (by simp [State.command]) (by simp [State.command])
    · rw [State.writeCommand_of_some code]
      exact stands (s.profileStop_underWay c) (by simp [State.command])
    · rw [State.writeCommand_of_some code]
      exact h

theorem State.readDone_of_empty {s : State} (empty : s.seq.done = []) : s.readDone = (0xFFFF, s) := by
  unfold State.readDone
  rw [empty]

theorem State.readDone_of_entry {s : State} {e : DoneEntry} {rest : List DoneEntry} (queue : s.seq.done = e :: rest) :
    s.readDone = (e.word, s.setSeq { s.seq with done := rest }) := by
  unfold State.readDone
  rw [queue]

/-- A register read takes its value, and pops DONE, beside the port (R174). -/
theorem State.readRegister_relinked (s : State) (r : LinkRegister) (p : Port) (l : Bool) :
    (s.relinked p l).readRegister r = ((s.readRegister r).1, (s.readRegister r).2.relinked p l) := by
  cases r with
  | done =>
    show (s.relinked p l).readDone = (s.readDone.1, s.readDone.2.relinked p l)
    cases queue : s.seq.done with
    | nil => rw [State.readDone_of_empty queue, State.readDone_of_empty (s := s.relinked p l) queue]
    | cons e rest =>
      rw [State.readDone_of_entry queue, State.readDone_of_entry (s := s.relinked p l) queue]
      rfl
  | id | next | note | mask | cmd => rfl

theorem State.grantsTaken.readRegister {s : State} (h : s.grantsTaken) (r : LinkRegister) :
    (s.readRegister r).2.grantsTaken := by
  simpa [State.grantsTaken] using h

/-! ### Whole frames (R165, R174) -/

theorem State.receiveRegister_of_settled {s : State} (settled : s.port.settled = true) (r : LinkRegister) (w : Word) :
    s.receiveRegister r w = s.writeRegister r w := by
  unfold State.receiveRegister
  rw [settled]
  cases r <;> rfl

/-- A register word behind no operation acts, beside the port. -/
theorem State.frameEvent_writeRegister {s : State} {p : Port} {l : Bool} {a w : Word} {r : LinkRegister}
    (data : p.frame = .data .write a) (none_ : p.ops = []) (register : (a.toNat, r) ∈ linkRegisters)
    (plain : r = .cmd → w.toNat ∈ [0, 5, 6, 9, 10, 11] ∨ 13 < w.toNat) :
    (s.relinked p l).frameEvent (.writeWord w) =
      (s.writeRegister r w).relinked { p with frame := .data .write (a + 2) } l := by
  have settled : ({ p with frame := .data .write (a + 2) } : Port).settled = true := by simp [Port.settled, none_]
  rw [State.frameEvent_writeWord (s := s.relinked p l) data, State.setFrame_relinked, State.writeAt,
    placeOf_of_register register]
  exact (State.receiveRegister_of_settled settled r w).trans (besidePort_writeRegister plain s _ l)

theorem writeFrame_acts {s : State} {r : LinkRegister} {a w : Word} (taken : ServingWithGrantsTaken s)
    (idle : s.port.frame = .idle) (none_ : s.port.ops = []) (register : ((evenAddress a).toNat, r) ∈ linkRegisters)
    (plain : r = .cmd → w.toNat ∈ [0, 5, 6, 9, 10, 11] ∨ 13 < w.toNat) :
    s.busEvents [.csnFall, .control 0x00, .address a, .writeWord w, .csnRise] =
      (s.writeRegister r w).relinked { s.port with frame := .idle, shifted := [] } false := by
  have grants : s.grantsTaken := taken.2
  rw [State.busEvents_writeAddress taken idle]
  refine Eq.trans (State.busEvents_relinked taken.1 (grants.writeRegister plain)
    (State.frameEvent_writeRegister rfl none_ register plain)) ?_
  exact State.busEvents_csnRise_of_none taken.1 (grants.writeRegister plain) nofun none_

/-- A register word of a read frame, ahead of whose own run no operation is outstanding. -/
theorem State.frameEvent_readRegister {s : State} {p : Port} {l : Bool} {a : Word} {r : LinkRegister}
    (data : p.frame = .data .read a) (settled : p.settledForRead = true) (register : (a.toNat, r) ∈ linkRegisters) :
    (s.relinked p l).frameEvent .readDue =
      (s.readRegister r).2.relinked { p with
        frame := .data .read (a + 2), shifted := p.shifted ++ [(s.readRegister r).1] } l := by
  have value : ((s.relinked p l).setFrame (.data .read (a + 2))).readAt a =
      ((s.readRegister r).1, (s.readRegister r).2.relinked { p with frame := .data .read (a + 2) } l) := by
    rw [State.readAt, placeOf_of_register register]
    exact (if_pos settled).trans (s.readRegister_relinked r _ l)
  rw [State.frameEvent_readDue (s := s.relinked p l) data, value]
  rfl

theorem readFrame_acts {s : State} {r : LinkRegister} {a : Word} (taken : ServingWithGrantsTaken s)
    (idle : s.port.frame = .idle) (none_ : s.port.ops = []) (register : ((evenAddress a).toNat, r) ∈ linkRegisters)
    (beyond : 0x2000 ≤ a.toNat) :
    s.busEvents [.csnFall, .control 0x80, .address a, .readDue, .csnRise] =
      (s.readRegister r).2.relinked { s.port with
        frame := .idle
        shifted := [(s.readRegister r).1]
        ops :=
          [.run { dir := .read, start := 0, length := 64, words := [], phase := .waiting, stale := true }] } true := by
  have grants : s.grantsTaken := taken.2
  have ops : (s.port.ops ++ if runsHeld s.port.ops < 2 then
      [readRunFrom (if a.toNat < 0x2000 then a.toNat / 2 else 0)] else []) = [readRunFrom 0] := by
    rw [none_, if_neg (Nat.not_lt.mpr beyond)]
    rfl
  rw [State.busEvents_readAddress taken idle, ops]
  refine Eq.trans (State.busEvents_relinked taken.1 (grants.readRegister r)
    (State.frameEvent_readRegister rfl rfl register)) ?_
  exact State.busEvents_relinked taken.1 (grants.readRegister r) (State.frameEvent_csnRise nofun)

/-- The registers lie past the common area. -/
theorem linkRegisters_beyond {n : Nat} {r : LinkRegister} (register : (n, r) ∈ linkRegisters) : 0x2000 ≤ n := by
  have least : ∀ x ∈ linkRegisters, 0x2000 ≤ x.1 := by decide
  exact least _ register

/-! ### Behind an earlier operation, and outside the registers (R166, R174) -/

theorem LinkRegister.takesWrite_iff (r : LinkRegister) : r.takesWrite = false ↔ r = .id ∨ r = .done := by
  cases r <;> decide

theorem State.receiveRegister_of_unsettled {s : State} (unsettled : s.port.settled = false) (r : LinkRegister)
    (w : Word) :
    s.receiveRegister r w = if r = .id ∨ r = .done ∨ s.port.holdsWrite = true then s
      else s.setOps (s.port.ops ++ [.write r w]) := by
  unfold State.receiveRegister
  rw [unsettled, if_neg Bool.false_ne_true, ← ite_or]
  refine if_congr ?_ rfl rfl
  rw [r.takesWrite_iff, or_assoc]

theorem State.readAt_of_unmapped {s : State} {a : Word} (beyond : 0x200C ≤ a.toNat) : s.readAt a = (0, s) := by
  have other : a.toNat ∉ linkRegisters.map Prod.fst := by
    simp only [linkRegisters, List.map_cons, List.map_nil, List.mem_cons, List.not_mem_nil, or_false]
    omega
  rw [State.readAt, placeOf_of_unmapped (by omega) other]

/-- Settles O24: the map of byte addresses, the register writes, and the frames of one register word. -/
theorem framesReachRegisters : Obligations.FramesReachRegisters := by
  unfold Obligations.FramesReachRegisters
  refine ⟨evenAddress_toNat, fun a => ?_, registerWritesAct, fun s r a w taken idle none_ register plain => ?_,
    fun s r a taken idle none_ register => ?_, fun s => ⟨rfl, rfl, rfl, rfl⟩,
    fun s r w unsettled => State.receiveRegister_of_unsettled unsettled r w,
    fun s a beyond => State.readAt_of_unmapped beyond⟩
  · split
    next area => exact placeOf_of_area area
    next beyond =>
      split
      next x found =>
        have address : x.1 = a.toNat := by simpa using List.find?_some found
        refine placeOf_of_register (r := x.2) ?_
        rw [← address]
        exact List.mem_of_find?_eq_some found
      next none_ =>
        refine placeOf_of_unmapped (Nat.not_lt.mp beyond) fun listed => ?_
        obtain ⟨x, member, address⟩ := List.mem_map.mp listed
        exact List.find?_eq_none.mp none_ x member (decide_eq_true address)
  · rw [← evenAddress_toNat] at register
    exact congrArg Host.Outcome.next (writeFrame_acts taken idle none_ register plain)
  · have beyond : 0x2000 ≤ a.toNat := (linkRegisters_beyond register).trans (Nat.sub_le _ _)
    rw [← evenAddress_toNat] at register
    have arbiter : (s.readRegister r).2.arbiter = s.arbiter := by simp
    refine (congrArg Host.Outcome.next (readFrame_acts taken idle none_ register beyond)).trans ?_
    unfold State.relinked
    rw [arbiter]

end Sys2Proof.Machine
end

section
/-! PROOFS. O25: the write words of a frame make runs of the common area (R165, R167). -/

namespace Sys2Proof.Machine

-- One proof at a time: proofs elaborated side by side each hold a thread's stack.
set_option Elab.async false

/-! ### A write word at the port's operations (R167) -/

/-- The operations after a write word of word i: it joins the run being received, or begins one where there is room. -/
def receivedOps (ops : List PortOp) (i : Nat) (w : Word) : List PortOp :=
  (receiveInto ops i w).getD (if runsHeld ops < 2 then ops ++ [.run ((emptyWriteRun i).receive w)] else ops)

theorem State.receiveWord_eq (s : State) (i : Nat) (w : Word) :
    s.receiveWord i w = s.setOps (receivedOps s.port.ops i w) := by
  unfold State.receiveWord receivedOps
  cases receiveInto s.port.ops i w with
  | some ops => rfl
  | none =>
    by_cases room : runsHeld s.port.ops < 2
    · exact (if_pos ((Port.hasRoom_iff _).mpr room)).trans (congrArg s.setOps (if_pos room).symm)
    · exact (if_neg (mt (Port.hasRoom_iff _).mp room)).trans (congrArg s.setOps (if_neg room).symm)

/-- A run with one more word: it ends with its 64th word and with the last word of the area. -/
theorem Run.receive_eq {r : Run} {i : Nat} (next : r.start + r.length = i) (w : Word) :
    r.receive w = { r with
      length := r.length + 1
      words := r.words ++ [w]
      phase := if r.length + 1 = 64 ∨ i = 0xFFF then .waiting else .receiving } := by
  have last : r.start + (r.length + 1) = areaWords ↔ i = 0xFFF := by
    unfold areaWords
    omega
  unfold Run.receive
  simp only [last]

theorem receivedOps_of_joins {earlier : List PortOp} {r : Run} {i : Nat} (receiving : r.phase = .receiving)
    (next : r.start + r.length = i) (w : Word) :
    receivedOps (earlier ++ [.run r]) i w = earlier ++ [.run (r.receive w)] := by
  have joins : receiveInto (earlier ++ [.run r]) i w = some (earlier ++ [.run (r.receive w)]) := by
    unfold receiveInto
    rw [List.getLast?_concat, List.dropLast_concat]
    exact if_pos ⟨receiving, next⟩
  unfold receivedOps
  rw [joins, Option.getD_some]

theorem receiveInto_of_apart {ops : List PortOp} {i : Nat} (apart : ¬ ReceivesAt i ops) (w : Word) :
    receiveInto ops i w = none := by
  unfold receiveInto
  split
  next r last =>
    refine if_neg fun ⟨receiving, next⟩ => apart ⟨ops.dropLast, r, ?_, receiving, next⟩
    exact (List.dropLast_append_getLast? _ last).symm
  next => rfl

theorem receivedOps_of_apart {ops : List PortOp} {i : Nat} (apart : ¬ ReceivesAt i ops) (w : Word) :
    receivedOps ops i w =
      if runsHeld ops < 2 then ops ++ [.run ((emptyWriteRun i).receive w)] else ops := by
  unfold receivedOps
  rw [receiveInto_of_apart apart, Option.getD_none]

theorem State.frameEvent_writeArea {s : State} {addr : Word} (data : s.port.frame = .data .write addr)
    (area : addr.toNat < 0x2000) (w : Word) :
    s.frameEvent (.writeWord w) = s.setPort { s.port with
      frame := .data .write (addr + 2)
      ops := receivedOps s.port.ops (addr.toNat / 2) w } := by
  rw [State.frameEvent_writeWord data, State.writeAt, placeOf_of_area area]
  exact State.receiveWord_eq _ _ _

/-! ### A whole burst -/

/-- The run of a burst with the words it has: it has ended with its 64th word and with the last word of the area. -/
def burstRun (start : Nat) (ws : List Word) : PortOp :=
  .run { dir := .write, start := start, length := ws.length, words := ws, stale := false,
         phase := if ws.length = 64 ∨ start + ws.length = 0x1000 then .waiting else .receiving }

/-- The runs of the words of a burst, the third 64 and those after them dropped. -/
def burstOps (start : Nat) (ws : List Word) : List PortOp :=
  if ws = [] then []
  else burstRun start (ws.take 64) ::
    if 64 < ws.length then [burstRun (start + 64) ((ws.drop 64).take 64)] else []

/-- A word joins the run of a burst that has not ended. -/
theorem receivedOps_burstRun {earlier : List PortOp} {start : Nat} {ws : List Word} (short : ws.length < 64)
    (within : start + ws.length < 0x1000) (w : Word) :
    receivedOps (earlier ++ [burstRun start ws]) (start + ws.length) w = earlier ++ [burstRun start (ws ++ [w])] := by
  have receiving : (if ws.length = 64 ∨ start + ws.length = 0x1000 then RunPhase.waiting else .receiving) =
      .receiving :=
    if_neg (by omega)
  have phase : (ws.length + 1 = 64 ∨ start + ws.length = 0xFFF) ↔
      ((ws ++ [w]).length = 64 ∨ start + (ws ++ [w]).length = 0x1000) := by
    rw [List.length_append, List.length_singleton]
    omega
  unfold burstRun
  rw [receivedOps_of_joins receiving rfl, Run.receive_eq rfl, ← if_congr phase rfl rfl, List.length_append,
    List.length_singleton]

theorem not_receivesAt_burstRun {earlier : List PortOp} {start : Nat} {ws : List Word} (full : ws.length = 64)
    (i : Nat) :
    ¬ ReceivesAt i (earlier ++ [burstRun start ws]) := by
  rintro ⟨earlier', r, ops, receiving, -⟩
  obtain ⟨-, last⟩ := List.append_inj' ops rfl
  obtain rfl := PortOp.run.inj (List.singleton_inj.mp last)
  have waits : (if ws.length = 64 ∨ start + ws.length = 0x1000 then RunPhase.waiting else .receiving) = .waiting :=
    if_pos (.inl full)
  exact absurd (waits.symm.trans receiving) nofun

theorem burstOps_of_one {start : Nat} {ws : List Word} (some_ : ws ≠ []) (short : ws.length ≤ 64) :
    burstOps start ws = [burstRun start ws] := by
  unfold burstOps
  rw [if_neg some_, if_neg (Nat.not_lt.mpr short), List.take_of_length_le short]

theorem burstOps_of_two {start : Nat} {ws : List Word} (long : 64 < ws.length) :
    burstOps start ws = [burstRun start (ws.take 64), burstRun (start + 64) ((ws.drop 64).take 64)] := by
  have some_ : ws ≠ [] := List.ne_nil_of_length_pos (by omega)
  unfold burstOps
  rw [if_neg some_, if_pos long]

/-- One more word of a burst within the area. -/
theorem receivedOps_burstOps {start : Nat} {ws : List Word} (within : start + ws.length < 0x1000) (w : Word) :
    receivedOps (burstOps start ws) (start + ws.length) w = burstOps start (ws ++ [w]) := by
  have more : (ws ++ [w]).length = ws.length + 1 := List.length_append
  have some_ : ws ++ [w] ≠ [] := List.concat_ne_nil w ws
  rcases Nat.lt_or_ge ws.length 64 with short | full
  · rw [burstOps_of_one some_ (by omega)]
    cases ws with
    | nil =>
      have apart : ¬ ReceivesAt start [] := fun ⟨_, _, ops, _⟩ => List.concat_ne_nil _ _ ops.symm
      exact receivedOps_of_apart apart w
    | cons x ws =>
      rw [burstOps_of_one (List.cons_ne_nil x ws) short.le]
      exact receivedOps_burstRun (earlier := []) short within w
  · rw [burstOps_of_two (ws := ws ++ [w]) (by omega), List.take_append_of_le_length full,
        List.drop_append_of_le_length full]
    rcases Nat.eq_or_lt_of_le full with exact_ | long
    · have first : ws.take 64 = ws := List.take_of_length_le exact_.ge
      have second : ws.drop 64 = [] := List.drop_of_length_le exact_.ge
      rw [burstOps_of_one (List.ne_nil_of_length_pos (by omega)) exact_.ge, first, second, ← exact_]
      exact receivedOps_of_apart (not_receivesAt_burstRun (earlier := []) exact_.symm _) w
    · rw [burstOps_of_two long]
      have rest : (ws.drop 64).length = ws.length - 64 := List.length_drop
      have restMore : (ws.drop 64 ++ [w]).length = (ws.drop 64).length + 1 := List.length_append
      have place : start + ws.length = start + 64 + (ws.drop 64).length := by omega
      rw [place]
      rcases Nat.lt_or_ge (ws.drop 64).length 64 with short | closed
      · rw [List.take_of_length_le short.le, List.take_of_length_le (l := ws.drop 64 ++ [w]) (by omega)]
        exact receivedOps_burstRun (earlier := [_]) short (by omega) w
      · have second : ((ws.drop 64).take 64).length = 64 := List.length_take_of_le closed
        rw [List.take_append_of_le_length closed]
        exact (receivedOps_of_apart (not_receivesAt_burstRun (earlier := [_]) second _) w).trans
          (if_neg (Nat.lt_irrefl 2))

/-- The state in which a burst from a word on has received its words so far. -/
def State.inBurst (s : State) (start : Nat) (ws : List Word) : State :=
  s.relinked { s.port with
    frame := .data .write (BitVec.ofNat 16 (2 * (start + ws.length)))
    shifted := []
    ops := burstOps start ws } (nextWaits (burstOps start ws))

theorem State.busEvents_inBurst {s : State} (taken : ServingWithGrantsTaken s) {start : Nat} (todo : List Word)
    {ws : List Word} (within : start + ws.length + todo.length ≤ 0x1000) (rest : List FrameEvent) :
    (s.inBurst start ws).busEvents (todo.map FrameEvent.writeWord ++ rest) =
      (s.inBurst start (ws ++ todo)).busEvents rest := by
  induction todo generalizing ws with
  | nil => rw [List.append_nil, List.map_nil, List.nil_append]
  | cons w todo ih =>
    rw [List.length_cons] at within
    have address : (BitVec.ofNat 16 (2 * (start + ws.length))).toNat = 2 * (start + ws.length) := by
      rw [BitVec.toNat_ofNat]
      omega
    have word : (BitVec.ofNat 16 (2 * (start + ws.length))).toNat / 2 = start + ws.length := by
      rw [address]
      omega
    have next : BitVec.ofNat 16 (2 * (start + ws.length)) + 2 = BitVec.ofNat 16 (2 * (start + (ws ++ [w]).length)) := by
      rw [List.length_append, List.length_singleton,
        show 2 * (start + (ws.length + 1)) = 2 * (start + ws.length) + 2 by omega]
      exact (BitVec.ofNat_add _ _).symm
    have step : (s.inBurst start ws).frameEvent (.writeWord w) = s.relinked { s.port with
        frame := .data .write (BitVec.ofNat 16 (2 * (start + (ws ++ [w]).length)))
        shifted := []
        ops := burstOps start (ws ++ [w]) } (nextWaits (burstOps start ws)) := by
      rw [State.frameEvent_writeArea (s := s.inBurst start ws) rfl (by omega), word, next,
        ← receivedOps_burstOps (by omega) w]
      rfl
    refine Eq.trans (State.busEvents_relinked taken.1 taken.2 step) ?_
    have joined : ws ++ w :: todo = ws ++ [w] ++ todo := List.append_cons ws w todo
    rw [joined]
    exact ih (ws := ws ++ [w]) (by rw [List.length_append, List.length_singleton]; omega)

theorem atEndOfFrame_burstRun (start : Nat) (ws : List Word) :
    atEndOfFrame (burstRun start ws) = [endedWriteRun start ws] := by
  unfold burstRun
  split
  · rfl
  · rfl

/-- The runs of a burst whose frame has ended. -/
theorem burstOps_atEndOfFrame {start : Nat} {ws : List Word} (some_ : ws ≠ []) :
    (burstOps start ws).flatMap atEndOfFrame = endedWriteRun start (ws.take 64) ::
      if 64 < ws.length then [endedWriteRun (start + 64) ((ws.drop 64).take 64)] else [] := by
  unfold burstOps
  rw [if_neg some_, List.flatMap_cons, atEndOfFrame_burstRun]
  split
  · rw [List.flatMap_singleton, atEndOfFrame_burstRun]
    rfl
  · rfl

theorem burst_acts {s : State} {a : Word} {ws : List Word} (taken : ServingWithGrantsTaken s)
    (idle : s.port.frame = .idle)
    (none_ : s.port.ops = []) (some_ : ws ≠ []) (within : a.toNat / 2 + ws.length ≤ 0x1000) :
    s.busEvents ([.csnFall, .control 0x00, .address a] ++ ws.map FrameEvent.writeWord ++ [.csnRise]) =
      s.relinked { s.port with
        frame := .idle
        shifted := []
        ops := endedWriteRun (a.toNat / 2) (ws.take 64) ::
          if 64 < ws.length then [endedWriteRun (a.toNat / 2 + 64) ((ws.drop 64).take 64)] else [] } true := by
  have begins : ∀ rest, s.busEvents (.csnFall :: .control 0x00 :: .address a :: rest) =
      (s.inBurst (a.toNat / 2) []).busEvents rest := by
    intro rest
    have noOps : s.port.ops = burstOps (a.toNat / 2) [] := none_
    have even : evenAddress a = BitVec.ofNat 16 (2 * (a.toNat / 2 + ([] : List Word).length)) :=
      congrArg (BitVec.ofNat 16) (Nat.mul_comm _ _)
    rw [State.busEvents_writeAddress taken idle]
    unfold State.inBurst
    dsimp only
    rw [noOps, even]
  have waits : nextWaits ((burstOps (a.toNat / 2) ws).flatMap atEndOfFrame) = true := by
    rw [burstOps_atEndOfFrame some_]
    rfl
  rw [List.append_assoc]
  refine Eq.trans (begins (ws.map FrameEvent.writeWord ++ [FrameEvent.csnRise])) ?_
  rw [State.busEvents_inBurst taken ws within, List.nil_append]
  refine Eq.trans (State.busEvents_relinked taken.1 taken.2 (State.frameEvent_csnRise nofun)) ?_
  rw [← burstOps_atEndOfFrame some_]
  exact congrArg (s.relinked _) waits

/-! ### The statement -/

theorem exec_writeArea {s : State} {addr : Word} (taken : ServingWithGrantsTaken s)
    (data : s.port.frame = .data .write addr)
    (area : addr.toNat < 0x2000) (w : Word) :
    exec (.linkFrame [.writeWord w]) s = .next (linkRequested { s with port := { s.port with
      frame := .data .write (addr + 2)
      ops := receivedOps s.port.ops (addr.toNat / 2) w } }) :=
  exec_busEvent taken (State.frameEvent_writeArea data area w)

theorem writeWordsMakeRuns : WriteWordsMakeRuns := by
  unfold WriteWordsMakeRuns
  refine ⟨fun s addr w taken data area => ?_, fun s taken progress =>
    exec_busEvent taken (State.frameEvent_csnRise progress),
    fun s a ws taken idle none_ some_ within => congrArg Host.Outcome.next (burst_acts taken idle none_ some_ within)⟩
  intro i phase leaves
  have received : ∀ {ops}, receivedOps s.port.ops i w = ops → leaves ops := by
    rintro _ rfl
    exact exec_writeArea taken data area w
  refine ⟨fun earlier r ops receiving next => received ?_, fun apart room => received ?_, fun apart full => received ?_⟩
  · rw [ops, receivedOps_of_joins receiving next, Run.receive_eq next]
  · rw [receivedOps_of_apart apart, if_pos room, Run.receive_eq (r := emptyWriteRun i) rfl]
    rfl
  · rw [receivedOps_of_apart apart, if_neg (Nat.not_lt.mpr full)]

end Sys2Proof.Machine
end

section
/-! PROOFS. O25: a read frame shifts out the words of its runs, and requests the runs that follow (R165, R167, R168; log
entries 7, 8 and 26). -/

namespace Sys2Proof.Machine

-- One proof at a time: proofs elaborated side by side each hold a thread's stack.
set_option Elab.async false

/-! ### The runs that have a word (R167) -/

theorem hasWord_eq (i : Nat) : hasWord i = PortOp.covers i := by
  funext op
  cases op with
  | write q v => rfl
  | run r =>
    refine Bool.eq_iff_iff.mpr ?_
    simp only [hasWord, PortOp.covers, Run.covers, decide_eq_true_eq, Bool.and_eq_true, beq_iff_eq, Bool.not_eq_true',
      and_assoc]

theorem hasWord_run {i : Nat} {r : Run} :
    hasWord i (.run r) = true ↔ r.dir = .read ∧ r.stale = false ∧ r.start ≤ i ∧ i < r.start + r.length :=
  decide_eq_true_iff

/-- The run from word i on is requested unless the port has one with word i, or holds two (log entry 8). -/
theorem State.ensureRun_eq (s : State) (i : Nat) :
    s.ensureRun i = s.setOps (s.port.ops ++
      if s.port.ops.any (hasWord i) = true ∨ 2 ≤ runsHeld s.port.ops then [] else [readRunFrom i]) := by
  unfold State.ensureRun
  rw [← hasWord_eq]
  by_cases has : s.port.ops.any (hasWord i) = true
  · rw [if_pos has, if_pos (.inl has), List.append_nil]
    rfl
  · have full : s.port.ops.any (hasWord i) = true ∨ 2 ≤ runsHeld s.port.ops ↔ ¬ runsHeld s.port.ops < 2 := by
      rw [or_iff_right has, Nat.not_lt]
    rw [if_neg has, State.requestReadRun_eq, if_congr full rfl rfl, ite_not]

theorem State.ensureRun_of_has {s : State} {i : Nat} (has : s.port.ops.any (hasWord i) = true) : s.ensureRun i = s := by
  unfold State.ensureRun
  rw [← hasWord_eq]
  exact if_pos has

/-! ### A word of the area falls due (R167, R168) -/

theorem finishRead_of_none {ops : List PortOp} {i : Nat} (none_ : ∀ op ∈ ops, hasWord i op = false) :
    finishRead ops i = ops := by
  unfold finishRead
  rw [← hasWord_eq]
  induction ops with
  | nil => rfl
  | cons op ops ih =>
    obtain ⟨first, rest⟩ := List.forall_mem_cons.mp none_
    rw [List.flatMap_cons, ih rest, if_neg (ne_true_of_eq_false first)]
    rfl

/-- Of the operations one run alone has the word: it is gone, or to be gone at its completion. -/
theorem finishRead_of_run {earlier later : List PortOp} {r : Run} {i : Nat} (has : hasWord i (.run r) = true)
    (alone : ∀ op ∈ earlier ++ later, hasWord i op = false) :
    finishRead (earlier ++ .run r :: later) i = earlier ++ PortOp.shiftedOut (.run r) ++ later := by
  obtain ⟨before, behind⟩ := List.forall_mem_append.mp alone
  have covers : PortOp.covers i (.run r) = true := by
    rw [← hasWord_eq]
    exact has
  have split_ : finishRead (earlier ++ .run r :: later) i =
      finishRead earlier i ++ ((if PortOp.covers i (.run r) then PortOp.shiftedOut (.run r) else [.run r]) ++
        finishRead later i) :=
    List.flatMap_append
  rw [split_, finishRead_of_none before, finishRead_of_none behind, if_pos covers, List.append_assoc]

/-- The run requested from the word after a run on does not have the run's last word. -/
theorem readRunFrom_apart {i next : Nat} (last : i + 1 = next) (within : next ≤ 0x1000) :
    hasWord i (readRunFrom (next % 0x1000)) = false := by
  rw [← Bool.not_eq_true, readRunFrom, hasWord_run]
  dsimp only
  omega

section Due

variable {s : State} {r : Run} {earlier later : List PortOp} {i : Nat} (ops : s.port.ops = earlier ++ .run r :: later)
  (has : hasWord i (.run r) = true) (alone : ∀ op ∈ earlier ++ later, hasWord i op = false)

include ops has alone

theorem find_covers : s.port.ops.find? (PortOp.covers i) = some (.run r) := by
  have before : earlier.find? (PortOp.covers i) = none := by
    rw [← hasWord_eq]
    exact List.find?_eq_none.mpr fun op member => ne_true_of_eq_false (alone op (List.mem_append_left _ member))
  rw [ops, List.find?_append, before, Option.none_or, List.find?_cons_of_pos (hasWord_eq i ▸ has)]

/-- A word whose run the port has: the run's word, the request of the run after it, and what is left of the run. -/
theorem State.readArea_of_run (within : r.start + r.length ≤ 0x1000) :
    let next := (r.start + r.length) % 0x1000
    let kept : List PortOp :=
      if i + 1 < r.start + r.length then [.run r] else if r.phase = .done then [] else [.run { r with stale := true }]
    let requested : List PortOp :=
      if s.port.ops.any (hasWord next) = true ∨ 2 ≤ runsHeld s.port.ops then [] else [readRunFrom next]
    s.readArea i = (r.output i, s.setOps (earlier ++ kept ++ later ++ requested)) := by
  intro next kept requested
  obtain ⟨-, -, -, below⟩ := hasWord_run.mp has
  have ensured : s.ensureRun i = s := State.ensureRun_of_has (List.any_eq_true.mpr ⟨.run r, by simp [ops], has⟩)
  have requests : s.ensureRun next = s.setOps (s.port.ops ++ requested) := s.ensureRun_eq next
  unfold State.readArea
  rw [ensured]
  dsimp only
  rw [find_covers ops has alone]
  show (r.output i, if i + 1 = r.start + r.length then
      (s.ensureRun next).setOps (finishRead (s.ensureRun next).port.ops i)
    else s.ensureRun next) = _
  rw [requests]
  refine congrArg (Prod.mk _) ?_
  by_cases last : i + 1 = r.start + r.length
  · have apart : ∀ op ∈ requested, hasWord i op = false := by
      intro op member
      dsimp only [requested] at member
      split at member
      · exact absurd member List.not_mem_nil
      · rw [List.mem_singleton.mp member]
        exact readRunFrom_apart last within
    have behind : ∀ op ∈ earlier ++ (later ++ requested), hasWord i op = false := by
      rw [← List.append_assoc]
      exact List.forall_mem_append.mpr ⟨alone, apart⟩
    have gone : kept = PortOp.shiftedOut (.run r) := if_neg (by omega)
    have finished : finishRead (s.port.ops ++ requested) i = earlier ++ kept ++ later ++ requested := by
      rw [ops, List.append_assoc, List.cons_append, finishRead_of_run has behind, gone, List.append_assoc _ later]
    rw [if_pos last]
    exact congrArg s.setOps finished
  · have stays : kept = [.run r] := if_pos (by omega)
    rw [if_neg last, ops, stays]
    simp only [List.append_assoc, List.cons_append, List.nil_append]

end Due

/-- A word of the area without a run, while the port holds two. -/
theorem State.readArea_of_full {s : State} {i : Nat} (apart : s.port.ops.any (hasWord i) = false)
    (full : 2 ≤ runsHeld s.port.ops) : s.readArea i = (0xFFFF, s) := by
  have ensured : s.ensureRun i = s := by
    rw [s.ensureRun_eq, if_pos (.inr full), List.append_nil]
    rfl
  have none_ : s.port.ops.find? (PortOp.covers i) = none := by
    rw [← hasWord_eq]
    exact List.find?_eq_none.mpr (List.any_eq_false.mp apart)
  unfold State.readArea
  rw [ensured]
  dsimp only
  rw [none_]

/-- A word of the area without a run is read as with its run requested, while the port has room. -/
theorem State.readArea_of_room {s : State} {i : Nat} (apart : s.port.ops.any (hasWord i) = false) (area : i < 0x1000)
    (room : runsHeld s.port.ops < 2) : s.readArea i = (s.setOps (s.port.ops ++ [readRunFrom i])).readArea i := by
  have requests : s.ensureRun i = s.setOps (s.port.ops ++ [readRunFrom i]) := by
    rw [s.ensureRun_eq, apart, if_neg (not_or.mpr ⟨Bool.false_ne_true, Nat.not_le.mpr room⟩)]
  have own : hasWord i (readRunFrom i) = true := hasWord_run.mpr ⟨rfl, rfl, Nat.le_refl i, by dsimp only; omega⟩
  have ensured : (s.setOps (s.port.ops ++ [readRunFrom i])).ensureRun i = s.setOps (s.port.ops ++ [readRunFrom i]) :=
    State.ensureRun_of_has (List.any_eq_true.mpr ⟨_, List.mem_append_right _ (List.mem_singleton_self _), own⟩)
  unfold State.readArea
  rw [ensured, requests]

theorem State.frameEvent_readArea {s : State} {addr : Word} (data : s.port.frame = .data .read addr)
    (area : addr.toNat < 0x2000) :
    let read := (s.setFrame (.data .read (addr + 2))).readArea (addr.toNat / 2)
    s.frameEvent .readDue = read.2.shiftOut read.1 := by
  have place : (s.setFrame (.data .read (addr + 2))).readAt addr =
      (s.setFrame (.data .read (addr + 2))).readArea (addr.toNat / 2) := by
    unfold State.readAt
    rw [placeOf_of_area area]
  rw [State.frameEvent_readDue data, place]

/-! ### The statement -/

theorem readWordsFollowTheirRuns : ReadWordsFollowTheirRuns := by
  unfold ReadWordsFollowTheirRuns
  refine ⟨fun s a taken address => exec_busEvent taken (State.frameEvent_readAddress address a),
    ?_, fun s addr taken data area apart => ⟨fun full => ?_, fun room => ?_⟩⟩
  · intro s addr r earlier later taken data area ops i has alone _ within next kept requested
    have word := State.readArea_of_run (s := s.setFrame (.data .read (addr + 2))) ops has alone within
    refine exec_busEvent taken ?_
    rw [State.frameEvent_readArea data area, word]
    rfl
  · refine exec_busEvent taken ?_
    rw [State.frameEvent_readArea data area, State.readArea_of_full (s := s.setFrame (.data .read (addr + 2)))
        apart full]
    rfl
  · have word := State.readArea_of_room (s := s.setFrame (.data .read (addr + 2))) apart (by omega) room
    have event : s.frameEvent .readDue =
        (s.setOps (s.port.ops ++ [readRunFrom (addr.toNat / 2)])).frameEvent .readDue := by
      rw [State.frameEvent_readArea data area, word,
        State.frameEvent_readArea (s := s.setOps (s.port.ops ++ [readRunFrom (addr.toNat / 2)])) data area]
      rfl
    have busEvent : s.busEvent .readDue = (s.setOps (s.port.ops ++ [readRunFrom (addr.toNat / 2)])).busEvent
        .readDue := by
      unfold State.busEvent
      rw [if_pos taken.1, event]
      exact (if_pos taken.1).symm
    exact congrArg Host.Outcome.next busEvent

/-- A frame whose control byte is neither read nor write passes by (R165). -/
theorem ignoredFrame_acts {s : State} {b : Byte} (taken : ServingWithGrantsTaken s) (idle : s.port.frame = .idle)
    (none_ : s.port.ops = []) (notRead : b ≠ 0x80) (notWrite : b ≠ 0x00) (a w : Word) :
    s.busEvents [.csnFall, .control b, .address a, .writeWord w, .readDue, .csnRise] =
      s.relinked { s.port with frame := .idle, shifted := [] } false := by
  rw [State.busEvents_control taken idle, if_neg notRead, if_neg notWrite]
  refine Eq.trans (State.busEvents_relinked taken.1 taken.2 (State.frameEvent_of_ignored rfl (.inl ⟨a, rfl⟩))) ?_
  refine Eq.trans (State.busEvents_relinked taken.1 taken.2 (State.frameEvent_of_ignored rfl (.inr (.inl ⟨w, rfl⟩)))) ?_
  refine Eq.trans (State.busEvents_relinked taken.1 taken.2 (State.frameEvent_of_ignored rfl (.inr (.inr rfl)))) ?_
  exact State.busEvents_csnRise_of_none taken.1 taken.2 nofun none_

/-- Settles O25: the write words of a frame, its read words, and a frame that is ignored. -/
theorem framesRequestRuns : Obligations.FramesRequestRuns := by
  unfold Obligations.FramesRequestRuns
  exact ⟨writeWordsMakeRuns, readWordsFollowTheirRuns, fun s b a w taken idle none_ notRead notWrite =>
    congrArg Host.Outcome.next (ignoredFrame_acts taken idle none_ notRead notWrite a w)⟩

end Sys2Proof.Machine
end

section
/-! PROOFS. O13: the start-up sequence and its slots (R7, R182, R188). -/

namespace Sys2Proof.Machine

/-! ### A closing in RUN (R7, R188) -/

/-- A cell path whose closing takes place unless the cell is TRIPPED (R7). -/
def CellPath.closedUnlessTripped (x : CellPath) : CellPath :=
  { x with pathOpen := if x.charge = .tripped then x.pathOpen else false }

/-- In RUN, from the cell's closing step on, a trip alone keeps its path open (R7). -/
theorem State.closePath_of_run {s : State} {c : CellId} (run : s.control.state = .run)
    (reached : closingStep c ≤ s.control.shipStep) :
    s.closePath c = s.setCell c (s.cell c).closedUnlessTripped := by
  unfold CellPath.closedUnlessTripped
  by_cases tripped : (s.cell c).charge = .tripped
  · rw [if_pos tripped]
    unfold State.closePath
    rw [if_pos (by simp [State.openingStands, tripped])]
    cases c <;> rfl
  · rw [State.closePath_eq tripped, if_neg tripped, if_neg (by simp [run, reached])]

theorem State.closeCellA_of_run {s : State} (run : s.control.state = .run) : s.closeCellA = { s with
    control := { s.control with shipStep := 6 }
    cells := { s.cells with a := s.cells.a.closedUnlessTripped } } :=
  State.closePath_of_run (s := s.setControl { s.control with shipStep := 6 }) run (Nat.le_refl 6)

/-! ### The end of the sequence (R182, R188) -/


/-- The end of the sequence in RUN, in the words of the statement (R188). -/
theorem State.endStartup_of_run {s : State} (run : s.control.state = .run) :
    let entersQuiet := s.control.startupAfterPor ∧ s.control.qreq
    let closed : PerCell CellPath := { s.cells with b := s.cells.b.closedUnlessTripped }
    s.endStartup = { s with
      control := { s.control with
        startup := false, shipStep := 0, state := if entersQuiet then .quiet else .run }
      cells := if entersQuiet then quietHolds s closed else closed
      seq := if entersQuiet then quietFreezes s else s.seq } := by
  intro entersQuiet closed
  have shut := State.closePath_of_run (s := s.setControl { s.control with shipStep := 7 }) (c := .b) run (Nat.le_refl 7)
  unfold State.endStartup
  rw [shut]
  dsimp only
  by_cases enters : entersQuiet
  · rw [if_pos enters, if_pos enters, if_pos enters]
    exact (if_pos enters).trans (State.enterQuiet_eq _)
  · rw [if_neg enters, if_neg enters, if_neg enters, ← run]
    exact if_neg enters

/-! ### The beginning of the sequence (R23, R179, R188) -/

/-- The state in which the start-up sequence stands at its first slot (R188). -/
def State.startupBegun (s : State) : State := { s with
  control := { s.control with startup := true, slot := s.shipSlot, state := .run, fastArmed := true,
                              wakeArmed := false, inputOpen := false, shipStep := 5 }
  timer := { count := 0, length := .ms4, running := true }
  port := { s.port with serving := true } }

theorem State.beginStartup_of_slots {s : State} (slots : s.shipSlot ≠ .zero) : s.beginStartup = s.startupBegun := by
  unfold State.beginStartup
  dsimp only
  split
  next zero => exact absurd zero slots
  next => rfl

theorem State.beginStartup_of_zero {s : State} (zero : s.shipSlot = .zero) :
    s.beginStartup = s.startupBegun.closeCellA.endStartup := by
  unfold State.beginStartup
  dsimp only
  split
  next => rfl
  next slots => exact absurd zero slots

theorem exec_startupBegin {s : State} (due : s.startupDue = true) : exec .startupBegin s = .next s.beginStartup :=
  congrArg Host.Outcome.next (if_pos due)

theorem State.startupSlot_of_first {s : State} (started : s.control.startup = true) (first : s.control.shipStep = 5) :
    s.startupSlot = s.closeCellA := by
  unfold State.startupSlot
  rw [if_pos started, first]
  rfl

theorem State.startupSlot_of_second {s : State} (started : s.control.startup = true) (second : s.control.shipStep = 6) :
    s.startupSlot = s.endStartup := by
  unfold State.startupSlot
  rw [if_pos started, second]
  rfl

/-- Settles O13: each closing is one in RUN at the cell's own step, and the end of the sequence reads QREQ. -/
theorem startupSequence : Obligations.StartupSequence := by
  unfold Obligations.StartupSequence
  refine ⟨fun s due slots => ?_, fun s due zero => ?_, fun s started first run => ?_, fun s started second run => ?_⟩
  · exact (exec_startupBegin due).trans (congrArg Host.Outcome.next (State.beginStartup_of_slots slots))
  · have shut := State.closeCellA_of_run (s := s.startupBegun) rfl
    have ended := State.endStartup_of_run (s := s.startupBegun.closeCellA) (by rw [shut]; rfl)
    rw [shut] at ended
    rw [exec_startupBegin due, State.beginStartup_of_zero zero, shut, ended, ← zero]
    rfl
  · exact congrArg Host.Outcome.next
      ((State.startupSlot_of_first started first).trans (State.closeCellA_of_run run))
  · exact congrArg Host.Outcome.next
      ((State.startupSlot_of_second started second).trans (State.endStartup_of_run run))

end Sys2Proof.Machine
end

section
/-! PROOFS. O14 and O15: the edges of QREQ (R181 to R183). -/

namespace Sys2Proof.Machine

theorem State.qreqActs_iff {s : State} {p : PartState} :
    s.qreqActs p = true ↔ s.control.state = p ∧ s.control.startup = false := by
  simp [State.qreqActs]

/-! ### A rise (R182) -/

theorem State.qreqRises_of_low {s : State} (low : s.control.qreq = false) :
    s.qreqRises = if (s.setQreq true).qreqActs .run then (s.setQreq true).enterQuiet else s.setQreq true := by
  unfold State.qreqRises
  rw [low]
  rfl

/-- Settles O14: the line rises, and the entry to QUIET follows where the edge acts. -/
theorem qreqRiseEntersQuiet : Obligations.QreqRiseEntersQuiet := by
  unfold Obligations.QreqRiseEntersQuiet
  refine ⟨fun s low run started => ⟨_, ?_, rfl⟩, fun s low stays => ?_⟩
  · have acts : (s.setQreq true).qreqActs .run = true := State.qreqActs_iff.mpr ⟨run, started⟩
    refine congrArg Host.Outcome.next ?_
    rw [State.qreqRises_of_low low, if_pos acts, State.enterQuiet_eq]
    rfl
  · have ignored : ¬ (s.setQreq true).qreqActs .run = true := mt State.qreqActs_iff.mp stays
    exact congrArg Host.Outcome.next ((State.qreqRises_of_low low).trans (if_neg ignored))

/-! ### A fall (R183) -/

theorem State.qreqFalls_of_high {s : State} (high : s.control.qreq = true) :
    s.qreqFalls = if (s.setQreq false).qreqActs .quiet then ((s.setQreq false).wake true).settle else s.setQreq false :=
  if_pos high

/-- The state that the thaw of a wake finds (R183). -/
def State.woken (s : State) : State := (s.setPartState .run).putHoldBoth .quiet false

theorem State.wake_fresh (s : State) : s.wake true = s.woken.thaw.wakeFreshStep := rfl

theorem State.wakeFresh_woken (s : State) : s.woken.thaw.wakeFresh = s.wakeFresh :=
  State.setting_of_mem (by simp [State.woken]) _ _ _

theorem State.wakeFresh_cases (s : State) : s.wakeFresh = 0 ∨ s.wakeFresh = 1 := by
  have small : s.wakeFresh ≤ 1 := Nat.min_le_left _ _
  omega

/-- Settles O15: the wake is the thaw with the QUIET holds cleared, and then the WAKE_FRESH step. -/
theorem qreqFallWakes : Obligations.QreqFallWakes := by
  unfold Obligations.QreqFallWakes
  refine ⟨fun s high quiet started => ?_, State.wakeFresh_cases, fun s high stays => ?_⟩
  · have acts : (s.setQreq false).qreqActs .quiet = true := State.qreqActs_iff.mpr ⟨quiet, started⟩
    have falls : exec .qreqFall s = .next ((s.setQreq false).woken.thaw.wakeFreshStep).settle :=
      congrArg Host.Outcome.next ((State.qreqFalls_of_high high).trans (if_pos acts))
    have fresh : (s.setQreq false).woken.thaw.wakeFresh = s.wakeFresh := State.wakeFresh_woken _
    refine ⟨(s.setQreq false).woken.thaw, thawsTo_thaw (s.setQreq false).woken, fun zero => ?_, fun one => ?_⟩
    · rw [falls]
      unfold State.wakeFreshStep
      rw [if_neg (by omega)]
    · rw [falls]
      unfold State.wakeFreshStep
      rw [if_pos (fresh.trans one)]
      rfl
  · have ignored : ¬ (s.setQreq false).qreqActs .quiet = true := mt State.qreqActs_iff.mp stays
    exact congrArg Host.Outcome.next ((State.qreqFalls_of_high high).trans (if_neg ignored))

end Sys2Proof.Machine
end

section
/-! PROOFS. What the resets and the entry to SHIP drop: the scan, the probe, the allocation, the channels' tables, the
sequencer's requests and the refresh (R31, R84, R89, R131, R162, R164, R172). -/

namespace Sys2Proof.Machine

/-! ### The allocation and the converter (R23, R31, R89, R131) -/

/-- An allocation in flight is abandoned, and with it a HELD changeover goes back to WAIT (R89, R131). -/
theorem State.abandonAllocation_eq (s : State) : s.abandonAllocation = { s with
    allocator := { s.allocator with inFlight := none }
    selector := { s.selector with
      phase := if s.allocator.inFlight.isSome ∧ s.selector.phase = .held then .wait else s.selector.phase } } := by
  unfold State.abandonAllocation
  split
  next idle =>
    rw [if_neg (by simp [idle]), ← idle]
  next al flight =>
    unfold State.changeoverAbandoned
    split
    next held => rw [if_pos ⟨by rw [flight]; rfl, held⟩]; rfl
    next free => rw [if_neg fun both => free both.2]; rfl

theorem State.dropProbes_eq (s : State) : s.dropProbes = { s with
    converter := { s.converter with probePending := 0, inFlight := droppedProbe s.converter.inFlight } } := by
  unfold State.dropProbes
  cases s.converter.inFlight <;> rfl

/-- At entry to SHIP a probe conversion alone is left to run out (log entry 19). -/
theorem State.dropProbes_abandonScan (s : State) : s.abandonScan.dropProbes = { s with
    converter := { s.converter with
      scan := none, scanPending := 0, probePending := 0, inFlight := onlyDroppedProbe s.converter.inFlight } } := by
  rw [State.dropProbes_eq]
  unfold State.abandonScan
  cases s.converter.inFlight <;> rfl

theorem droppedProbe_onlyDroppedProbe (x : Conversion) : droppedProbe (onlyDroppedProbe x) = onlyDroppedProbe x := by
  cases x <;> rfl

/-! ### The channels (R84) -/

/-- The fetches that wait at the arbiter after both channels are reset (R66, R84). -/
def State.fetchesLeft (s : State) : PerCell (Option Nat) :=
  { a := if s.channels.a.fetch.isSome then none else s.arbiter.fetch.a
    b := if s.channels.b.fetch.isSome then none else s.arbiter.fetch.b }

theorem State.resetChannel_eq (s : State) (c : CellId) : s.resetChannel c = { s with
    channels := s.channels.set c (channelAfterReset s c)
    arbiter := { s.arbiter with
      fetch := s.arbiter.fetch.set c (if (s.channel c).fetch.isSome then none else s.arbiter.fetch.get c) } } := by
  unfold State.resetChannel
  rw [State.dropTable_eq]
  cases c <;> rfl

theorem State.resetChannels_eq (s : State) : (s.resetChannel .a).resetChannel .b = { s with
    channels := { a := channelAfterReset s .a, b := channelAfterReset s .b }
    arbiter := { s.arbiter with fetch := s.fetchesLeft } } := by
  rw [State.resetChannel_eq s .a, State.resetChannel_eq]
  rfl

/-! ### The sequencer (R162, R164) -/

theorem State.resetSeq_eq (s : State) (st : SeqState) : s.resetSeq st .idle = { s with
    seq := seqAfterReset s st
    converter := { s.converter with probePending := 0, inFlight := droppedProbe s.converter.inFlight }
    arbiter := { s.arbiter with
      seqFetch := none, seqWrite := none, awaited := s.arbiter.awaited && !s.arbiter.seqUnderWay } } := by
  unfold State.resetSeq
  rw [State.dropProbes_eq]
  rfl

/-! ### The refresh (R172) -/

/-- A refresh asked for shows the status page as its request leaves it (R172). -/
theorem State.requestRefresh_eq (s : State) : s.requestRefresh = { s with
    refresh := { image := s.requestRefresh.statusImage, marks := [true, true, true, true], count := 0 }
    arbiter := { s.arbiter with refresh := true } } := by
  have shown : s.requestRefresh.statusImage = (s.setRefresh { s.refresh with count := 0 }).statusImage :=
    (s.setRefresh { s.refresh with count := 0 }).statusImage_of_shown _ [true, true, true, true]
      { s.arbiter with refresh := true } s.freeCounter
  rw [shown]
  rfl

end Sys2Proof.Machine
end

section
/-! PROOFS. The entry to SHIP and the ship wake, whole (R186, R187). -/

namespace Sys2Proof.Machine

/-! ### The entry to SHIP (R187) -/

theorem droppedProbe_abandonScan (s : State) :
    droppedProbe s.abandonScan.converter.inFlight = onlyDroppedProbe s.converter.inFlight := by
  unfold State.abandonScan
  cases s.converter.inFlight <;> rfl

/-- The state in SHIP before a pending wake is looked at (R187). -/
def State.shipEntered (s : State) : State :=
  let s1 := (s.abandonScan.abandonAllocation.stopSeqForShip).withdrawRefresh
  { s1 with
    timer := { s1.timer with running := false }
    port := Reset.port
    arbiter := { s1.arbiter with link := false }
    control := { s1.control with state := .ship, fastArmed := false } }

theorem State.enterShip_eq (s : State) :
    s.enterShip = if s.shipEntered.control.wakePending then s.shipEntered.shipWake else s.shipEntered := rfl

/-- The input path opening, the part is in SHIP in the words of the statements. -/
theorem State.shipEntered_of_inputOpen (s : State) :
    (s.setControl { s.control with inputOpen := true, shipStep := 4 }).shipEntered = inShip s := by
  unfold State.shipEntered State.stopSeqForShip
  rw [State.abandonAllocation_eq, State.dropProbes_eq]
  exact congrArg (fun x => { inShip s with converter := { (inShip s).converter with inFlight := x } })
    (droppedProbe_abandonScan s)

theorem State.openInput_eq (s : State) :
    s.openInput = if s.control.wakePending then (inShip s).shipWake else inShip s := by
  unfold State.openInput
  rw [State.enterShip_eq, State.shipEntered_of_inputOpen]
  rfl

/-! ### The ship wake (R187) -/

/-- Without a POR before it, the start-up sequence ends in RUN (R188). -/
theorem State.endStartup_of_wake {s : State} (run : s.control.state = .run)
    (woken : s.control.startupAfterPor = false) :
    s.endStartup = { s with
      control := { s.control with startup := false, shipStep := 0 }
      cells := { s.cells with b := s.cells.b.closedUnlessTripped } } := by
  have stays : ¬ (s.control.startupAfterPor = true ∧ s.control.qreq = true) := fun both =>
    Bool.false_ne_true (woken.symm.trans both.1)
  rw [State.endStartup_of_run run]
  dsimp only
  rw [if_neg stays, if_neg stays, if_neg stays, run]

/-- The columns of the ship wake, before the start-up sequence begins. -/
def State.wakeColumns (s : State) : State :=
  (((s.resetChannel .a).resetChannel .b).resetSeq .idle .idle).wakeMeasurement.wakePower.wakeLink.wakeControl

theorem State.shipWake_begins (s : State) : s.shipWake = s.wakeColumns.beginStartup.requestRefresh := rfl

/-- The start-up sequence begun with every block at its ship wake value. -/
theorem State.wakeColumns_beginStartup (s : State) (image : List Word) :
    { s.wakeColumns.beginStartup with
      refresh := { image := image, marks := [true, true, true, true], count := 0 }
      arbiter := { s.wakeColumns.beginStartup.arbiter with refresh := true } } =
    shipWakeValues s s.control.wakingSource (droppedProbe s.converter.inFlight) image := by
  have mem : s.wakeColumns.mem = s.mem := by
    unfold State.wakeColumns
    rw [State.resetChannels_eq, State.resetSeq_eq]
    rfl
  have slot : s.wakeColumns.shipSlot = s.shipSlot := by
    unfold State.shipSlot
    rw [State.setting_of_mem mem]
  unfold shipWakeValues
  by_cases zero : s.shipSlot = .zero
  · rw [State.beginStartup_of_zero (slot.trans zero), State.closeCellA_of_run rfl, State.endStartup_of_wake rfl rfl,
      decide_eq_true zero]
    unfold State.wakeColumns
    rw [State.resetChannels_eq, State.resetSeq_eq]
    rfl
  · rw [State.beginStartup_of_slots fun h => zero (slot.symm.trans h), decide_eq_false zero]
    unfold State.wakeColumns
    rw [State.resetChannels_eq, State.resetSeq_eq]
    rfl

theorem State.shipWake_eq (s : State) :
    s.shipWake =
      shipWakeValues s s.control.wakingSource (droppedProbe s.converter.inFlight) s.shipWake.statusImage := by
  refine Eq.trans ?_ (s.wakeColumns_beginStartup s.shipWake.statusImage)
  rw [State.shipWake_begins]
  exact State.requestRefresh_eq _

/-- A wake at the entry to SHIP keeps of the state what a wake before the entry would (R187). -/
theorem shipWakeValues_inShip (s : State) (waking : Option Input) (x : Conversion) (image : List Word) :
    shipWakeValues (inShip s) waking x image = shipWakeValues s waking x image := rfl

/-- A wake pending at the entry to SHIP is taken at once. -/
theorem State.shipWake_inShip (s : State) :
    (inShip s).shipWake =
      shipWakeValues s s.control.wakingSource (onlyDroppedProbe s.converter.inFlight)
        (inShip s).shipWake.statusImage := by
  have woken := (inShip s).shipWake_eq
  rw [shipWakeValues_inShip] at woken
  exact woken.trans (congrArg (fun x => shipWakeValues s s.control.wakingSource x (inShip s).shipWake.statusImage)
    (droppedProbe_onlyDroppedProbe s.converter.inFlight))

/-! ### The slots of the opening sequence (R186) -/

theorem exec_shipSlotExpiry {s : State} (entry : s.control.state = .shipEntry) :
    exec .shipSlotExpiry s = .next (s.shipSlotExpires.settleIf (s.control.shipStep == 3)) :=
  congrArg Host.Outcome.next (if_pos entry)

theorem exec_shipSlotExpiry_first {s : State} (entry : s.control.state = .shipEntry) (first : s.control.shipStep = 1) :
    exec .shipSlotExpiry s = .next s.openCellB := by
  rw [exec_shipSlotExpiry entry]
  unfold State.shipSlotExpires
  rw [if_pos entry, first]
  rfl

theorem exec_shipSlotExpiry_second {s : State} (entry : s.control.state = .shipEntry)
    (second : s.control.shipStep = 2) :
    exec .shipSlotExpiry s = .next s.openCellA := by
  rw [exec_shipSlotExpiry entry]
  unfold State.shipSlotExpires
  rw [if_pos entry, second]
  rfl

theorem exec_shipSlotExpiry_third {s : State} (entry : s.control.state = .shipEntry) (third : s.control.shipStep = 3) :
    exec .shipSlotExpiry s = .next s.openInput.settle := by
  rw [exec_shipSlotExpiry entry]
  unfold State.shipSlotExpires
  rw [if_pos entry, third]
  rfl

/-- Settles O17: a slot opens its own path, and the third enters SHIP with a pending wake taken at once. -/
theorem shipSlotsOpenPathsInOrder : Obligations.ShipSlotsOpenPathsInOrder := by
  unfold Obligations.ShipSlotsOpenPathsInOrder
  refine ⟨fun s entry first => exec_shipSlotExpiry_first entry first,
    fun s entry second => exec_shipSlotExpiry_second entry second, fun s entry third asleep => ?_,
    fun s entry third pending => ⟨(inShip s).shipWake.statusImage, ?_, ?_⟩⟩
  · rw [exec_shipSlotExpiry_third entry third, State.openInput_eq, asleep]
    rfl
  · rw [exec_shipSlotExpiry_third entry third, State.openInput_eq, if_pos pending]
    exact congrArg (fun u : State => Host.Outcome.next u.settle) s.shipWake_inShip
  · exact congrArg State.statusImage s.shipWake_inShip

/-! ### The attach wake (R137, R187) -/

theorem State.attachWake_of_entry {s : State} (i : Input) (armed : s.control.wakeArmed = true)
    (entry : s.control.state = .shipEntry) :
    s.attachWake i = if s.control.wakePending then s
      else s.setControl { s.control with wakePending := true, wakingSource := some i } := by
  unfold State.attachWake
  rw [if_pos armed, entry]

theorem State.attachWake_of_ship {s : State} (i : Input) (armed : s.control.wakeArmed = true)
    (ship : s.control.state = .ship) :
    s.attachWake i = (s.setControl { s.control with wakingSource := some i }).shipWake := by
  unfold State.attachWake
  rw [if_pos armed, ship]

theorem exec_attachWakeEvent_of_entry {s : State} (i : Input) (entry : s.control.state = .shipEntry) :
    exec (.attachWakeEvent i) s = .next (if s.control.wakeArmed then s.attachWake i else s) := by
  refine congrArg Host.Outcome.next ?_
  unfold State.wakeCanArrive
  rw [entry]
  cases s.control.wakeArmed <;> rfl

theorem exec_attachWakeEvent_of_ship {s : State} (i : Input) (armed : s.control.wakeArmed = true)
    (ship : s.control.state = .ship) : exec (.attachWakeEvent i) s = .next (s.attachWake i).settle := by
  refine congrArg Host.Outcome.next ?_
  unfold State.wakeCanArrive
  rw [ship, armed]
  rfl

/-- Settles O18: the first event of SHIP_ENTRY is marked, and in SHIP the event is the ship wake. -/
theorem attachWake : Obligations.AttachWake := by
  unfold Obligations.AttachWake
  refine ⟨fun s i armed entry unmarked => ?_, fun s i entry marked => ?_, fun s i armed ship => ?_⟩
  · rw [exec_attachWakeEvent_of_entry i entry, if_pos armed, State.attachWake_of_entry i armed entry, unmarked]
    rfl
  · rw [exec_attachWakeEvent_of_entry i entry]
    by_cases armed : s.control.wakeArmed = true
    · rw [if_pos armed, State.attachWake_of_entry i armed entry, if_pos marked]
    · rw [if_neg armed]
  · have woken := (s.setControl { s.control with wakingSource := some i }).shipWake_eq
    refine ⟨_, ?_, congrArg State.statusImage woken⟩
    rw [exec_attachWakeEvent_of_ship i armed ship, State.attachWake_of_ship i armed ship]
    exact congrArg (fun u : State => Host.Outcome.next u.settle) woken

end Sys2Proof.Machine
end

section
/-! PROOFS. O16: the SHIP command (R121, R185, R186). -/

namespace Sys2Proof.Machine

/-! ### Accepted or refused (R185) -/

theorem State.sourcePresent_iff {s : State} :
    s.sourcePresent = true ↔ (s.selector.wired.state ≠ .detached ∨ s.selector.coil.state ≠ .detached) := by
  simp [State.sourcePresent]

theorem State.shipAccepted_iff {s : State} :
    s.shipAccepted = true ↔ (s.control.state = .run ∨ s.control.state = .quiet) ∧ s.control.startup = false ∧
      s.sourcePresent = false := by
  simp [State.shipAccepted, and_assoc]

theorem State.ship_of_awake {s : State} (awake : s.control.state = .run ∨ s.control.state = .quiet) :
    s.ship = if s.shipAccepted then s.acceptShip else s.refuseShip := by
  unfold State.ship
  rcases awake with run | quiet
  · rw [run]
  · rw [quiet]

theorem exec_ship {s : State} (serving : s.port.serving = true) :
    exec .ship s = .next (s.ship.settleIf s.shipAccepted) :=
  congrArg Host.Outcome.next (if_pos serving)

theorem exec_ship_of_not_accepted {s : State} (serving : s.port.serving = true) (not : ¬ s.shipAccepted = true) :
    exec .ship s = .next s.ship := by
  rw [exec_ship serving, Bool.eq_false_iff.mpr not]
  rfl

/-! ### The acceptance (R121, R186) -/

theorem State.forceOff_ship (s : State) : s.forceOff .ship = { s with transfer := stoppedForShip s.transfer } := by
  unfold State.forceOff stoppedForShip
  cases s.transfer.state <;> rfl

/-- SHIP_ENTRY at its first step (R186). -/
def State.shipBegun (s : State) : State := s.setControl { s.control with
  state := .shipEntry, shipStep := 1, slot := s.shipSlot, wakePending := false, wakingSource := none, wakeArmed := true,
  shipResult := .accepted }

/-- The state in which the acceptance forces the transfer converter OFF. -/
def State.shipReady (s : State) : State :=
  if s.control.state = .quiet then (s.shipBegun.putHoldBoth .quiet false).thaw else s.shipBegun

theorem State.shipAccepted_shipReady (s : State) : ShipAccepted s s.shipReady := by
  unfold ShipAccepted State.shipReady
  refine ⟨fun run => ?_, fun quiet => ?_⟩
  · rw [if_neg (by rw [run]; decide)]
    rfl
  · rw [if_pos quiet]
    exact thawsTo_thaw (s.shipBegun.putHoldBoth .quiet false)

theorem State.shipReady_control (s : State) : s.shipReady.control = s.shipBegun.control := by
  unfold State.shipReady
  split
  · simp
  · rfl

theorem State.acceptShip_of_slots {s : State} (slots : s.shipSlot ≠ .zero) :
    s.acceptShip = { s.shipReady with transfer := stoppedForShip s.shipReady.transfer } := by
  unfold State.acceptShip
  dsimp only
  split
  next zero => exact absurd zero slots
  next => exact s.shipReady.forceOff_ship

theorem State.acceptShip_of_zero {s : State} (zero : s.shipSlot = .zero) :
    s.acceptShip = (s.shipReady.forceOff .ship).openCellB.openCellA.openInput := by
  unfold State.acceptShip
  dsimp only
  split
  next => rfl
  next slots => exact absurd zero slots

/-- With a slot length of 0 the three openings follow at once, with no wake pending. -/
theorem State.openAll_of_no_wake {s : State} (asleep : s.control.wakePending = false) :
    s.openCellB.openCellA.openInput = inShip { s with
      cells := { a := { s.cells.a with pathOpen := true, setPoint := 0 }
                 b := { s.cells.b with pathOpen := true, setPoint := 0 } } } := by
  have stays : s.openCellB.openCellA.control.wakePending = false := asleep
  rw [State.openInput_eq, stays]
  rfl

/-- Settles O16: the command is refused, ignored or accepted by the part state. -/
theorem shipCommand : Obligations.ShipCommand := by
  unfold Obligations.ShipCommand
  refine ⟨fun s serving awake barred => ?_, fun s serving heat => ?_, fun s serving entry => ?_,
    fun s => State.sourcePresent_iff, fun s serving awake started absent => ?_⟩
  · have refused : ¬ s.shipAccepted = true := fun accepted => by
      obtain ⟨-, started, absent⟩ := State.shipAccepted_iff.mp accepted
      rcases barred with h | h
      · exact Bool.false_ne_true (started.symm.trans h)
      · exact Bool.false_ne_true (absent.symm.trans h)
    rw [exec_ship_of_not_accepted serving refused, State.ship_of_awake awake, if_neg refused]
    rfl
  · rw [exec_ship_of_not_accepted serving (by simp [State.shipAccepted_iff, heat])]
    unfold State.ship
    rw [heat]
    rfl
  · rw [exec_ship_of_not_accepted serving (by simp [State.shipAccepted_iff, entry])]
    unfold State.ship
    rw [entry]
  · have accepted : s.shipAccepted = true := State.shipAccepted_iff.mpr ⟨awake, started, absent⟩
    have meaning : exec .ship s = .next s.acceptShip.settle := by
      rw [exec_ship serving, State.ship_of_awake awake, accepted]
      rfl
    refine ⟨s.shipReady, s.shipAccepted_shipReady, fun slots => ?_, fun zero => ?_⟩
    · rw [meaning, State.acceptShip_of_slots slots]
    · have asleep : s.shipReady.control.wakePending = false :=
        congrArg Controller.wakePending s.shipReady_control
      rw [meaning, State.acceptShip_of_zero zero, State.forceOff_ship]
      exact congrArg (fun u : State => Host.Outcome.next u.settle) (State.openAll_of_no_wake asleep)

end Sys2Proof.Machine
end

section
/-! PROOFS. O19: SOFT_RESET, whole (R20, R84, R89, R111, R140, R164, R180, R189). -/

namespace Sys2Proof.Machine

/-! ### The allocation in flight, worked and abandoned (R86, R89, R135) -/

/-- The contract in use is kept, or its V_c and I_c are those that the budget stage of the allocation has read (R135;
log entries 10 and 35). -/
def State.ContractRead (s : State) (contract : Contract) : Prop :=
  contract = s.selector.contract ∨ ∃ al, s.allocator.inFlight = some al ∧
    let b := al.budget.getD (s.budgetRead al.snap)
    contract = { s.selector.contract with vC := b.vC, iC := b.iC }

/-- The model's counter after an event that works the allocation in flight freely (log entry 38). -/
def State.countWorked (s : State) : Nat := s.freeCounter + if s.allocator.inFlight.isSome then 1 else 0

/-- The contract in use with V_c and I_c as a budget stage has them, if it has been read (R135). -/
def Contract.withBudget (k : Contract) (budget : Option BudgetRead) : Contract :=
  match budget with
  | none => k
  | some b => { k with vC := b.vC, iC := b.iC }

/-- A budget stage that is not read anew stands, and one that is read is the one held from then on (R86). -/
theorem State.contractRead_withBudget {s : State} {al : Allocation} {budget : Option BudgetRead}
    (flight : s.allocator.inFlight = some al) (read : ReadOnce al.budget budget (s.budgetRead al.snap)) :
    s.ContractRead (s.selector.contract.withBudget budget) := by
  cases budget with
  | none => exact .inl rfl
  | some b =>
    have held : al.budget.getD (s.budgetRead al.snap) = b := by
      rcases read with held | ⟨unread, now⟩
      · rw [← held, Option.getD_some]
      · rw [unread, Option.getD_none, Option.some.inj now]
    exact .inr ⟨al, flight, by rw [held]; rfl⟩

/-- The allocation in flight, worked as far as the part has come to, is abandoned (R86, R89). -/
theorem State.workFreely_abandonAllocation (s : State) : ∃ contract, s.ContractRead contract ∧
    s.workFreely.abandonAllocation = { s with
      allocator := { s.allocator with inFlight := none }
      selector := { s.selector with
        contract := contract
        phase := if s.allocator.inFlight.isSome ∧ s.selector.phase = .held then .wait else s.selector.phase }
      freeCounter := s.countWorked } := by
  obtain ⟨stands, worked⟩ := stagesWorked_workFreely s
  rw [State.abandonAllocation_eq]
  unfold State.countWorked
  cases flight : s.allocator.inFlight with
  | none =>
    rw [stands flight, flight]
    exact ⟨s.selector.contract, .inl rfl, rfl⟩
  | some al =>
    obtain ⟨w, whole, -, read, -⟩ := worked al flight
    refine ⟨_, State.contractRead_withBudget flight read, ?_⟩
    rw [whole]
    rfl

/-! ### The blocks -/

/-- The state that a SOFT_RESET leaves to its request of a refresh. -/
def State.softResetLeft (s : State) : State :=
  let s1 := s.workFreely.abandonAllocation
  let s2 : State := { s1 with
    cells := { a := s1.cells.a.afterSoftReset, b := s1.cells.b.afterSoftReset }
    allocator := s1.allocator.afterSoftReset
    transfer := Reset.transfer
    notices := { sticky := Reset.sticky, mask := 0 }
    control := { s1.control with shipResult := .none } }
  let s3 := ((s2.clearBandIndices).resetChannel .a).resetChannel .b
  if s3.seqFrozen then s3.resetSeq .frozen .idle else s3.resetSeq .idle .idle

theorem State.softResetBlocks_requests (s : State) : s.softResetBlocks = s.softResetLeft.requestRefresh := rfl

theorem State.resetSeq_of_frozen (s : State) :
    (if s.seqFrozen then s.resetSeq .frozen .idle else s.resetSeq .idle .idle) =
      s.resetSeq (if s.seq.state = .frozen then .frozen else .idle) .idle := by
  unfold State.seqFrozen
  cases s.seq.state <;> rfl

/-- The columns of SOFT_RESET, with the contract that the abandoned allocation leaves. -/
theorem State.softResetLeft_refreshed (s : State) (image : List Word) : ∃ contract, s.ContractRead contract ∧
    { s.softResetLeft with
      refresh := { image := image, marks := [true, true, true, true], count := 0 }
      arbiter := { s.softResetLeft.arbiter with refresh := true } } =
    softResetValues s contract s.countWorked image := by
  obtain ⟨contract, read, abandoned⟩ := s.workFreely_abandonAllocation
  refine ⟨contract, read, ?_⟩
  unfold State.softResetLeft
  rw [abandoned]
  dsimp only
  rw [State.resetSeq_of_frozen, State.resetSeq_eq, State.resetChannels_eq]
  rfl

theorem State.softResetBlocks_eq (s : State) : ∃ contract, s.ContractRead contract ∧
    s.softResetBlocks = softResetValues s contract s.countWorked s.softResetBlocks.statusImage := by
  obtain ⟨contract, read, left⟩ := s.softResetLeft_refreshed s.softResetBlocks.statusImage
  refine ⟨contract, read, Eq.trans ?_ left⟩
  rw [State.softResetBlocks_requests]
  exact State.requestRefresh_eq _

/-! ### The command (R189) -/

theorem State.softResetActs_iff {s : State} :
    s.softResetActs = true ↔ s.control.state ≠ .shipEntry ∧ s.control.state ≠ .ship := by
  simp [State.softResetActs]

theorem exec_softReset {s : State} (serving : s.port.serving = true) :
    exec .softReset s = .next (s.softReset.settleIf s.softResetActs) :=
  congrArg Host.Outcome.next (if_pos serving)

/-- Settles O19: outside SHIP_ENTRY and SHIP every block takes its column, and the refresh asked for shows it. -/
theorem softReset : Obligations.SoftReset := by
  unfold Obligations.SoftReset
  refine ⟨fun s serving entry => ?_, fun s serving awake asleep => ?_⟩
  · have ignored : s.softResetActs = false :=
      Bool.eq_false_iff.mpr fun acts => (State.softResetActs_iff.mp acts).1 entry
    rw [exec_softReset serving]
    unfold State.softReset
    rw [ignored]
    rfl
  · have acts : s.softResetActs = true := State.softResetActs_iff.mpr ⟨awake, asleep⟩
    obtain ⟨contract, read, blocks⟩ := s.softResetBlocks_eq
    refine ⟨contract, s.countWorked, s.softResetBlocks.statusImage, ?_, congrArg State.statusImage blocks, read, rfl⟩
    rw [exec_softReset serving]
    unfold State.softReset
    rw [acts]
    exact congrArg (fun u : State => Host.Outcome.next u.settle) blocks

end Sys2Proof.Machine
end

section
/-! PROOFS. O1 and O2: a step takes the command at the front of the queue, and a command answers a next state with the
queue as it found it (chapter 95). -/

namespace Sys2Proof.Machine

/-! ### One step -/

theorem step_of_pending_cons {s : State} {c : Instr} {rest : List Instr} (front : s.pending = c :: rest) :
    step s = exec c (s.withPending rest) := by
  unfold step
  rw [front]

theorem step_of_pending_nil {s : State} (empty : s.pending = []) : step s = .next s := by
  unfold step
  rw [empty]

/-- Settles O1, by the two shapes of the queue. -/
theorem stepRunsFrontCommand : Obligations.StepRunsFrontCommand := by
  unfold Obligations.StepRunsFrontCommand
  exact ⟨fun _ _ _ front => step_of_pending_cons front, fun _ empty => step_of_pending_nil empty⟩

/-! ### The queue under a command -/

theorem State.pending_powerOnReset (s : State) : s.powerOnReset.pending = s.pending := rfl

theorem State.pending_itemFetchCompleted (s : State) (ws : List Word) :
    (s.itemFetchCompleted ws).pending = s.pending := by
  unfold State.itemFetchCompleted
  split <;> simp

theorem State.pending_seqWriteCompleted (s : State) : s.seqWriteCompleted.pending = s.pending := by
  unfold State.seqWriteCompleted
  split <;> simp

/-- A command leaves the queue as it found it: the queue is in the frame of every effect and of the grants. -/
theorem State.pending_after (s : State) (c : Instr) : (s.after c).pending = s.pending := by
  apply State.after_induction (fun t => t.pending = s.pending) s rfl (c := c)
  case settle => exact fun t same => by simpa using same
  case por => exact s.pending_powerOnReset
  case item => exact fun _ ws _ => s.pending_itemFetchCompleted ws
  case written => exact fun _ _ _ => s.pending_seqWriteCompleted
  -- Every other effect has its frame lemma (Laws/Frames).
  all_goals (intros; simp)

/-- Settles O2: `exec_next` gives the answer, and `State.pending_after` its queue. -/
theorem everyCommandAnswersNext : Obligations.EveryCommandAnswersNext := by
  unfold Obligations.EveryCommandAnswersNext
  exact fun c s => ⟨s.after c, exec_next c s, s.pending_after c⟩

end Sys2Proof.Machine
end
